-- ==== Sys2Proof/Word.lean ====
section
/-! DEFINITION. The octet of a frame. Every other quantity of the Etorus 2216 is a number in a stated range, so it is a
`Nat` or an `Int`; only what the manual sends as bits is a bit vector. -/

namespace Sys2Proof

/-- One byte of a frame's payload (Frame layouts, 11_vehicle_link_tables_and_requests.md). -/
abbrev Byte := BitVec 8

/-- A pattern of the twelve input lines, bit k the electrical level of line k (set: HIGH). -/
abbrev LineLevels := BitVec 12

end Sys2Proof
end

