-- ==== Sys2Proof/Config.lean ====
section
/-! DEFINITION. What the spec leaves open and no load fixes: the model's free values. None has a body, so nothing proved
about the model rests on one. -/

namespace Sys2Proof

/-- FREE VALUE. The command-kind byte of a REPORT frame for a command of which R95 derives no kind (an unknown command
code, a content too short, a MB or ES target that is no position of the device): Frame layouts gives no place to "no kind".
A command that the role's head does not take has the kind of the command alone (assumption log 52). The byte depends on the
time of the take and on the up sequence, so two frames need not agree. Assumption log 26. -/
opaque Config.unnamedKind : Nat → Nat → Byte

/-- FREE VALUE. The sequence byte of a COMMAND frame toward a head: Frame layouts gives the field to Head Link frames too, and
no rule gives its value. It depends on the port and on the number of COMMAND frames that left before, so nothing says how two
of them compare. Assumption log 57. -/
opaque Config.commandSequence : Nat → Nat → Byte

end Sys2Proof
end

