-- ==== Sys2Proof/Syntax.lean ====
section
/-! DEFINITION. The commands the part takes from outside: one constructor of `Instr` per row of spec/opcode_table.json.
A command is a frame of the Vehicle Link or of a Head Link, an event of a receiver, a change of an input's raw level, the
expiry of a named deadline, the transmitter becoming free, or the supply coming and going. -/

namespace Sys2Proof

/-- The car's two pantographs (00_scope.md). -/
inductive Pan where
  | a | b
deriving DecidableEq, Repr

/-- The pantographs a PAN_LOWER names (R63). -/
inductive PanChoice where
  | one (p : Pan)
  | both
deriving DecidableEq, Repr

/-- The role in which a pantograph is raised (R44). -/
inductive PanRole where
  | collect | scrape
deriving DecidableEq, Repr

/-- The function a roof head serves, in the order of the HEAD_COMMAND payload's role byte. -/
inductive Role where
  | switchgear | panA | panB | line | heater | climate | aux1 | aux2
deriving DecidableEq, Repr

/-- The five switchgear devices, in the order of the MOVE command's device byte. -/
inductive Dev where
  | mb | ss | isoA | isoB | es
deriving DecidableEq, Repr

/-- An electrical level of an input line (R81). -/
inductive Level where
  | high | low
deriving DecidableEq, Repr

/-- A route action: an entry of the Route Action Queue or of a Marker List, without its trigger. -/
inductive Action where
  | changeover (target : Nat) (raisePosition : Option Nat)
  | lowerAll
  | scrapeInhibit (on : Bool)
  | reportMark (tag : Nat)
deriving DecidableEq, Repr

/-- What triggers an entry of the Route Action Queue. -/
inductive Trigger where
  | atPosition (p : Nat)
  | onMarker (m : Nat)
deriving DecidableEq, Repr

/-- An entry of the Route Action Queue. -/
structure QueueEntry where
  action : Action
  trigger : Trigger
deriving DecidableEq, Repr

/-- The commands. `seq` is the sequence of the frame that carries a management request or a head command. A management
request stands here with well-encoded fields; one whose code or fields are not well encoded is `unknownRequest` (R192). -/
inductive Instr where
  /-- R200: power-on reset; `levels` are the raw levels read at reset (R93). -/
  | powerOnReset (levels : LineLevels)
  | headLinkLightAppears (port : Fin 8)
  | headLinkLockAchieved (port : Fin 8)
  | headLinkLockLost (port : Fin 8)
  | headLinkLightLost (port : Fin 8)
  | headBadFrame (port : Fin 8)
  | announce (port : Fin 8) (kind serial : Nat)
  | headStatus (port : Fin 8) (payload : List Byte)
  | cell (port : Fin 8) (sequence : Nat) (dividerFault : Bool) (samples : List Int) (current : Nat)
  | roleSilenceExpiry (role : Role)
  | panRaise (seq : Nat) (pan : Pan) (role : PanRole) (profile : Nat)
  | stageDeadlineExpiry (pan : Pan)
  | raiseDeadlineExpiry (pan : Pan)
  | ventGuardExpiry (pan : Pan)
  | lowerDeadlineExpiry (pan : Pan)
  | panLower (seq : Nat) (pans : PanChoice)
  | clearPanFault (seq : Nat) (pan : Pan)
  | moveDeadlineExpiry (dev : Dev)
  | inputRawChange (line : Fin 12) (level : Level)
  | filterDeadlineExpiry (line : Fin 12)
  | inputArm (seq line : Nat)
  | inputClear (seq line : Nat)
  /-- R95: `payload` is the head COMMAND payload, bytes 1.. of the HEAD_COMMAND payload. -/
  | headCommand (seq : Nat) (role : Role) (payload : List Byte)
  | holdDeadlineExpiry (role : Role)
  /-- R114: `quality` is the frame's byte, 0 GOOD and any other value DEGRADED. -/
  | position (position speed quality : Nat)
  | staleDeadlineExpiry
  | queueAppend (seq : Nat) (entries : List QueueEntry)
  | triggerTimerExpiry
  | markerLoad (seq list : Nat) (actions : List Action)
  | queueFlush (seq : Nat)
  | markerFlush (seq list : Nat)
  | changeoverStart (seq target : Nat) (raisePosition : Option Nat)
  | raiseTimerExpiry
  | changeoverProceed (seq : Nat)
  | verifyDeadlineExpiry
  | changeoverAbort (seq : Nat)
  | iceMode (seq setting : Nat)
  | vlLightAppears
  | vlLockAchieved
  | vlLockLost
  | vlLightLost
  | vlBadFrame
  | vlSilenceExpiry
  | mgmtRequestDiscarded
  /-- R193: `records` are the bytes of the block's records, after the table byte. -/
  | loadTableFirst (seq table : Nat) (records : List Byte)
  | loadTableMiddle (seq table : Nat) (records : List Byte)
  | loadTableLast (seq table : Nat) (records : List Byte)
  | loadTableOnly (seq table : Nat) (records : List Byte)
  | readTable (seq table start : Nat)
  | readRecord (seq record : Nat)
  | setModeRun (seq : Nat)
  | setModeStandby (seq : Nat)
  | restart (seq : Nat)
  | clearCounters (seq : Nat)
  | statusTimerExpiry
  | transmitterFree
  | unknownRequest (seq code : Nat)
  | powerLoss
deriving DecidableEq, Repr

end Sys2Proof
end

