-- ==== Sys2Proof/Machine/State.lean ====
section
/-! DEFINITION. The state of the Etorus 2216: every item of state the eleven blocks own, grouped by block, as plain data,
and `State.reset`, the part right after a power-on reset. Deadlines are absolute times of the clock `now`, in
milliseconds. -/

namespace Sys2Proof.Machine

/-! ## Names -/

/-- The operating modes (11, Modes). -/
inductive Mode where
  | standby | run
deriving DecidableEq, Repr

/-- The origin of a head command (06, Commands and their origins). -/
inductive Origin where
  | vehicle | sequencer | pan | ice | protection
deriving DecidableEq, Repr

/-- The positions of the switchgear devices; which of them a device has is `Dev.positions`. -/
inductive Pos where
  | opened | closed | ac | dc | mid | earthed | unknown
deriving DecidableEq, Repr

/-- The command kinds by which the Command Gate decides (06, Commands and their origins). -/
inductive Kind where
  | mbClose | mbOpen | ssMove | isoAMove | isoBMove | esEarth | esOpen | ramp | hold | vent | setGroups | aux
deriving DecidableEq, Repr

/-- The failed conditions of R110 in its order, then the four raise interlocks of R45. -/
inductive Failed where
  | kind | masked | origin
  | h11 | h12 | h13 | h14 | h15 | h16 | h17 | h2 | h3 | h41 | h42 | h51 | h52 | h53
  | mbOpen | mbClosed | ssAc | ssDc | lineSystem | lineDead | positionFresh | noChangeover | belowSpeed
  | busy | deviceMoving | range | expired | headLost | table
  | raiseRoofAccess | raiseEs | raiseOther | raiseIso
deriving DecidableEq, Repr

/-- The results of a management request and of an internal request (11, Request and reply envelope). -/
inductive Result where
  | done | accepted | already | noop
  | busy | mode | notReady | tableInvalid | sequence | full | markerInUse | unknownSystem | headAbsent | interlock
  | notCleared | notActive | fault | range
deriving DecidableEq, Repr

/-! ## Line Monitor (01, 02) -/

/-- The class of a completed window (R23). -/
inductive WindowClass where
  | over | dead | unknown
  | system (code : Nat)
deriving DecidableEq, Repr

/-- The confirmed line state (02, Persistence and the confirmed state). -/
inductive LineState where
  | noSense | dead | unknown | over
  | system (code : Nat)
deriving DecidableEq, Repr

/-- Why the confirmed state changed (R31). -/
inductive LineCause where
  | window | fastDead | lineLost | table
deriving DecidableEq, Repr

/-- The side of the hysteresis band last seen (R9). -/
inductive Crossing where
  | unset | above | below
deriving DecidableEq, Repr

/-- The window accumulator (01, The window accumulator); empty when `cells` is 0. -/
structure Accumulator where
  cells : Nat := 0
  index : Nat := 0
  s1 : Int := 0
  s2 : Nat := 0
  crossing : Crossing := .unset
  count : Nat := 0
  first : Option Nat := none
  last : Option Nat := none
  sat : Bool := false
  currentSum : Nat := 0
deriving DecidableEq, Repr

/-- The result of a closed window (R12 step 3). -/
structure WindowResult where
  m : Int
  vac : Nat
  f : Nat
  c : Nat
  iw : Nat
  sat : Bool
deriving DecidableEq, Repr

/-- An entry of the Window Digest FIFO (R17). -/
structure DigestEntry where
  sequence : Nat
  m : Int
  vac : Nat
  f : Nat
  cls : WindowClass
  sat : Bool
  iw : Nat
deriving DecidableEq, Repr

/-- The persistence candidate (R29). -/
structure Candidate where
  cls : WindowClass
  count : Nat
deriving DecidableEq, Repr

/-- The run-start record of the dead run (R33). -/
structure RunStart where
  eligible : Bool
  position : Option Nat
  state : LineState
deriving DecidableEq, Repr

/-- A contact-loss entry of the Arc Ring (R34). -/
structure ArcEntry where
  position : Option Nat
  length : Nat
  state : LineState
deriving DecidableEq, Repr

/-- The Line Monitor's state: accumulator, expected sequence, Line Record, run-start record, Arc Ring and digests. -/
structure LineMonitor where
  acc : Accumulator := {}
  expected : Option Nat := none
  confirmed : LineState := .noSense
  candidate : Option Candidate := none
  last : Option WindowResult := none
  windowSequence : Nat := 0
  gapCount : Nat := 0
  deadRun : Nat := 0
  confirmedSince : Option Nat := none
  runStart : Option RunStart := none
  arcs : List ArcEntry := []
  digests : List DigestEntry := []
  overflow : Bool := false
deriving DecidableEq, Repr

/-! ## Pantograph Controller (03) -/

/-- The states of a pantograph. -/
inductive PanState where
  | down | raising | up | lowering | fault
deriving DecidableEq, Repr

/-- The lower causes (03, Lower causes). -/
inductive LowerCause where
  | vehicle | changeover | scrapeEnd | standby | protect | strip | drop | raiseTimeout | roofAccess | headLost
deriving DecidableEq, Repr

/-- The kind of a lower cause (R52). -/
inductive CauseKind where
  | orderly | immediate
deriving DecidableEq, Repr

/-- The lowering phases (R53). -/
inductive LowerPhase where
  | awaitMb | venting
deriving DecidableEq, Repr

/-- The fault latches. -/
inductive FaultLatch where
  | strip | drop | raiseTimeout | lowerTimeout
deriving DecidableEq, Repr

/-- A Pan Record (03, The Pan Records). -/
structure PanRecord where
  state : PanState := .lowering
  role : Option PanRole := none
  profile : Option Nat := none
  raiseOrigin : Option Origin := none
  stage : Option Nat := none
  stageDeadline : Option Nat := none
  raiseDeadline : Option Nat := none
  causes : List LowerCause := [.protect]
  primary : Option LowerCause := some .protect
  phase : Option LowerPhase := some .venting
  ventGuard : Option Nat := none
  lowerDeadline : Option Nat := none
  latch : Option FaultLatch := none
  lastHold : Option Nat := none
  measured : Option Nat := none
  headFault : Bool := false
  vent : Bool := true
deriving DecidableEq, Repr

/-- The two Pan Records. -/
structure Pans where
  a : PanRecord := {}
  b : PanRecord := {}
deriving DecidableEq, Repr

/-! ## Switchgear Tracker (04) -/

/-- A move in flight: its origin, its deadline and the timeout that set it, which R73 reports. -/
structure Move where
  origin : Origin
  deadline : Nat
  timeout : Nat
deriving DecidableEq, Repr

/-- The entry of one device in the Switchgear Record; it is MOVING while `move` is present and IDLE otherwise. -/
structure Device where
  reported : Pos := .unknown
  target : Option Pos := none
  move : Option Move := none
  mark : Option Pos := none
deriving DecidableEq, Repr

/-- The Switchgear Record and the MB_TRIP demand. -/
structure Switchgear where
  mb : Device := {}
  ss : Device := {}
  isoA : Device := {}
  isoB : Device := {}
  es : Device := {}
  mbTrip : Bool := true
deriving DecidableEq, Repr

/-- What a STATUS frame or the loss of the head did to a device (R68). -/
inductive ChangeMark where
  | ended | during | uncommanded
deriving DecidableEq, Repr

/-! ## Discrete Line Unit (05) -/

/-- The filtered level of an input line. -/
inductive Filtered where
  | high | low | unsettled
deriving DecidableEq, Repr

/-- The direction of an edge (R86). -/
inductive Edge where
  | toActive | toInactive
deriving DecidableEq, Repr

/-- An event latch with its latched edge (05, Event latches). -/
inductive Latch where
  | disarmed
  | armed
  | latched (edge : Edge) (position : Option Nat)
deriving DecidableEq, Repr

/-- An Input Record. -/
structure InputRecord where
  raw : Level := .low
  filtered : Filtered := .unsettled
  deadline : Option Nat := some 64
  bounce : Nat := 0
  latch : Latch := .disarmed
deriving DecidableEq, Repr

/-! ## Command Gate (06) -/

/-- The content of a head command (11, COMMAND payload). -/
inductive Content where
  | move (dev : Dev) (target : Pos)
  | ramp (target rate : Nat)
  | hold (pressure : Nat)
  | vent
  | setGroups (groups : BitVec 6)
  | aux
deriving DecidableEq, Repr

/-- A head command before the gate: its role, content, COMMAND payload as it goes to the head, and origin, with the
sequence of the HEAD_COMMAND frame for origin VEHICLE. -/
structure Command where
  role : Role
  content : Content
  payload : List Byte
  origin : Origin
  seq : Option Nat := none
deriving DecidableEq, Repr

/-- A held vehicle command (06, Hold slots). -/
structure Held where
  command : Command
  seq : Nat
  deadline : Nat
  failed : Failed
deriving DecidableEq, Repr

/-! ## Position and Route Unit (07) -/

/-- The Position Record. -/
structure PositionRecord where
  last : Option Nat := none
  speed : Nat := 0
  good : Bool := true
  frameTime : Option Nat := none
  frameStale : Option Nat := none
  fresh : Bool := false
  staleDeadline : Option Nat := none
  jumps : Nat := 0
deriving DecidableEq, Repr

/-- Where an action comes from: the Route Action Queue or a Marker List. -/
inductive Source where
  | queue | m0 | m1
deriving DecidableEq, Repr

/-- The Position and Route Unit's state. -/
structure Route where
  position : PositionRecord := {}
  queue : List QueueEntry := []
  m0 : List Action := []
  m1 : List Action := []
  appended : Nat := 0
  fired : Nat := 0
  flushed : Nat := 0
  triggerTimer : Option Nat := none
deriving DecidableEq, Repr

/-! ## Changeover Sequencer (08) -/

/-- The steps of a changeover. -/
inductive CoStep where
  | idle | opening | loweringOld | selecting | awaitRaise | raisingNew | verifying | closing | halted | aborting
deriving DecidableEq, Repr

/-- Where a CHANGEOVER_START came from. -/
inductive CoOrigin where
  | route | marker | vehicle
deriving DecidableEq, Repr

/-- The abort reasons. -/
inductive AbortReason where
  | mbStuck | switchgearFault | panFault | panLowered | wrongSystem | over | interlock | refused | mbClosed | mbOpened
  | senseLost | headLost | standby | linkLost | vehicle | restart
deriving DecidableEq, Repr

/-- What is kept for the CHANGEOVER_RESULT report of an abort by a refusal (R138): the gate's failed condition or the
answer. -/
inductive AbortDetail where
  | failed (f : Failed)
  | answer (r : Result)
deriving DecidableEq, Repr

/-- The result of a changeover. -/
inductive CoResult where
  | done | noop
  | aborted (reason : AbortReason)
deriving DecidableEq, Repr

/-- The Changeover Record, with what R154 says is kept for the result report (`detail`, `abortStep`). -/
structure Changeover where
  step : CoStep := .idle
  target : Option Nat := none
  origin : Option CoOrigin := none
  raisePosition : Option Nat := none
  usable : Option Bool := none
  oldSystem : Option Nat := none
  newPan : Option Pan := none
  kept : Bool := false
  requested : List (Dev × Pos) := []
  awaited : List Pan := []
  verifyDeadline : Option Nat := none
  raiseTimer : Option Nat := none
  abortReason : Option AbortReason := none
  lastResult : Option CoResult := none
  detail : Option AbortDetail := none
  abortStep : Option CoStep := none
deriving DecidableEq, Repr

/-! ## Ice Control (09) -/

/-- The ice mode setting. -/
inductive IceSetting where
  | off | auto | forceHeat
deriving DecidableEq, Repr

/-- The ice state. -/
inductive IceState where
  | inactive | watch | heat | scrape
deriving DecidableEq, Repr

/-- The scrape phase. -/
inductive ScrapePhase where
  | isoOpening | raising | active
deriving DecidableEq, Repr

/-- The climate values; `current` is the mark CURRENT, clear for AGED. -/
structure Climate where
  ambient : Int
  humidity : Nat
  stripA : Int
  stripB : Int
  current : Bool
deriving DecidableEq, Repr

/-- A set of heater groups 1..6, bit g - 1 for group g (Frame layouts, Sets and lists). -/
abbrev Groups := BitVec 6

/-- The Ice Record. -/
structure Ice where
  setting : IceSetting := .off
  state : IceState := .inactive
  score : Nat := 0
  base : Nat := 0
  arcCount : Nat := 0
  climate : Option Climate := none
  inhibit : Bool := false
  holdOff : Bool := false
  scrapePan : Option Pan := none
  phase : Option ScrapePhase := none
  headroom : Nat := 0
  budget : Nat := 0
  allocated : Groups := 0
  commanded : Option Groups := none
  actual : Option Groups := none
deriving DecidableEq, Repr

/-- The cause of an ICE report (R171). -/
inductive IceCause where
  | score
  | permission (condition : Nat)
  | mode
  | setting
  | entryFailed (answer : Option Result)
  | scrapePan (state : PanState)
  | heaterMismatch (groups : Groups)
deriving DecidableEq, Repr

/-! ## Head Port Controller (10) -/

/-- The link state of a head port. -/
inductive PortLink where
  | down | acquiring | locked | barred
deriving DecidableEq, Repr

/-- A Port Record. -/
structure PortRecord where
  link : PortLink := .acquiring
  kind : Option Nat := none
  serial : Option Nat := none
  badFrames : Nat := 0
  badRun : Nat := 0
deriving DecidableEq, Repr

/-- The presence of a role. -/
inductive Presence where
  | absent | present | lost
deriving DecidableEq, Repr

/-- A Role Record. -/
structure RoleRecord where
  presence : Presence := .absent
  silenceDeadline : Option Nat := none
  lastForwarded : Option (List Byte) := none
  undelivered : Nat := 0
deriving DecidableEq, Repr

/-- The cause of a HEAD_STATE report (R182). -/
inductive HeadCause where
  | present | silence | link | headChanged | directory | barred | undelivered
deriving DecidableEq, Repr

/-! ## Vehicle Link Interface: tables (11) and their records -/

/-- A validation reason (Frame layouts, Reasons and failed conditions). -/
inductive Reason where
  | empty | field | order | duplicate | reference | length | key | conflict | overflow
deriving DecidableEq, Repr

/-- The load state of a table (11, Table loading). -/
inductive LoadState where
  | empty | loading | valid
  | invalid (reason : Reason) (index : Nat)
deriving DecidableEq, Repr

/-- A table: its load state and the records it holds, in table order. -/
structure Table (ρ : Type) where
  load : LoadState := .empty
  records : List ρ := []
deriving DecidableEq, Repr

/-- An enumerated field as received: one of its named values, or a byte that names none. -/
inductive Coded (α : Type) where
  | named (v : α)
  | unnamed (byte : Byte)
deriving DecidableEq, Repr

/-- Telemetry forwarding of a role (R184). -/
inductive Forwarding where
  | all | changes | none
deriving DecidableEq, Repr

/-- Vehicle access to a role (R97). -/
inductive Access where
  | full | readOnly
deriving DecidableEq, Repr

/-- A HEAD_DIRECTORY record (10). -/
structure DirectoryRecord where
  role : Coded Role
  port : Nat
  kind : Nat
  silence : Nat
  forwarding : Coded Forwarding
  access : Coded Access
deriving DecidableEq, Repr

/-- A GATE record (06); `origins` and `conditions` are the sets as sent, bits past the named values included. -/
structure GateRecord where
  role : Coded Role
  kind : Coded Kind
  origins : BitVec 8
  conditions : BitVec 16
  speedLimit : Option Nat
  holdTime : Nat
deriving DecidableEq, Repr

/-- The SS setting a line system requires. -/
inductive Selector where
  | ac | dc
deriving DecidableEq, Repr

/-- The pan set of a line system. -/
inductive PanSet where
  | a | b | aOrB
deriving DecidableEq, Repr

/-- A SYSTEM record (02). -/
structure SystemRecord where
  code : Nat
  vacLo : Nat
  vacHi : Nat
  dcLo : Nat
  dcHi : Nat
  fLo : Nat
  fHi : Nat
  selector : Coded Selector
  panSet : Coded PanSet
  preferred : Coded Pan
  raiseProfile : Nat
  persistence : Nat
  iMax : Nat
  budget : Nat
  scrapePermitted : Coded Bool
  scrapeSpeed : Option Nat
  scrapeProfile : Option Nat
deriving DecidableEq, Repr

/-- A ramp stage: target pressure in mbar and rate in mbar/s. -/
structure Stage where
  target : Nat
  rate : Nat
deriving DecidableEq, Repr

/-- A RAISE_PROFILE record (03). -/
structure ProfileRecord where
  number : Nat
  stages : List Stage
  holdBase : Nat
  gain : Nat
  maxPressure : Nat
  timeout : Nat
deriving DecidableEq, Repr

/-- The function of an input line (05). -/
inductive InputFunction where
  | panAUp | panADown | panBUp | panBDown | stripA | stripB | marker0 | marker1 | roofAccess | general
deriving DecidableEq, Repr

/-- The event sense of an input line (R86). -/
inductive Sense where
  | none | toActive | toInactive | both
deriving DecidableEq, Repr

/-- An INPUT_MAP record (05). -/
structure InputMapRecord where
  line : Nat
  function : Coded InputFunction
  filter : Nat
  active : Coded Level
  sense : Coded Sense
deriving DecidableEq, Repr

/-- The link-loss policy. -/
inductive Policy where
  | hold | lower
deriving DecidableEq, Repr

/-- The SETTINGS record (R194). -/
structure Settings where
  windowLength : Nat
  hysteresis : Nat
  deadThreshold : Nat
  deadConfirm : Nat
  unknownPersistence : Nat
  staleLimit : Nat
  jumpBack : Nat
  jumpForward : Nat
  vlSilence : Nat
  policy : Coded Policy
  statusPeriod : Nat
  digestThreshold : Nat
  mbOpen : Nat
  mbClose : Nat
  ss : Nat
  iso : Nat
  es : Nat
  ventGuard : Nat
  lowerTimeout : Nat
  verifyTimeout : Nat
  heatOn : Nat
  heatOff : Nat
  scrapeOn : Nat
  scrapeOff : Nat
  arcWeight : Nat
  arcCap : Nat
  arcWindow : Nat
deriving DecidableEq, Repr

/-- A HEATER record (R167). -/
structure HeaterRecord where
  group : Nat
  power : Nat
  watch : Coded Bool
deriving DecidableEq, Repr

/-- A CLIMATE record (R158). -/
structure ClimateRecord where
  tempLo : Int
  tempHi : Int
  humMin : Nat
  points : Nat
deriving DecidableEq, Repr

/-- The eight tables. -/
structure Tables where
  directory : Table DirectoryRecord := {}
  gate : Table GateRecord := {}
  system : Table SystemRecord := {}
  profiles : Table ProfileRecord := {}
  inputs : Table InputMapRecord := {}
  settings : Table Settings := {}
  heater : Table HeaterRecord := {}
  climate : Table ClimateRecord := {}
deriving DecidableEq, Repr

/-- The link state of the Vehicle Link. -/
inductive VlLink where
  | down | acquiring | locked
deriving DecidableEq, Repr

/-- A reply of the Reply Queue: the MGMT_REPLY payload's parts (11, Request and reply envelope). -/
structure Reply where
  seq : Nat
  code : Nat
  result : Result
  clamped : Nat := 0
  data : List Byte := []
deriving DecidableEq, Repr

/-- The Vehicle Link Interface's state: the Link Record, the Reply Queue, the operating mode and the tables. `active` is
the silence ACTIVE, clear for SILENT. -/
structure VehicleLink where
  link : VlLink := .acquiring
  active : Bool := false
  silenceDeadline : Option Nat := none
  badFrames : Nat := 0
  badRun : Nat := 0
  replyOverrun : Bool := false
  restartPending : Bool := false
  replies : List Reply := []
  mode : Mode := .standby
  tables : Tables := {}
deriving DecidableEq, Repr

/-! ## Report Unit (12) -/

/-- The cause of a protective demand (R36). -/
inductive TripCause where
  | over | wrongSelector | dead | noSense
deriving DecidableEq, Repr

/-- The outcome that a GATE report tells (R110). -/
inductive GateOutcome where
  | refused | held | admitted
deriving DecidableEq, Repr

/-- The cause of a QUEUE_FLUSHED report with what R117 or R123 says it carries. -/
inductive FlushCause where
  | jump (removed : Nat) (estimate position : Nat)
  | refused (source : Source) (removed : Nat) (action : Action) (answer : Result)
deriving DecidableEq, Repr

/-- A report: its kind, its instance and the content its owning rule gives. -/
inductive Report where
  /-- R37 -/
  | protectiveTrip (cause : TripCause) (state : LineState) (mb : Pos) (moving : Bool) (window : Nat)
  /-- R41 -/
  | panFault (pan : Pan) (latch : FaultLatch) (causes : List LowerCause) (measured : Option Nat)
  /-- R73 -/
  | switchgearFault (dev : Dev) (target : Pos) (origin : Origin) (reported : Pos) (timeout : Nat)
  /-- R117, R123 -/
  | queueFlushed (cause : FlushCause)
  /-- R182; `expected` with the cause BARRED (R176), `kind`, `origin` and `seq` with UNDELIVERED (R183) -/
  | headState (role : Role) (port : Option Nat) (before after : Presence) (cause : HeadCause) (link : Option PortLink)
      (announced serial expected : Option Nat) (command : Option (Option Kind × Origin × Option Nat))
  /-- R154 -/
  | changeoverResult (result : CoResult) (reason : Option AbortReason) (detail : Option AbortDetail) (target : Option Nat)
      (origin : Option CoOrigin) (oldSystem : Option Nat) (newPan : Option Pan) (kept : Bool) (abortStep : Option CoStep)
      (line : LineState) (mb : Pos) (estimate : Option Nat)
  /-- R31 -/
  | line (new previous : LineState) (cause : LineCause) (window : Nat) (since : Option Nat)
  /-- R41 -/
  | panState (pan : Pan) (new previous : PanState) (role : Option PanRole)
      (causes : Option (LowerCause × List LowerCause)) (latch : Option FaultLatch)
  /-- R68, R77 -/
  | switchgearState (mb ss isoA isoB es : Pos) (marks : List (Dev × ChangeMark))
  /-- R137 -/
  | changeoverStep (new left : CoStep) (passed : List CoStep) (target : Option Nat) (newPan : Option Pan) (kept : Bool)
      (estimate : Option Nat)
  /-- R122 -/
  | actionFired (source : Source) (action : Action) (trigger : Option Trigger) (estimate : Option Nat) (answer : Result)
  /-- R171 -/
  | ice (before after : IceState) (cause : IceCause) (score base arcs budget : Nat) (allocated : Groups)
  /-- R88 -/
  | inputEvent (line : Fin 12) (function : Option InputFunction) (edge : Edge) (position : Option Nat)
  /-- R110 -/
  | gate (role : Role) (kind : Option Kind) (origin : Origin) (seq : Option Nat) (outcome : GateOutcome)
      (failed lastFailing : Option Failed) (joined : Bool)
  /-- R35 -/
  | contactLoss (entry : ArcEntry) (level : Nat)
  /-- R125 -/
  | markerUnused (marker : Nat) (mode : Mode) (estimate : Option Nat) (depth : Nat) (head : Option Trigger)
  /-- R122, R207 -/
  | reportMark (tag : Nat) (source : Source) (estimate : Option Nat)
deriving DecidableEq, Repr

/-- A report slot (R201). -/
structure Slot where
  report : Option Report := none
  overrun : Bool := false
deriving DecidableEq, Repr

/-- An item of the Telemetry Forward Queue (R184). -/
structure TelemetryItem where
  role : Role
  port : Nat
  kind : Nat
  payload : List Byte
deriving DecidableEq, Repr

/-- The up classes of the Vehicle Link (Frame layouts, Common frame). -/
inductive UpClass where
  | reply | report | status | telemetry | digest
deriving DecidableEq, Repr

/-- A frame of the up direction, less its CRC: class, flags, sequence and payload. -/
structure UpFrame where
  cls : UpClass
  flags : Byte
  seq : Nat
  payload : List Byte
deriving DecidableEq, Repr

/-- The Report Unit's state; the transmitter is sending while `sending` holds the frame taken, and free otherwise. The 44
slots stand in the order of `slotOf`. -/
structure ReportUnit where
  slots : Vector Slot 44 := Vector.replicate 44 {}
  telemetry : List TelemetryItem := []
  statusTimer : Nat := 100
  statusDue : Bool := false
  upSequence : Nat := 0
  sending : Option UpFrame := none
  dropped : Bool := false
deriving DecidableEq, Repr

/-! ## The whole part -/

/-- A COMMAND frame that has left on a head port (R183, assumption log 28). -/
structure SentCommand where
  port : Nat
  payload : List Byte
deriving DecidableEq, Repr

/-- The state of the part. The fields `powered`, `now`, `sent`, `choices` and `pending` are the model's own: whether the
auxiliary supply is there (R91), the clock in milliseconds, the COMMAND frames that have left toward the heads, oldest
first, the order in which blocks that the spec leaves unordered take a change (assumption log 3), and the commands that
wait. -/
structure State where
  powered : Bool := true
  now : Nat := 0
  lm : LineMonitor := {}
  pans : Pans := {}
  sg : Switchgear := {}
  inputs : Vector InputRecord 12 := Vector.replicate 12 {}
  holds : Vector (Option Held) 8 := Vector.replicate 8 none
  pr : Route := {}
  co : Changeover := {}
  ice : Ice := {}
  ports : Vector PortRecord 8 := Vector.replicate 8 {}
  roles : Vector RoleRecord 8 := Vector.replicate 8 {}
  vl : VehicleLink := {}
  ru : ReportUnit := {}
  sent : List SentCommand := []
  choices : List Nat := []
  pending : List Instr := []
deriving DecidableEq, Repr

/-- The part right after a power-on reset: R21, R39, R66, R79, R93, R112, R131, R155, R172, R187, R200 and R208, each
block's field defaults above. The raw levels, which the reset reads (R93), are LOW here (assumption log 7). -/
def State.reset : State := {}

/-- The reasons a step could stop with a fault: none, for the spec gives this block no event after which it stops. -/
inductive Fault where
deriving DecidableEq, Repr

/-- The reasons a step could be refused. -/
inductive Refusal where
  /-- Raised by `exec` alone, for a command that has no meaning yet; safe: the run ends. -/
  | notModelled (mnemonic : String)
deriving DecidableEq, Repr

end Sys2Proof.Machine
end

