-- ==== Sys2Proof/Machine/Names.lean ====
section
/-! DEFINITION. The manual's lists of values in its order, by which an enumerated value has its place (Frame layouts,
Enumerations), and the small tables keyed by them. -/

namespace Sys2Proof.Machine

/-! ## Lists in the manual's order -/

/-- The role order of the HEAD_COMMAND payload. -/
def rolesInOrder : List Role := [.switchgear, .panA, .panB, .line, .heater, .climate, .aux1, .aux2]

/-- The six roles that have a hold slot and that a GATE record may name (R105; 06, The GATE table). -/
def slotRoles : List Role := [.switchgear, .panA, .panB, .heater, .aux1, .aux2]

/-- The five devices. -/
def devsInOrder : List Dev := [.mb, .ss, .isoA, .isoB, .es]

/-- The command kinds in the order of their table (06). -/
def kindsInOrder : List Kind :=
  [.mbClose, .mbOpen, .ssMove, .isoAMove, .isoBMove, .esEarth, .esOpen, .ramp, .hold, .vent, .setGroups, .aux]

/-- The lower causes in the order of their table (03). -/
def causesInOrder : List LowerCause :=
  [.vehicle, .changeover, .scrapeEnd, .standby, .protect, .strip, .drop, .raiseTimeout, .roofAccess, .headLost]

/-- The input functions in the order of the INPUT_MAP field's values (05); the table of functions there pairs them in another
order (DEDUCED, assumption log 63). -/
def functionsInOrder : List InputFunction :=
  [.panAUp, .panADown, .panBUp, .panBDown, .stripA, .stripB, .marker0, .marker1, .roofAccess, .general]

/-- The steps IDLE to ABORTING, 0 to 9 (08). -/
def stepsInOrder : List CoStep :=
  [.idle, .opening, .loweringOld, .selecting, .awaitRaise, .raisingNew, .verifying, .closing, .halted, .aborting]

/-- The abort reasons in the order of their table (08). -/
def reasonsInOrder : List AbortReason :=
  [.mbStuck, .switchgearFault, .panFault, .panLowered, .wrongSystem, .over, .interlock, .refused, .mbClosed, .mbOpened,
   .senseLost, .headLost, .standby, .linkLost, .vehicle, .restart]

/-- The failed conditions of R110, then the raise interlocks of R45. -/
def failedInOrder : List Failed :=
  [.kind, .masked, .origin, .h11, .h12, .h13, .h14, .h15, .h16, .h17, .h2, .h3, .h41, .h42, .h51, .h52, .h53,
   .mbOpen, .mbClosed, .ssAc, .ssDc, .lineSystem, .lineDead, .positionFresh, .noChangeover, .belowSpeed,
   .busy, .deviceMoving, .range, .expired, .headLost, .table, .raiseRoofAccess, .raiseEs, .raiseOther, .raiseIso]

/-- The validation reasons (Frame layouts, Reasons and failed conditions). -/
def validationReasons : List Reason :=
  [.empty, .field, .order, .duplicate, .reference, .length, .key, .conflict, .overflow]

/-- The place of a value in its list, counted from 0. -/
def placeIn {α : Type} [DecidableEq α] (list : List α) (v : α) : Nat := list.idxOf v

/-! ## Roles -/

/-- A role's place in the role order. -/
def roleIndex : Role → Fin 8
  | .switchgear => 0
  | .panA => 1
  | .panB => 2
  | .line => 3
  | .heater => 4
  | .climate => 5
  | .aux1 => 6
  | .aux2 => 7

/-- The head role of a pantograph. -/
def panRole : Pan → Role
  | .a => .panA
  | .b => .panB

/-- The other pantograph. -/
def otherPan : Pan → Pan
  | .a => .b
  | .b => .a

/-- The isolating switch of a pantograph. -/
def isoOf : Pan → Dev
  | .a => .isoA
  | .b => .isoB

/-- The command kinds a role's head takes (06, Commands and their origins). -/
def roleKinds : Role → List Kind
  | .switchgear => [.mbClose, .mbOpen, .ssMove, .isoAMove, .isoBMove, .esEarth, .esOpen]
  | .panA => [.ramp, .hold, .vent]
  | .panB => [.ramp, .hold, .vent]
  | .heater => [.setGroups]
  | .aux1 => [.aux]
  | .aux2 => [.aux]
  | .line => []
  | .climate => []

/-! ## Switchgear devices -/

/-- The positions a device may report, in the order of the Switchgear Record's table (04). -/
def devPositions : Dev → List Pos
  | .mb => [.opened, .closed, .unknown]
  | .ss => [.ac, .dc, .mid, .unknown]
  | .isoA => [.opened, .closed, .unknown]
  | .isoB => [.opened, .closed, .unknown]
  | .es => [.opened, .earthed, .unknown]

/-- The commandable positions of a device: never MID, never UNKNOWN (04). -/
def devTargets : Dev → List Pos
  | .mb => [.opened, .closed]
  | .ss => [.ac, .dc]
  | .isoA => [.opened, .closed]
  | .isoB => [.opened, .closed]
  | .es => [.opened, .earthed]

/-- The position a byte names for a device; a value past the list is UNKNOWN (R68). -/
def devPositionOf (d : Dev) (b : Byte) : Pos := (devPositions d)[b.toNat]?.getD .unknown

/-- The byte of a device's position: its place in the device's list. -/
def devPositionByte (d : Dev) (p : Pos) : Byte := BitVec.ofNat 8 (placeIn (devPositions d) p)

/-- The SS position that is a selector. -/
def selectorPos : Selector → Pos
  | .ac => .ac
  | .dc => .dc

/-- Whether a pan set holds a pantograph; A_OR_B holds both. -/
def PanSet.holds : PanSet → Pan → Bool
  | .a, .a => true
  | .b, .b => true
  | .aOrB, _ => true
  | .a, .b => false
  | .b, .a => false

/-- The level a filtered level shows; UNSETTLED shows none. -/
def filteredLevel : Filtered → Option Level
  | .high => some .high
  | .low => some .low
  | .unsettled => none

/-- The filtered level that a raw level settles to. -/
def settledTo : Level → Filtered
  | .high => .high
  | .low => .low

/-- The line state that a window class confirms. -/
def classState : WindowClass → LineState
  | .over => .over
  | .dead => .dead
  | .unknown => .unknown
  | .system c => .system c

end Sys2Proof.Machine
end

