-- ==== Sys2Proof/Machine/Bytes.lean ====
section
/-! DEFINITION. How fields lie in a payload (11, Frame layouts): numbers most significant byte first, signed fields in two's
complement, an optional field behind a presence byte, a list behind a count byte, an enumerated value as its place. -/

namespace Sys2Proof.Machine

/-! ## Writing -/

/-- A field of one byte. -/
def put8 (n : Nat) : List Byte := [BitVec.ofNat 8 n]

/-- A field of two bytes, most significant first. -/
def put16 (n : Nat) : List Byte := [BitVec.ofNat 8 (n / 256), BitVec.ofNat 8 n]

/-- A field of three bytes. -/
def put24 (n : Nat) : List Byte := BitVec.ofNat 8 (n / 65536) :: put16 n

/-- A field of four bytes. -/
def put32 (n : Nat) : List Byte := put16 (n / 65536) ++ put16 n

/-- A signed field of two bytes. -/
def putSigned16 (v : Int) : List Byte := put16 (v % 65536).toNat

/-- An optional field: the presence byte, then the field when it is there. -/
def putOption {α : Type} (put : α → List Byte) : Option α → List Byte
  | none => [0]
  | some v => 1 :: put v

/-- A list: the count byte, then the items. -/
def putList {α : Type} (put : α → List Byte) (l : List α) : List Byte := put8 l.length ++ l.flatMap put

/-- An enumerated value as its place in its list. -/
def putPlace {α : Type} [DecidableEq α] (list : List α) (v : α) : List Byte := put8 (placeIn list v)

/-- An enumerated field as stored: a named value as its place, any other byte as it was received. -/
def putCoded {α : Type} [DecidableEq α] (list : List α) : Coded α → List Byte
  | .named v => putPlace list v
  | .unnamed b => [b]

/-- A yes/no value, whose list is "yes or no": yes 0, no 1 (assumption log 15). -/
def putYes (b : Bool) : List Byte := put8 (if b then 0 else 1)

/-- A set/clear value, whose list is "set or clear" (assumption log 15). -/
def putSet (b : Bool) : List Byte := putYes b

/-- The bit field of a set of values: bit k when the value at place k of the list is in the set. -/
def setBits {α : Type} [DecidableEq α] (list : List α) (set : List α) : Nat :=
  (list.zipIdx.map fun (v, k) => if set.contains v then 2 ^ k else 0).sum

/-! ## Reading -/

/-- The next byte as a number. -/
def get8 : List Byte → Option (Nat × List Byte)
  | b :: r => some (b.toNat, r)
  | [] => none

/-- The next two bytes as a number. -/
def get16 : List Byte → Option (Nat × List Byte)
  | a :: b :: r => some (a.toNat * 256 + b.toNat, r)
  | _ => none

/-- The next three bytes as a number. -/
def get24 : List Byte → Option (Nat × List Byte)
  | a :: b :: c :: r => some ((a.toNat * 256 + b.toNat) * 256 + c.toNat, r)
  | _ => none

/-- The next four bytes as a number. -/
def get32 : List Byte → Option (Nat × List Byte)
  | a :: b :: c :: d :: r => some (((a.toNat * 256 + b.toNat) * 256 + c.toNat) * 256 + d.toNat, r)
  | _ => none

/-- The value of a two-byte field read as two's complement. -/
def signed16 (n : Nat) : Int := if n < 32768 then (n : Int) else (n : Int) - 65536

/-- The next two bytes as a signed number. -/
def getSigned16 (l : List Byte) : Option (Int × List Byte) :=
  match get16 l with
  | some (n, r) => some (signed16 n, r)
  | none => none

/-- An optional field; a presence byte other than 0 and 1 fits no layout (assumption log 16). -/
def getOption {α : Type} (get : List Byte → Option (α × List Byte)) : List Byte → Option (Option α × List Byte)
  | [] => none
  | b :: r =>
    if b = 0 then some (none, r)
    else if b = 1 then
      match get r with
      | some (v, r') => some (some v, r')
      | none => none
    else none

/-- The next `n` items. -/
def getMany {α : Type} (get : List Byte → Option (α × List Byte)) : Nat → List Byte → Option (List α × List Byte)
  | 0, l => some ([], l)
  | n + 1, l =>
    match get l with
    | none => none
    | some (v, r) =>
      match getMany get n r with
      | none => none
      | some (vs, r') => some (v :: vs, r')

/-- A list behind its count byte. -/
def getList {α : Type} (get : List Byte → Option (α × List Byte)) (l : List Byte) : Option (List α × List Byte) :=
  match get8 l with
  | some (n, r) => getMany get n r
  | none => none

/-- The enumerated value a byte names in its list, or the byte itself where it names none. -/
def codedOf {α : Type} (list : List α) (b : Byte) : Coded α :=
  match list[b.toNat]? with
  | some v => .named v
  | none => .unnamed b

/-- An enumerated field as received. -/
def getCoded {α : Type} (list : List α) : List Byte → Option (Coded α × List Byte)
  | b :: r => some (codedOf list b, r)
  | [] => none

/-- The list "yes or no". -/
def yesNo : List Bool := [true, false]

/-! ## Frame check -/

/-- One bit of the CRC-16 with polynomial x^16 + x^12 + x^5 + 1, most significant bit first. -/
def crcBit (c : BitVec 16) (bit : Bool) : BitVec 16 :=
  if c.getMsbD 0 != bit then (c <<< 1) ^^^ 0x1021 else c <<< 1

/-- One byte of the CRC, bits most significant first. -/
def crcByte (c : BitVec 16) (b : Byte) : BitVec 16 :=
  [0, 1, 2, 3, 4, 5, 6, 7].foldl (fun c k => crcBit c (b.getMsbD k)) c

/-- The CRC of a frame's header and payload: initial value all ones, no final inversion. -/
def crc16 (bytes : List Byte) : BitVec 16 := bytes.foldl crcByte 0xFFFF

/-- A whole frame on a link: header, payload and CRC, the CRC's high byte first. -/
def frameBytes (cls flags : Byte) (seq : Nat) (payload : List Byte) : List Byte :=
  let body := [cls, flags, BitVec.ofNat 8 seq, BitVec.ofNat 8 payload.length] ++ payload
  body ++ put16 (crc16 body).toNat

/-- The parts of a delimited frame whose CRC and length field are right: class, flags, sequence and payload. -/
def openFrame (bytes : List Byte) : Option (Byte × Byte × Byte × List Byte) :=
  match bytes with
  | cls :: flags :: seq :: len :: rest =>
    let payload := rest.take (rest.length - 2)
    if 2 ≤ rest.length ∧ len.toNat = payload.length ∧ len.toNat ≤ 240
        ∧ rest.drop (rest.length - 2) = put16 (crc16 ([cls, flags, seq, len] ++ payload)).toNat
    then some (cls, flags, seq, payload) else none
  | _ => none

end Sys2Proof.Machine
end

