-- ==== Sys2Proof/Machine/Tables.lean ====
section
/-! DEFINITION. The eight loadable tables: how a record lies in a LOAD_TABLE block, how each field is clamped on arrival,
how the table is validated at LAST or ONLY, how a record lies in a READ_TABLE reply, and what its users read of it. -/

namespace Sys2Proof.Machine

/-! ## Lists of named values -/

/-- Forwarding, in the order of its field (10). -/
def forwardings : List Forwarding := [.all, .changes, .none]

/-- Vehicle access, in the order of its field (10). -/
def accesses : List Access := [.full, .readOnly]

/-- Selector, in the order of its field (02). -/
def selectors : List Selector := [.ac, .dc]

/-- Pan set, in the order of its field (02). -/
def panSets : List PanSet := [.a, .b, .aOrB]

/-- The pantographs. -/
def pansInOrder : List Pan := [.a, .b]

/-- Levels, in the order of their field (05). -/
def levels : List Level := [.high, .low]

/-- Event senses, in the order of their field (05). -/
def senses : List Sense := [.none, .toActive, .toInactive, .both]

/-- Link-loss policies, in the order of R194's check: HOLD or LOWER. -/
def policies : List Policy := [.hold, .lower]

/-! ## Clamping -/

/-- A field set to the nearer end of its range. -/
def clampNat (lo hi n : Nat) : Nat := max lo (min hi n)

/-- A signed field set to the nearer end of its range. -/
def clampInt (lo hi n : Int) : Int := max lo (min hi n)

/-- How many fields a clamp changed: the places at which two lists of field values differ. -/
def countChanged {α : Type} [DecidableEq α] : List α → List α → Nat
  | x :: xs, y :: ys => (if x = y then 0 else 1) + countChanged xs ys
  | _, _ => 0

/-! ## HEAD_DIRECTORY (R177) -/

/-- A record as received. -/
def getDirectory (l : List Byte) : Option (DirectoryRecord × List Byte) := do
  let (role, l) ← getCoded rolesInOrder l
  let (port, l) ← get8 l
  let (kind, l) ← get8 l
  let (silence, l) ← get16 l
  let (forwarding, l) ← getCoded forwardings l
  let (access, l) ← getCoded accesses l
  return ({ role, port, kind, silence, forwarding, access }, l)

/-- A record as returned. -/
def putDirectory (r : DirectoryRecord) : List Byte :=
  putCoded rolesInOrder r.role ++ put8 r.port ++ put8 r.kind ++ put16 r.silence ++ putCoded forwardings r.forwarding ++
    putCoded accesses r.access

/-- R177: a port above 7 is 7, a kind of 0 is 1, the silence timeout in 20..500. -/
def clampDirectory (r : DirectoryRecord) : DirectoryRecord × Nat :=
  let c := { r with port := clampNat 0 7 r.port, kind := clampNat 1 255 r.kind, silence := clampNat 20 500 r.silence }
  (c, countChanged [r.port, r.kind, r.silence] [c.port, c.kind, c.silence])

/-- R177: FIELD, then DUPLICATE by role, then DUPLICATE by port. -/
def checkDirectory (earlier : List DirectoryRecord) (r : DirectoryRecord) : Option Reason :=
  match r.role, r.forwarding, r.access with
  | .named _, .named _, .named _ =>
    if earlier.any fun e => e.role == r.role then some .duplicate
    else if earlier.any fun e => e.port == r.port then some .duplicate
    else none
  | _, _, _ => some .field

/-! ## GATE (R103) -/

/-- A record as received; its role is a place among the roles that have a slot (assumption log 14). -/
def getGate (l : List Byte) : Option (GateRecord × List Byte) := do
  let (role, l) ← getCoded slotRoles l
  let (kind, l) ← getCoded kindsInOrder l
  let (origins, l) ← get8 l
  let (conditions, l) ← get16 l
  let (speedLimit, l) ← getOption get16 l
  let (holdTime, l) ← get16 l
  return ({ role, kind, origins := BitVec.ofNat 8 origins, conditions := BitVec.ofNat 16 conditions, speedLimit, holdTime }, l)

/-- A record as returned. -/
def putGate (r : GateRecord) : List Byte :=
  putCoded slotRoles r.role ++ putCoded kindsInOrder r.kind ++ put8 r.origins.toNat ++ put16 r.conditions.toNat ++
    putOption put16 r.speedLimit ++ put16 r.holdTime

/-- Bit 8 of the condition set, BELOW_SPEED (R102's order). -/
def GateRecord.belowSpeed (r : GateRecord) : Bool := r.conditions.getLsbD 8

/-- R103: the speed limit to 12 000, the hold time to 5 000; a speed limit without BELOW_SPEED is dropped. -/
def clampGate (r : GateRecord) : GateRecord × Nat :=
  let limit := r.speedLimit.map (clampNat 0 12000)
  let hold := clampNat 0 5000 r.holdTime
  ({ r with speedLimit := if r.belowSpeed then limit else none, holdTime := hold },
   countChanged [r.speedLimit, some r.holdTime] [limit, some hold])

/-- R103: FIELD, KEY, DUPLICATE, CONFLICT, REFERENCE. -/
def checkGate (earlier : List GateRecord) (r : GateRecord) : Option Reason :=
  match r.role, r.kind with
  | .named role, .named kind =>
    if 16 ≤ r.origins.toNat ∨ 512 ≤ r.conditions.toNat then some .field
    else if ¬ (roleKinds role).contains kind ∨ [Kind.mbOpen, .vent, .esOpen].contains kind then some .key
    else if earlier.any fun e => e.role == r.role && e.kind == r.kind then some .duplicate
    else if (r.conditions.getLsbD 0 && r.conditions.getLsbD 1) || (r.conditions.getLsbD 2 && r.conditions.getLsbD 3)
        || (r.conditions.getLsbD 4 && r.conditions.getLsbD 5) then some .conflict
    else if r.belowSpeed && r.speedLimit.isNone then some .reference
    else none
  | _, _ => some .field

/-! ## SYSTEM (R25, R26) -/

/-- A record as received. -/
def getSystem (l : List Byte) : Option (SystemRecord × List Byte) := do
  let (code, l) ← get8 l
  let (vacLo, l) ← get16 l
  let (vacHi, l) ← get16 l
  let (dcLo, l) ← get16 l
  let (dcHi, l) ← get16 l
  let (fLo, l) ← get24 l
  let (fHi, l) ← get24 l
  let (selector, l) ← getCoded selectors l
  let (panSet, l) ← getCoded panSets l
  let (preferred, l) ← getCoded pansInOrder l
  let (raiseProfile, l) ← get8 l
  let (persistence, l) ← get8 l
  let (iMax, l) ← get16 l
  let (budget, l) ← get16 l
  let (scrapePermitted, l) ← getCoded yesNo l
  let (scrapeSpeed, l) ← getOption get16 l
  let (scrapeProfile, l) ← getOption get8 l
  return ({ code, vacLo, vacHi, dcLo, dcHi, fLo, fHi, selector, panSet, preferred, raiseProfile, persistence, iMax, budget,
            scrapePermitted, scrapeSpeed, scrapeProfile }, l)

/-- A record as returned. -/
def putSystem (r : SystemRecord) : List Byte :=
  put8 r.code ++ put16 r.vacLo ++ put16 r.vacHi ++ put16 r.dcLo ++ put16 r.dcHi ++ put24 r.fLo ++ put24 r.fHi ++
    putCoded selectors r.selector ++ putCoded panSets r.panSet ++ putCoded pansInOrder r.preferred ++ put8 r.raiseProfile ++
    put8 r.persistence ++ put16 r.iMax ++ put16 r.budget ++ putCoded yesNo r.scrapePermitted ++
    putOption put16 r.scrapeSpeed ++ putOption put8 r.scrapeProfile

/-- The numeric fields of a record, an absent one as such. -/
def SystemRecord.numbers (r : SystemRecord) : List (Option Nat) :=
  [some r.code, some r.vacLo, some r.vacHi, some r.dcLo, some r.dcHi, some r.fLo, some r.fHi, some r.raiseProfile,
   some r.persistence, some r.iMax, some r.budget, r.scrapeSpeed, r.scrapeProfile]

/-- R25: the clamps, before the fields of a record without scraping permission are dropped. -/
def SystemRecord.inRange (r : SystemRecord) : SystemRecord :=
  { r with
    code := clampNat 1 15 r.code
    vacLo := clampNat 0 32767 r.vacLo
    vacHi := clampNat 0 32767 r.vacHi
    dcLo := clampNat 0 32767 r.dcLo
    dcHi := clampNat 0 32767 r.dcHi
    fLo := clampNat 0 200000 r.fLo
    fHi := clampNat 0 200000 r.fHi
    raiseProfile := clampNat 0 3 r.raiseProfile
    persistence := clampNat 1 15 r.persistence
    iMax := clampNat 1 4095 r.iMax
    budget := clampNat 0 500 r.budget
    scrapeSpeed := r.scrapeSpeed.map (clampNat 0 12000)
    scrapeProfile := r.scrapeProfile.map (clampNat 0 3) }

/-- R25: clamps, and the dropping of scrape fields where scraping is not permitted. -/
def clampSystem (r : SystemRecord) : SystemRecord × Nat :=
  let c := r.inRange
  (if r.scrapePermitted = .named false then { c with scrapeSpeed := none, scrapeProfile := none } else c,
   countChanged r.numbers c.numbers)

/-- R26: FIELD, ORDER, DUPLICATE, REFERENCE (preferred pan), REFERENCE (scrape fields). -/
def checkSystem (earlier : List SystemRecord) (r : SystemRecord) : Option Reason :=
  match r.selector, r.panSet, r.preferred, r.scrapePermitted with
  | .named _, .named set, .named pref, .named scrape =>
    if ¬ (r.vacLo ≤ r.vacHi ∧ r.dcLo ≤ r.dcHi ∧ r.fLo ≤ r.fHi) then some .order
    else if earlier.any fun e => e.code == r.code then some .duplicate
    else if ¬ set.holds pref then some .reference
    else if scrape && (r.scrapeSpeed.isNone || r.scrapeProfile.isNone) then some .reference
    else none
  | _, _, _, _ => some .field

/-! ## RAISE_PROFILE (R42, R43) -/

/-- A stage as received. -/
def getStage (l : List Byte) : Option (Stage × List Byte) := do
  let (target, l) ← get16 l
  let (rate, l) ← get16 l
  return ({ target, rate }, l)

/-- A stage as returned. -/
def putStage (s : Stage) : List Byte := put16 s.target ++ put16 s.rate

/-- A record as received. -/
def getProfile (l : List Byte) : Option (ProfileRecord × List Byte) := do
  let (number, l) ← get8 l
  let (stages, l) ← getList getStage l
  let (holdBase, l) ← get16 l
  let (gain, l) ← get8 l
  let (maxPressure, l) ← get16 l
  let (timeout, l) ← get16 l
  return ({ number, stages, holdBase, gain, maxPressure, timeout }, l)

/-- A record as returned. -/
def putProfile (r : ProfileRecord) : List Byte :=
  put8 r.number ++ putList putStage r.stages ++ put16 r.holdBase ++ put8 r.gain ++ put16 r.maxPressure ++ put16 r.timeout

/-- A stage clamped to its own ranges. -/
def Stage.inRange (s : Stage) : Stage := { target := clampNat 0 6000 s.target, rate := clampNat 10 5000 s.rate }

/-- R42: the max pressure is clamped first, then each stage's own fields, then each target is lowered to the max
pressure; a field clamped and then lowered counts two. -/
def clampProfile (r : ProfileRecord) : ProfileRecord × Nat :=
  let number := clampNat 0 3 r.number
  let holdBase := clampNat 0 6000 r.holdBase
  let gain := clampNat 0 50 r.gain
  let maxPressure := clampNat 1000 6000 r.maxPressure
  let timeout := clampNat 1000 30000 r.timeout
  let own := r.stages.map Stage.inRange
  let stages := own.map fun s => { s with target := min s.target maxPressure }
  ({ number, stages, holdBase, gain, maxPressure, timeout },
   countChanged [r.number, r.holdBase, r.gain, r.maxPressure, r.timeout] [number, holdBase, gain, maxPressure, timeout]
     + countChanged (r.stages.map (·.target)) (own.map (·.target)) + countChanged (r.stages.map (·.rate)) (own.map (·.rate))
     + countChanged (own.map (·.target)) (stages.map (·.target)))

/-- R43: LENGTH, then DUPLICATE. -/
def checkProfile (earlier : List ProfileRecord) (r : ProfileRecord) : Option Reason :=
  if r.stages.length = 0 ∨ 8 < r.stages.length then some .length
  else if earlier.any fun e => e.number == r.number then some .duplicate
  else none

/-! ## INPUT_MAP (R87) -/

/-- A record as received. -/
def getInputMap (l : List Byte) : Option (InputMapRecord × List Byte) := do
  let (line, l) ← get8 l
  let (function, l) ← getCoded functionsInOrder l
  let (filter, l) ← get8 l
  let (active, l) ← getCoded levels l
  let (sense, l) ← getCoded senses l
  return ({ line, function, filter, active, sense }, l)

/-- A record as returned. -/
def putInputMap (r : InputMapRecord) : List Byte :=
  put8 r.line ++ putCoded functionsInOrder r.function ++ put8 r.filter ++ putCoded levels r.active ++ putCoded senses r.sense

/-- R87: a line above 11 is 11, a filter index above 3 is 3. -/
def clampInputMap (r : InputMapRecord) : InputMapRecord × Nat :=
  let c := { r with line := clampNat 0 11 r.line, filter := clampNat 0 3 r.filter }
  (c, countChanged [r.line, r.filter] [c.line, c.filter])

/-- R87: FIELD, DUPLICATE by line, DUPLICATE by function other than GENERAL. -/
def checkInputMap (earlier : List InputMapRecord) (r : InputMapRecord) : Option Reason :=
  match r.function, r.active, r.sense with
  | .named f, .named _, .named _ =>
    if earlier.any fun e => e.line == r.line then some .duplicate
    else if f ≠ .general ∧ (earlier.any fun e => e.function == r.function) then some .duplicate
    else none
  | _, _, _ => some .field

/-! ## SETTINGS (R194) -/

/-- The record as received, fields in R194's order. -/
def getSettings (l : List Byte) : Option (Settings × List Byte) := do
  let (windowLength, l) ← get8 l
  let (hysteresis, l) ← get16 l
  let (deadThreshold, l) ← get16 l
  let (deadConfirm, l) ← get8 l
  let (unknownPersistence, l) ← get8 l
  let (staleLimit, l) ← get16 l
  let (jumpBack, l) ← get16 l
  let (jumpForward, l) ← get16 l
  let (vlSilence, l) ← get16 l
  let (policy, l) ← getCoded policies l
  let (statusPeriod, l) ← get16 l
  let (digestThreshold, l) ← get8 l
  let (mbOpen, l) ← get16 l
  let (mbClose, l) ← get16 l
  let (ss, l) ← get16 l
  let (iso, l) ← get16 l
  let (es, l) ← get16 l
  let (ventGuard, l) ← get16 l
  let (lowerTimeout, l) ← get16 l
  let (verifyTimeout, l) ← get24 l
  let (heatOn, l) ← get8 l
  let (heatOff, l) ← get8 l
  let (scrapeOn, l) ← get8 l
  let (scrapeOff, l) ← get8 l
  let (arcWeight, l) ← get8 l
  let (arcCap, l) ← get8 l
  let (arcWindow, l) ← get16 l
  return ({ windowLength, hysteresis, deadThreshold, deadConfirm, unknownPersistence, staleLimit, jumpBack, jumpForward,
            vlSilence, policy, statusPeriod, digestThreshold, mbOpen, mbClose, ss, iso, es, ventGuard, lowerTimeout,
            verifyTimeout, heatOn, heatOff, scrapeOn, scrapeOff, arcWeight, arcCap, arcWindow }, l)

/-- The record as returned. -/
def putSettings (r : Settings) : List Byte :=
  put8 r.windowLength ++ put16 r.hysteresis ++ put16 r.deadThreshold ++ put8 r.deadConfirm ++ put8 r.unknownPersistence ++
    put16 r.staleLimit ++ put16 r.jumpBack ++ put16 r.jumpForward ++ put16 r.vlSilence ++ putCoded policies r.policy ++
    put16 r.statusPeriod ++ put8 r.digestThreshold ++ put16 r.mbOpen ++ put16 r.mbClose ++ put16 r.ss ++ put16 r.iso ++
    put16 r.es ++ put16 r.ventGuard ++ put16 r.lowerTimeout ++ put24 r.verifyTimeout ++ put8 r.heatOn ++ put8 r.heatOff ++
    put8 r.scrapeOn ++ put8 r.scrapeOff ++ put8 r.arcWeight ++ put8 r.arcCap ++ put16 r.arcWindow

/-- The numeric fields. -/
def Settings.numbers (r : Settings) : List Nat :=
  [r.windowLength, r.hysteresis, r.deadThreshold, r.deadConfirm, r.unknownPersistence, r.staleLimit, r.jumpBack,
   r.jumpForward, r.vlSilence, r.statusPeriod, r.digestThreshold, r.mbOpen, r.mbClose, r.ss, r.iso, r.es, r.ventGuard,
   r.lowerTimeout, r.verifyTimeout, r.heatOn, r.heatOff, r.scrapeOn, r.scrapeOff, r.arcWeight, r.arcCap, r.arcWindow]

/-- R194: each numeric field in its range; the policy is left to validation. -/
def clampSettings (r : Settings) : Settings × Nat :=
  let c : Settings :=
    { windowLength := clampNat 5 250 r.windowLength
      hysteresis := clampNat 0 4095 r.hysteresis
      deadThreshold := clampNat 100 8000 r.deadThreshold
      deadConfirm := clampNat 5 250 r.deadConfirm
      unknownPersistence := clampNat 1 15 r.unknownPersistence
      staleLimit := clampNat 200 5000 r.staleLimit
      jumpBack := clampNat 0 65535 r.jumpBack
      jumpForward := clampNat 0 65535 r.jumpForward
      vlSilence := clampNat 50 5000 r.vlSilence
      policy := r.policy
      statusPeriod := clampNat 10 1000 r.statusPeriod
      digestThreshold := clampNat 1 64 r.digestThreshold
      mbOpen := clampNat 20 500 r.mbOpen
      mbClose := clampNat 20 1000 r.mbClose
      ss := clampNat 500 10000 r.ss
      iso := clampNat 500 10000 r.iso
      es := clampNat 1000 20000 r.es
      ventGuard := clampNat 50 1000 r.ventGuard
      lowerTimeout := clampNat 2000 15000 r.lowerTimeout
      verifyTimeout := clampNat 1000 120000 r.verifyTimeout
      heatOn := clampNat 0 100 r.heatOn
      heatOff := clampNat 0 100 r.heatOff
      scrapeOn := clampNat 0 100 r.scrapeOn
      scrapeOff := clampNat 0 100 r.scrapeOff
      arcWeight := clampNat 0 20 r.arcWeight
      arcCap := clampNat 0 100 r.arcCap
      arcWindow := clampNat 0 65535 r.arcWindow }
  (c, countChanged r.numbers c.numbers)

/-- R194: FIELD for the policy, then ORDER for the ice thresholds (R160). -/
def checkSettings (_ : List Settings) (r : Settings) : Option Reason :=
  match r.policy with
  | .unnamed _ => some .field
  | .named _ =>
    if r.heatOff < r.heatOn ∧ r.heatOn ≤ r.scrapeOn ∧ r.scrapeOff < r.scrapeOn then none else some .order

/-- The defaults of R194. -/
def defaultSettings : Settings :=
  { windowLength := 50, hysteresis := 300, deadThreshold := 600, deadConfirm := 25, unknownPersistence := 3,
    staleLimit := 1000, jumpBack := 500, jumpForward := 2000, vlSilence := 500, policy := .named .lower,
    statusPeriod := 100, digestThreshold := 16, mbOpen := 80, mbClose := 150, ss := 3000, iso := 2000, es := 5000,
    ventGuard := 300, lowerTimeout := 8000, verifyTimeout := 20000, heatOn := 40, heatOff := 25, scrapeOn := 70,
    scrapeOff := 50, arcWeight := 5, arcCap := 40, arcWindow := 20000 }

/-! ## HEATER (R167) -/

/-- A record as received. -/
def getHeater (l : List Byte) : Option (HeaterRecord × List Byte) := do
  let (group, l) ← get8 l
  let (power, l) ← get8 l
  let (watch, l) ← getCoded yesNo l
  return ({ group, power, watch }, l)

/-- A record as returned. -/
def putHeater (r : HeaterRecord) : List Byte := put8 r.group ++ put8 r.power ++ putCoded yesNo r.watch

/-- R167: group 1..6, power 1..60. -/
def clampHeater (r : HeaterRecord) : HeaterRecord × Nat :=
  let c := { r with group := clampNat 1 6 r.group, power := clampNat 1 60 r.power }
  (c, countChanged [r.group, r.power] [c.group, c.power])

/-- R167: FIELD, then DUPLICATE by group. -/
def checkHeater (earlier : List HeaterRecord) (r : HeaterRecord) : Option Reason :=
  match r.watch with
  | .unnamed _ => some .field
  | .named _ => if earlier.any fun e => e.group == r.group then some .duplicate else none

/-! ## CLIMATE (R158) -/

/-- A record as received. -/
def getClimate (l : List Byte) : Option (ClimateRecord × List Byte) := do
  let (tempLo, l) ← getSigned16 l
  let (tempHi, l) ← getSigned16 l
  let (humMin, l) ← get8 l
  let (points, l) ← get8 l
  return ({ tempLo, tempHi, humMin, points }, l)

/-- A record as returned. -/
def putClimate (r : ClimateRecord) : List Byte := putSigned16 r.tempLo ++ putSigned16 r.tempHi ++ put8 r.humMin ++ put8 r.points

/-- R158: temperatures in -500..+500, humidity and points in 0..100. -/
def clampClimate (r : ClimateRecord) : ClimateRecord × Nat :=
  let c : ClimateRecord :=
    { tempLo := clampInt (-500) 500 r.tempLo, tempHi := clampInt (-500) 500 r.tempHi, humMin := clampNat 0 100 r.humMin,
      points := clampNat 0 100 r.points }
  (c, countChanged [r.tempLo, r.tempHi] [c.tempLo, c.tempHi] + countChanged [r.humMin, r.points] [c.humMin, c.points])

/-- R158: ORDER. -/
def checkClimate (_ : List ClimateRecord) (r : ClimateRecord) : Option Reason :=
  if r.tempHi < r.tempLo then some .order else none

/-! ## Loading and validating any table (R193) -/

/-- The first record, in table order, that fails its checks, with its index. -/
def firstFailure {ρ : Type} (check : List ρ → ρ → Option Reason) :
    List ρ → Nat → List ρ → Option (Reason × Nat)
  | _, _, [] => none
  | earlier, i, r :: rest =>
    match check earlier r with
    | some reason => some (reason, i)
    | none => firstFailure check (earlier ++ [r]) (i + 1) rest

/-- What a table's codec needs: capacity, layout, clamps and checks, and whether a table of no records is valid. -/
structure TableForm (ρ : Type) where
  capacity : Nat
  get : List Byte → Option (ρ × List Byte)
  put : ρ → List Byte
  clamp : ρ → ρ × Nat
  check : List ρ → ρ → Option Reason
  emptyValid : Bool := false

/-- R193's capacities with each table's codec and checks. -/
def directoryForm : TableForm DirectoryRecord := ⟨8, getDirectory, putDirectory, clampDirectory, checkDirectory, false⟩
/-- R103: a GATE table of no records is VALID. -/
def gateForm : TableForm GateRecord := ⟨32, getGate, putGate, clampGate, checkGate, true⟩
/-- R25, R26. -/
def systemForm : TableForm SystemRecord := ⟨8, getSystem, putSystem, clampSystem, checkSystem, false⟩
/-- R42, R43. -/
def profileForm : TableForm ProfileRecord := ⟨4, getProfile, putProfile, clampProfile, checkProfile, false⟩
/-- R87. -/
def inputForm : TableForm InputMapRecord := ⟨12, getInputMap, putInputMap, clampInputMap, checkInputMap, false⟩
/-- R194. -/
def settingsForm : TableForm Settings := ⟨1, getSettings, putSettings, clampSettings, checkSettings, false⟩
/-- R167. -/
def heaterForm : TableForm HeaterRecord := ⟨6, getHeater, putHeater, clampHeater, checkHeater, false⟩
/-- R158. -/
def climateForm : TableForm ClimateRecord := ⟨16, getClimate, putClimate, clampClimate, checkClimate, false⟩

/-- The validation of a table at LAST or ONLY: none when it is VALID. -/
def validate {ρ : Type} (f : TableForm ρ) (records : List ρ) : Option (Reason × Nat) :=
  match records with
  | [] => if f.emptyValid then none else some (.empty, 0)
  | _ => firstFailure f.check [] 0 records

/-- The outcome of appending a block's bytes to the records held: the records, the CLAMPED count, and the failure that
made the table INVALID, if one did. -/
structure Appended (ρ : Type) where
  records : List ρ
  clamped : Nat
  failure : Option (Reason × Nat)

/-- R193: append the records of a block in order. A record past the capacity makes the table INVALID with OVERFLOW, bytes
that are no whole record with FIELD, each with the index of that record; the records before it stand (assumption log 17).
The first argument bounds the number of records by the number of bytes. -/
def appendRecords {ρ : Type} (f : TableForm ρ) : Nat → List ρ → Nat → List Byte → Appended ρ
  | 0, held, n, _ => ⟨held, n, none⟩
  | fuel + 1, held, n, bytes =>
    match bytes with
    | [] => ⟨held, n, none⟩
    | _ =>
      if f.capacity ≤ held.length then ⟨held, n, some (.overflow, held.length)⟩
      else
        match f.get bytes with
        | none => ⟨held, n, some (.field, held.length)⟩
        | some (r, rest) =>
          let (c, k) := f.clamp r
          appendRecords f fuel (held ++ [c]) (n + k) rest

/-! ## What the users of the tables read -/

/-- A table's records while it is VALID, and none otherwise: a table that is not VALID is absent to its users (11). -/
def validRecords {ρ : Type} (t : Table ρ) : List ρ := if t.load = .valid then t.records else []

/-- The settings in force: the SETTINGS record while VALID, the defaults otherwise (R194). -/
def settings (s : State) : Settings := (validRecords s.vl.tables.settings).head?.getD defaultSettings

/-- The HEAD_DIRECTORY record of a role. -/
def directoryOfRole (s : State) (role : Role) : Option DirectoryRecord :=
  (validRecords s.vl.tables.directory).find? fun r => r.role == .named role

/-- The HEAD_DIRECTORY record that maps a role to a port. -/
def directoryOfPort (s : State) (port : Fin 8) : Option DirectoryRecord :=
  (validRecords s.vl.tables.directory).find? fun r => r.port == port.val

/-- The SYSTEM record of a code. -/
def systemRecord (s : State) (code : Nat) : Option SystemRecord :=
  (validRecords s.vl.tables.system).find? fun r => r.code == code

/-- The RAISE_PROFILE record of a number. -/
def profileRecord (s : State) (number : Nat) : Option ProfileRecord :=
  (validRecords s.vl.tables.profiles).find? fun r => r.number == number

/-- The GATE record of a key (R102). -/
def gateRecord (s : State) (role : Role) (kind : Kind) : Option GateRecord :=
  (validRecords s.vl.tables.gate).find? fun r => r.role == .named role && r.kind == .named kind

/-- The INPUT_MAP record of a line (R84). -/
def inputMapRecord (s : State) (line : Fin 12) : Option InputMapRecord :=
  (validRecords s.vl.tables.inputs).find? fun r => r.line == line.val

end Sys2Proof.Machine
end

