-- ==== Sys2Proof/Machine/Act.lean ====
section
/-! DEFINITION. An act: the state with the changes that other blocks have still to take. Each event of the part is one
indivisible act; a block that changes its state tells each block that reads it by a note, and the readers take their notes
in the same act (Cascade.lean). -/

namespace Sys2Proof.Machine

/-- What made Ice Control evaluate its state, as far as R171's cause depends on it. -/
inductive IceTrigger where
  | mode | setting | step | other
deriving DecidableEq, Repr

/-- A change that one block has still to take. -/
inductive Note where
  /-- Line Monitor: the second and third stages of a usable cell, with its conditioned samples and its current (R6). -/
  | lineJoin (samples : List Int) (current : Nat)
  /-- Line Monitor: the LINE role left PRESENT (R5, R32). -/
  | lineLost
  /-- Pantograph Controller: the Switchgear Record changed (R54). -/
  | panMb (pan : Pan)
  /-- Pantograph Controller: a position frame was taken (R51). -/
  | panHold (pan : Pan)
  /-- Pantograph Controller: the pantograph's head role left PRESENT (R61). -/
  | panHeadLost (pan : Pan)
  /-- Pantograph Controller: a lower cause for both pantographs (R52). -/
  | panLowerBoth (cause : LowerCause) (kind : CauseKind)
  /-- Switchgear Tracker: evaluate the release of MB_TRIP (R76). -/
  | tripRelease
  /-- Switchgear Tracker: the SWITCHGEAR role left PRESENT (R77). -/
  | switchgearLost
  /-- Switchgear Tracker: an MB open request with origin PROTECTION (R197). -/
  | mbOpenProtect
  /-- Changeover Sequencer: the confirmed line state changed (R146). -/
  | coLine
  /-- Changeover Sequencer: the Switchgear Record changed (R139, R141, R147, R148, R151). -/
  | coSwitch
  /-- Changeover Sequencer: a move was given up (R139, R141, R147, R151). -/
  | coGaveUp (dev : Dev) (target : Pos)
  /-- Changeover Sequencer: a Pan Record changed its state (R140, R145, R149, R151). -/
  | coPan (pan : Pan) (new : PanState) (cause : Option LowerCause)
  /-- Changeover Sequencer: a position frame was taken (R142). -/
  | coPosition
  /-- Changeover Sequencer: the Position Record became STALE (R142). -/
  | coStale
  /-- Changeover Sequencer: a role's presence changed (R151, R153). -/
  | coRole (role : Role) (present : Bool)
  /-- Changeover Sequencer: the mode became STANDBY (R153). -/
  | coStandby
  /-- Changeover Sequencer: Vehicle Link silence under the policy LOWER (R153). -/
  | coLinkLost
  /-- Ice Control: evaluate the state (R162), and test a scrape entry's isolating switch (R165). -/
  | iceEvaluate (trigger : IceTrigger)
  /-- Ice Control: the Arc Ring was appended to (R159). -/
  | iceArc
  /-- Ice Control: recompute the heater allocation (R169). -/
  | iceAllocate
  /-- Ice Control: the HEATER role left PRESENT (R170). -/
  | heaterLost
  /-- Ice Control: the CLIMATE role left PRESENT (R157). -/
  | climateLost
  /-- Command Gate: judge the held commands again (R107). -/
  | gateReview
  /-- Command Gate: a role left PRESENT (R109). -/
  | gateRoleLost (role : Role)
  /-- Position and Route Unit: the mode became RUN (R129). -/
  | routeRun
  /-- Position and Route Unit: the mode became STANDBY (R128). -/
  | routeStandby
deriving DecidableEq, Repr

/-- The blocks that take notes. -/
inductive Reader where
  | line | pan | switchgear | changeover | ice | gate | route
deriving DecidableEq, Repr

/-- The block a note is for. -/
def Note.reader : Note → Reader
  | .lineJoin _ _ => .line
  | .lineLost => .line
  | .panMb _ => .pan
  | .panHold _ => .pan
  | .panHeadLost _ => .pan
  | .panLowerBoth _ _ => .pan
  | .tripRelease => .switchgear
  | .switchgearLost => .switchgear
  | .mbOpenProtect => .switchgear
  | .coLine => .changeover
  | .coSwitch => .changeover
  | .coGaveUp _ _ => .changeover
  | .coPan _ _ _ => .changeover
  | .coPosition => .changeover
  | .coStale => .changeover
  | .coRole _ _ => .changeover
  | .coStandby => .changeover
  | .coLinkLost => .changeover
  | .iceEvaluate _ => .ice
  | .iceArc => .ice
  | .iceAllocate => .ice
  | .heaterLost => .ice
  | .climateLost => .ice
  | .gateReview => .gate
  | .gateRoleLost _ => .gate
  | .routeRun => .route
  | .routeStandby => .route

/-- A state with the notes not yet taken, oldest first. -/
structure Act where
  s : State
  notes : List Note := []

/-! ## Changing one block's state -/


/-- The notes `ns` join those waiting. -/
def Act.notify (ns : List Note) (a : Act) : Act := { a with notes := a.notes ++ ns }

/-- The time of the clock is set. -/
def Act.setNow (t : Nat) (a : Act) : Act := { a with s := { a.s with now := t } }

/-- The Line Monitor's state changes. -/
def Act.modLm (f : LineMonitor → LineMonitor) (a : Act) : Act := { a with s := { a.s with lm := f a.s.lm } }

/-- The Pan Records change. -/
def Act.modPans (f : Pans → Pans) (a : Act) : Act := { a with s := { a.s with pans := f a.s.pans } }

/-- The Switchgear Record or the MB_TRIP demand changes. -/
def Act.modSg (f : Switchgear → Switchgear) (a : Act) : Act := { a with s := { a.s with sg := f a.s.sg } }

/-- The Input Records change. -/
def Act.modInputs (f : Vector InputRecord 12 → Vector InputRecord 12) (a : Act) : Act :=
  { a with s := { a.s with inputs := f a.s.inputs } }

/-- The hold slots change. -/
def Act.modHolds (f : Vector (Option Held) 8 → Vector (Option Held) 8) (a : Act) : Act :=
  { a with s := { a.s with holds := f a.s.holds } }

/-- The Position and Route Unit's state changes. -/
def Act.modPr (f : Route → Route) (a : Act) : Act := { a with s := { a.s with pr := f a.s.pr } }

/-- The Changeover Record changes. -/
def Act.modCo (f : Changeover → Changeover) (a : Act) : Act := { a with s := { a.s with co := f a.s.co } }

/-- The Ice Record changes. -/
def Act.modIce (f : Ice → Ice) (a : Act) : Act := { a with s := { a.s with ice := f a.s.ice } }

/-- The Port Records change. -/
def Act.modPorts (f : Vector PortRecord 8 → Vector PortRecord 8) (a : Act) : Act :=
  { a with s := { a.s with ports := f a.s.ports } }

/-- The Role Records change. -/
def Act.modRoles (f : Vector RoleRecord 8 → Vector RoleRecord 8) (a : Act) : Act :=
  { a with s := { a.s with roles := f a.s.roles } }

/-- The Vehicle Link Interface's state changes. -/
def Act.modVl (f : VehicleLink → VehicleLink) (a : Act) : Act := { a with s := { a.s with vl := f a.s.vl } }

/-- The Report Unit's state changes. -/
def Act.modRu (f : ReportUnit → ReportUnit) (a : Act) : Act := { a with s := { a.s with ru := f a.s.ru } }

/-- COMMAND frames leave toward the heads. -/
def Act.send (c : SentCommand) (a : Act) : Act := { a with s := { a.s with sent := a.s.sent ++ [c] } }

/-- The order choices not yet used. -/
def Act.setChoices (cs : List Nat) (a : Act) : Act := { a with s := { a.s with choices := cs } }


/-! ## Records by their keys -/

/-- The record at a place of a bank changes. -/
def updAt {α : Type} {n : Nat} (v : Vector α n) (i : Fin n) (f : α → α) : Vector α n := v.set i.val (f v[i]) i.isLt

/-- The Pan Record of a pantograph. -/
def Pans.get (ps : Pans) : Pan → PanRecord
  | .a => ps.a
  | .b => ps.b

/-- The Pan Records with one of them replaced. -/
def Pans.set (ps : Pans) (p : Pan) (r : PanRecord) : Pans :=
  match p with
  | .a => { ps with a := r }
  | .b => { ps with b := r }

/-- The Switchgear Record's entry of a device. -/
def Switchgear.get (g : Switchgear) : Dev → Device
  | .mb => g.mb
  | .ss => g.ss
  | .isoA => g.isoA
  | .isoB => g.isoB
  | .es => g.es

/-- The Switchgear Record with one entry replaced. -/
def Switchgear.set (g : Switchgear) (d : Dev) (e : Device) : Switchgear :=
  match d with
  | .mb => { g with mb := e }
  | .ss => { g with ss := e }
  | .isoA => { g with isoA := e }
  | .isoB => { g with isoB := e }
  | .es => { g with es := e }

/-- The Pan Record of a pantograph. -/
def panOf (s : State) (p : Pan) : PanRecord := s.pans.get p

/-- The Switchgear Record's entry of a device. -/
def devOf (s : State) (d : Dev) : Device := s.sg.get d

/-- The Role Record of a role. -/
def roleOf (s : State) (r : Role) : RoleRecord := s.roles[roleIndex r]

/-- The hold slot of a role; the LINE and CLIMATE roles have none, and theirs stays empty (R105). -/
def holdOf (s : State) (r : Role) : Option Held := s.holds[roleIndex r]

/-- The Pan Record of a pantograph changes. -/
def Act.modPan (p : Pan) (f : PanRecord → PanRecord) (a : Act) : Act := a.modPans fun ps => ps.set p (f (ps.get p))

/-- The Switchgear Record's entry of a device changes. -/
def Act.modDev (d : Dev) (f : Device → Device) (a : Act) : Act := a.modSg fun g => g.set d (f (g.get d))

/-- The Role Record of a role changes. -/
def Act.modRole (r : Role) (f : RoleRecord → RoleRecord) (a : Act) : Act := a.modRoles fun v => updAt v (roleIndex r) f

/-- The hold slot of a role is filled or emptied. -/
def Act.setHold (r : Role) (h : Option Held) (a : Act) : Act := a.modHolds fun v => updAt v (roleIndex r) fun _ => h

/-! ## Telling the readers of a change -/

/-- The confirmed line state changed: its readers of R31, the Line Monitor's own protective check apart. -/
def Act.tellLine (a : Act) : Act := a.notify [.tripRelease, .coLine, .iceEvaluate .other, .iceAllocate, .gateReview]

/-- The Switchgear Record changed (R54, R107, R137, R162); `mbMoved` says that MB's reported position did, which
recomputes the heater allocation too (R169). R54: with both pantographs in AWAIT_MB, the change reaches PAN_A before PAN_B: DESIGN
CHOICE, for the rule gives no order (assumption log 68). -/
def Act.tellSwitchgear (mbMoved : Bool) (a : Act) : Act :=
  a.notify ([.panMb .a, .panMb .b, .coSwitch, .iceEvaluate .other] ++ (if mbMoved then [.iceAllocate] else []) ++ [.gateReview])

/-- A Pan Record changed its state (R41, R107, R137, R162). -/
def Act.tellPan (p : Pan) (new : PanState) (cause : Option LowerCause) (a : Act) : Act :=
  a.notify [.coPan p new cause, .iceEvaluate .other, .gateReview]

/-- The Changeover Record's step changed (R137). Ice Control is told whether the change led to a step other than IDLE, for it
evaluates at each change (R162), while the step may be IDLE again before it takes the note (`evaluateSteps`, assumption
log 51). -/
def Act.tellStep (a : Act) : Act :=
  a.notify [.iceEvaluate (if a.s.co.step = .idle then .other else .step), .gateReview]

end Sys2Proof.Machine
end

