-- ==== Sys2Proof/Machine/Flags.lean ====
section
/-! DEFINITION. The conditions that blocks read of each other's state: the marks, levels and tests that the rules name. -/

namespace Sys2Proof.Machine

/-! ## Switchgear and pantographs -/

/-- A device is IDLE: no move is in flight. -/
def Device.idle (d : Device) : Bool := d.move.isNone

/-- MB is engaged: reported CLOSED, or MOVING with the target CLOSED (R36, R53, R69). -/
def mbEngaged (s : State) : Bool :=
  s.sg.mb.reported == .closed || (!s.sg.mb.idle && s.sg.mb.target == some .closed)

/-- A device is reported at a position and IDLE. -/
def reportedIdle (s : State) (d : Dev) (p : Pos) : Bool := (devOf s d).reported == p && (devOf s d).idle

/-- The Pan Record is in RAISING or UP. -/
def PanRecord.raised (r : PanRecord) : Bool := r.state == .raising || r.state == .up

/-- The Pan Record is UP in role COLLECT. -/
def PanRecord.collecting (r : PanRecord) : Bool := r.state == .up && r.role == some .collect

/-- The pantograph UP in role COLLECT, PAN_A before PAN_B where both were. -/
def collectingPan (s : State) : Option Pan :=
  if s.pans.a.collecting then some .a else if s.pans.b.collecting then some .b else none

/-! ## Position -/

/-- R115: the estimate of the Position Record at a time: the last position plus speed × elapsed / 10 000, the elapsed
time capped at the frame stale limit and the result at 4 294 967 295; absent while the last position is. -/
def PositionRecord.estimate (r : PositionRecord) (now : Nat) : Option Nat :=
  r.last.map fun p => min 4294967295 (p + r.speed * min (now - r.frameTime.getD now) (r.frameStale.getD 0) / 10000)

/-- The estimate as it stands. -/
def estimate (s : State) : Option Nat := s.pr.position.estimate s.now

/-- The speed of the Position Record, 0 while it holds no position (R51, R102, R164). -/
def speed (s : State) : Nat := if s.pr.position.last.isNone then 0 else s.pr.position.speed

/-- The quotient rounded up. -/
def ceilDiv (a b : Nat) : Nat := (a + b - 1) / b

/-- R121, R142: when the estimate reaches a position: present when the record is FRESH, the speed above 0 and the position
above the last position. -/
def reachTime (r : PositionRecord) (p : Nat) : Option Nat :=
  match r.last, r.frameTime with
  | some last, some t => if r.fresh ∧ 0 < r.speed ∧ last < p then some (t + ceilDiv ((p - last) * 10000) r.speed) else none
  | _, _ => none

/-- A count that stays at 65535 once it has reached it. -/
def bump16 (n : Nat) : Nat := if n < 65535 then n + 1 else n

/-! ## Input lines -/

/-- A line is active under an INPUT_MAP record: its filtered level is the record's active level (R84). -/
def lineActiveAt (s : State) (line : Fin 12) (active : Coded Level) : Bool :=
  match filteredLevel s.inputs[line].filtered, active with
  | some l, .named l' => l == l'
  | _, _ => false

/-- The active level of a line: its record's, and HIGH for an unassigned line (R84). -/
def activeLevel (s : State) (line : Fin 12) : Coded Level := (inputMapRecord s line).elim (.named .high) (·.active)

/-- R84: the line is active. -/
def lineActive (s : State) (line : Fin 12) : Bool := lineActiveAt s line (activeLevel s line)

/-- R84: the level of a function: that of the line which a VALID INPUT_MAP assigns to it, and inactive where none does. -/
def functionActive (s : State) (f : InputFunction) : Bool :=
  (List.finRange 12).any fun line =>
    (inputMapRecord s line).any fun r => r.function == .named f && lineActiveAt s line r.active

/-- The UP contact function of a pantograph. -/
def upFunction : Pan → InputFunction
  | .a => .panAUp
  | .b => .panBUp

/-- The DOWN contact function of a pantograph. -/
def downFunction : Pan → InputFunction
  | .a => .panADown
  | .b => .panBDown

/-- The strip switch function of a pantograph. -/
def stripFunction : Pan → InputFunction
  | .a => .stripA
  | .b => .stripB

/-- R83: the filter duration in force of a line: 1, 4, 16 or 64 ms by index, 64 ms for an unassigned line. -/
def filterDuration (s : State) (line : Fin 12) : Nat :=
  match (inputMapRecord s line).map (·.filter) with
  | some 0 => 1
  | some 1 => 4
  | some 2 => 16
  | _ => 64

/-! ## Roles -/

/-- The role is PRESENT. -/
def rolePresent (s : State) (r : Role) : Bool := (roleOf s r).presence == .present

/-- The role that a VALID HEAD_DIRECTORY maps to a port. -/
def roleOfPort (s : State) (port : Fin 8) : Option Role :=
  match directoryOfPort s port with
  | none => none
  | some r =>
    match r.role with
    | .named role => some role
    | .unnamed _ => none

/-! ## Changeover -/

/-- R133: a changeover is in progress. -/
def inProgress (s : State) : Bool := s.co.step != .idle && s.co.step != .aborting

/-! ## Head commands -/

/-- R95: the command kind of a role's content; a MB or ES move to no commandable position has none (assumption log 26), while
any move of SS or ISO is of its device's kind (assumption log 42). -/
def Content.kind : Content → Option Kind
  | .move .mb .closed => some .mbClose
  | .move .mb .opened => some .mbOpen
  | .move .mb _ => none
  | .move .ss _ => some .ssMove
  | .move .isoA _ => some .isoAMove
  | .move .isoB _ => some .isoBMove
  | .move .es .earthed => some .esEarth
  | .move .es .opened => some .esOpen
  | .move .es _ => none
  | .ramp _ _ => some .ramp
  | .hold _ => some .hold
  | .vent => some .vent
  | .setGroups _ => some .setGroups
  | .aux => some .aux

/-- R98 (H6): MB_OPEN, VENT, ES_OPEN, and SET_GROUPS with an empty on-set. -/
def Content.alwaysAdmitted (c : Content) : Bool :=
  match c with
  | .setGroups g => g == 0
  | _ => c.kind == some .mbOpen || c.kind == some .vent || c.kind == some .esOpen

/-- A HEAD_STATE report is urgent when the presence after the event is LOST (R202). -/
def Report.lost : Report → Bool
  | .headState _ _ _ after _ _ _ _ _ _ => after == .lost
  | _ => false

/-! ## Outputs (R91) -/

/-- OUT0 and OUT1: a pantograph's vent output is asserted, and so while the part is unpowered. -/
def ventAsserted (s : State) (p : Pan) : Bool := !s.powered || (panOf s p).vent

/-- OUT2: the MB_TRIP output is asserted, and so while the part is unpowered. -/
def tripAsserted (s : State) : Bool := !s.powered || s.sg.mbTrip

/-- OUT3: LINK_OK is asserted while the part is powered, the Vehicle Link is LOCKED and its silence is ACTIVE (R188). -/
def linkOk (s : State) : Bool := s.powered && s.vl.link == .locked && s.vl.active

/-- R91: whether an output's contact is closed: the vent and trip outputs are asserted by opening their contacts, LINK_OK
by closing its own; every contact is open while the part is unpowered. -/
def contactClosed (s : State) (output : Fin 4) : Bool :=
  match output with
  | 0 => !ventAsserted s .a
  | 1 => !ventAsserted s .b
  | 2 => !tripAsserted s
  | 3 => linkOk s

end Sys2Proof.Machine
end

