-- ==== Sys2Proof/Machine/Ops.lean ====
section
/-! DEFINITION. Operations that several blocks share: placing a report in its slot, building a head command, sending it, and
the reports that sending makes. -/

namespace Sys2Proof.Machine

/-! ## Capacities -/

/-- The Reply Queue holds at most 8 replies (R191). -/
def replyCapacity : Nat := 8
/-- The Window Digest FIFO holds at most 64 entries (R17). -/
def digestCapacity : Nat := 64
/-- The Arc Ring holds at most 32 entries (R35). -/
def arcCapacity : Nat := 32
/-- The Telemetry Forward Queue holds at most 16 items (R185). -/
def telemetryCapacity : Nat := 16
/-- The Route Action Queue holds at most 16 entries (R118). -/
def queueCapacity : Nat := 16
/-- A Marker List holds at most 4 actions (R126). -/
def markerCapacity : Nat := 4
/-- The largest value of the queue counters and of a route position. -/
def max32 : Nat := 4294967295

/-! ## Reports (R201) -/

/-- A pantograph's place among two slots. -/
def panIndex : Pan → Fin 44
  | .a => 0
  | .b => 1

/-- The slot of a report, by its kind and instance, in kind order (12, Report slots). -/
def slotOf : Report → Fin 44
  | .protectiveTrip _ _ _ _ _ => 0
  | .panFault p _ _ _ => 1 + panIndex p
  | .switchgearFault _ _ _ _ _ => 3
  | .queueFlushed _ => 4
  | .headState r _ _ _ _ _ _ _ _ _ => 5 + (roleIndex r).castLE (by decide)
  | .changeoverResult _ _ _ _ _ _ _ _ _ _ _ _ => 13
  | .line _ _ _ _ _ => 14
  | .panState p _ _ _ _ _ => 15 + panIndex p
  | .switchgearState _ _ _ _ _ _ => 17
  | .changeoverStep _ _ _ _ _ _ _ => 18
  | .actionFired _ _ _ _ _ => 19
  | .ice _ _ _ _ _ _ _ _ => 20
  | .inputEvent l _ _ _ => 21 + l.castLE (by decide)
  | .gate r _ _ _ _ _ _ _ => 33 + (roleIndex r).castLE (by decide)
  | .contactLoss _ _ => 41
  | .markerUnused _ _ _ _ _ => 42
  | .reportMark _ _ _ => 43

/-- R201: a report placed in a slot; one that replaces a pending report sets the OVERRUN mark. -/
def Slot.place (r : Report) (sl : Slot) : Slot := { report := some r, overrun := sl.overrun || sl.report.isSome }

/-- R201: a block makes a report. -/
def placeReport (r : Report) (a : Act) : Act := a.modRu fun u => { u with slots := updAt u.slots (slotOf r) (Slot.place r) }

/-! ## Orders that the spec leaves open (assumption log 3) -/

/-- Items in an order that the choices pick: each choice names, modulo their number, one of the items that remain, and the
first that goes with it is taken. With no choice left the items keep their order. The second value is the choices not
used. The first argument bounds the number of items. -/
def pickOrder {α : Type} (goesWith : α → α → Bool) : Nat → List Nat → List α → List α × List Nat
  | 0, cs, items => (items, cs)
  | fuel + 1, cs, items =>
    match cs, items with
    | [], items => (items, [])
    | cs, [] => ([], cs)
    | c :: cs, first :: rest =>
      let chosen := (first :: rest)[c % (rest.length + 1)]?.getD first
      let place := (first :: rest).findIdx fun x => goesWith x chosen
      let taken := (first :: rest)[place]?.getD first
      let (later, cs) := pickOrder goesWith fuel cs ((first :: rest).eraseIdx place)
      (taken :: later, cs)

/-! ## Head commands -/

/-- MOVE(device, target). -/
def moveCommand (d : Dev) (t : Pos) (o : Origin) : Command :=
  { role := .switchgear, content := .move d t, origin := o,
    payload := put8 0 ++ putPlace devsInOrder d ++ [devPositionByte d t] }

/-- RAMP(target, rate). -/
def rampCommand (p : Pan) (target rate : Nat) (o : Origin) : Command :=
  { role := panRole p, content := .ramp target rate, origin := o, payload := put8 1 ++ put16 target ++ put16 rate }

/-- HOLD(pressure), origin PAN (R51). -/
def holdCommand (p : Pan) (pressure : Nat) : Command :=
  { role := panRole p, content := .hold pressure, origin := .pan, payload := put8 2 ++ put16 pressure }

/-- VENT, origin PAN (R55). -/
def ventCommand (p : Pan) : Command := { role := panRole p, content := .vent, origin := .pan, payload := put8 3 }

/-- SET_GROUPS(on-set), origin ICE (R170). -/
def groupsCommand (g : Groups) : Command :=
  { role := .heater, content := .setGroups g, origin := .ice, payload := put8 4 ++ put8 g.toNat }

/-! ## Sending (R182, R183) -/

/-- The HEAD_STATE report of a role after an event, from the state as it stands; without a directory record the port and
its record are absent (assumption log 32). -/
def headStateReport (s : State) (role : Role) (before : Presence) (cause : HeadCause) (expected : Option Nat)
    (command : Option (Option Kind × Origin × Option Nat)) : Report :=
  let port := (directoryOfRole s role).map (·.port)
  let rec' := port.bind fun p => s.ports[p]?
  .headState role port before (roleOf s role).presence cause (rec'.map (·.link)) (rec'.bind (·.kind)) (rec'.bind (·.serial))
    expected command

/-- R183: an admitted command leaves as a COMMAND frame on the port of its role while the role is PRESENT; otherwise it is
not sent, the role's undelivered count increases and a HEAD_STATE report with the cause UNDELIVERED is made. -/
def deliver (c : Command) (a : Act) : Act × Bool :=
  match rolePresent a.s c.role, directoryOfRole a.s c.role with
  | true, some r => (a.send { port := r.port, payload := c.payload }, true)
  | _, _ =>
    let a := a.modRole c.role fun r => { r with undelivered := bump16 r.undelivered }
    (placeReport
      (headStateReport a.s c.role (roleOf a.s c.role).presence .undelivered none (some (c.content.kind, c.origin, c.seq))) a,
     false)

end Sys2Proof.Machine
end

