-- ==== Sys2Proof/Machine/Operands.lean ====
section
/-! DEFINITION. What a frame's payload says: the content of a head COMMAND payload and the values of a head STATUS payload
(11, Frame layouts). Bytes past a layout are not read. -/

namespace Sys2Proof.Machine

/-! ## COMMAND payload -/

/-- A byte of a payload, 0 past its end. -/
def byteAt (payload : List Byte) (i : Nat) : Byte := payload[i]?.getD 0

/-- Two bytes of a payload as a number. -/
def wordAt (payload : List Byte) (i : Nat) : Nat := (byteAt payload i).toNat * 256 + (byteAt payload (i + 1)).toNat

/-- A head command for a role other than AUX1 and AUX2: none where the code or a MOVE's device names nothing given under
Frame layouts, or the content is shorter than the command's layout (R95). A SET_GROUPS reads six bits (assumption log 27). -/
def layoutContent (payload : List Byte) : Option Content :=
  match payload with
  | [] => none
  | code :: rest =>
    if code = 0 then
      match rest, devsInOrder[(byteAt rest 0).toNat]? with
      | _ :: t :: _, some d => some (.move d (devPositionOf d t))
      | _, _ => none
    else if code = 1 then if 4 ≤ rest.length then some (.ramp (wordAt rest 0) (wordAt rest 2)) else none
    else if code = 2 then if 2 ≤ rest.length then some (.hold (wordAt rest 0)) else none
    else if code = 3 then some .vent
    else if code = 4 then
      match rest with
      | g :: _ => some (.setGroups (g.setWidth 6))
      | [] => none
    else none

/-- R95: the content of a vehicle command; for AUX1 and AUX2 the bytes are the vehicle's own, at least one. -/
def contentOf (role : Role) (payload : List Byte) : Option Content :=
  match role with
  | .aux1 => if payload.isEmpty then none else some .aux
  | .aux2 => if payload.isEmpty then none else some .aux
  | .switchgear => layoutContent payload
  | .panA => layoutContent payload
  | .panB => layoutContent payload
  | .line => layoutContent payload
  | .heater => layoutContent payload
  | .climate => layoutContent payload

/-- R96 step 1: whether a role's head takes the content's kind. A switchgear MOVE whose target is no commandable position
passes, and is refused with RANGE later (R95). -/
def Content.taken (c : Content) (role : Role) : Bool :=
  match c with
  | .move _ _ => role == .switchgear
  | .ramp _ _ => role == .panA || role == .panB
  | .hold _ => role == .panA || role == .panB
  | .vent => role == .panA || role == .panB
  | .setGroups _ => role == .heater
  | .aux => role == .aux1 || role == .aux2

/-! ## Head STATUS payload -/

/-- The least length of a STATUS payload by its port's role; a port with no role has no layout. -/
def statusLength : Option Role → Nat
  | some .switchgear => 5
  | some .panA => 3
  | some .panB => 3
  | some .heater => 1
  | some .climate => 7
  | some .line => 0
  | some .aux1 => 0
  | some .aux2 => 0
  | none => 0

/-- R175: a STATUS payload of a length its class allows. -/
def statusFits (role : Option Role) (payload : List Byte) : Bool :=
  decide (statusLength role ≤ payload.length ∧ payload.length ≤ 237)

/-- R68: the position a switchgear STATUS carries for a device. -/
def statusPosition (payload : List Byte) (d : Dev) : Pos := devPositionOf d (byteAt payload (placeIn devsInOrder d))

/-- R60: the measured pressure, at most 6000. -/
def statusPressure (payload : List Byte) : Nat := min 6000 (wordAt payload 0)

/-- R60: the head fault. -/
def statusFault (payload : List Byte) : Bool := (byteAt payload 2).getLsbD 0

/-- R170: the heater groups on; bits 6 and 7 are ignored. -/
def statusGroups (payload : List Byte) : Groups := (byteAt payload 0).setWidth 6

/-! ## CELL payload (R1) -/

/-- A sample as conditioned: −32768 is taken as −32767. -/
def conditionSample (v : Int) : Int := if v = -32768 then -32767 else v

/-- A current mean as conditioned. -/
def conditionCurrent (c : Nat) : Nat := min 4095 c

/-- The peak magnitude of conditioned samples. -/
def peakOf (samples : List Int) : Nat := (samples.map Int.natAbs).foldl max 0

end Sys2Proof.Machine
end

