-- ==== Sys2Proof/Machine/Gate.lean ====
section
/-! DEFINITION. The Command Gate's judgement (06): the hard interlocks, the GATE table, the GATE report, and the path of a
command that a block of the part presents. -/

namespace Sys2Proof.Machine

/-! ## Hard interlocks -/

/-- The first of a list of clauses that does not hold. -/
def firstFailed : List (Failed × Bool) → Option Failed
  | [] => none
  | (f, holds) :: rest => if holds then firstFailed rest else some f

/-- A pantograph's isolating switch is reported at a position. -/
def isoAt (s : State) (p : Pan) (pos : Pos) : Bool := (devOf s (isoOf p)).reported == pos

/-- The system code that is confirmed, if one is. -/
def confirmedCode (s : State) : Option Nat :=
  match s.lm.confirmed with
  | .system c => some c
  | .noSense => none
  | .dead => none
  | .unknown => none
  | .over => none

/-- The SS position that the confirmed code's SYSTEM record requires. -/
def confirmedSelector (s : State) : Option Pos :=
  match (confirmedCode s).bind (systemRecord s) with
  | none => none
  | some r =>
    match r.selector with
    | .named sel => some (selectorPos sel)
    | .unnamed _ => none

/-- R99, H1.7: exactly one Pan Record is UP in role COLLECT, with its isolating switch reported CLOSED. -/
def oneCollecting (s : State) : Bool :=
  (s.pans.a.collecting && !s.pans.b.collecting && isoAt s .a .closed)
    || (s.pans.b.collecting && !s.pans.a.collecting && isoAt s .b .closed)

/-- R99: the clauses of H1. -/
def h1Clauses (s : State) : List (Failed × Bool) :=
  [(.h11, s.vl.mode == .run),
   (.h12, s.sg.es.reported == .opened),
   (.h13, s.sg.ss.idle && (s.sg.ss.reported == .ac || s.sg.ss.reported == .dc)),
   (.h14, s.sg.mb.mark.isNone),
   (.h15, s.lm.confirmed != .over),
   (.h16, confirmedSelector s == some s.sg.ss.reported),
   (.h17, oneCollecting s)]

/-- R100: the clauses of H4. -/
def h4Clauses (s : State) : List (Failed × Bool) :=
  [(.h41, s.sg.mb.reported == .opened), (.h42, s.pans.a.state == .down && s.pans.b.state == .down)]

/-- R101: the clauses of H5. -/
def h5Clauses (s : State) : List (Failed × Bool) :=
  [(.h51, s.vl.mode == .run), (.h52, s.sg.es.reported == .opened), (.h53, !functionActive s .roofAccess)]

/-- R99 to R101: the clauses that a command of a kind is judged against. -/
def interlockClauses (s : State) (k : Kind) : List (Failed × Bool) :=
  match k with
  | .mbClose => h1Clauses s
  | .ssMove => [(.h2, s.sg.mb.reported == .opened)]
  | .isoAMove => [(.h3, s.pans.a.state == .down)]
  | .isoBMove => [(.h3, s.pans.b.state == .down)]
  | .esEarth => h4Clauses s
  | .ramp => h5Clauses s
  | .mbOpen => []
  | .esOpen => []
  | .hold => []
  | .vent => []
  | .setGroups => []
  | .aux => []

/-! ## GATE table (R102) -/

/-- The place of an origin in the origin mask; PROTECTION has none. -/
def originBit : Origin → Option Nat
  | .vehicle => some 0
  | .sequencer => some 1
  | .pan => some 2
  | .ice => some 3
  | .protection => none

/-- An origin is in a record's mask. -/
def inMask (r : GateRecord) (o : Origin) : Bool :=
  match originBit o with
  | some k => r.origins.getLsbD k
  | none => false

/-- The conditions of R102 in its order, with whether each holds for a command of an origin under a record. -/
def tableConditions (s : State) (r : GateRecord) (o : Origin) : List (Failed × Bool) :=
  [(.mbOpen, s.sg.mb.reported == .opened),
   (.mbClosed, s.sg.mb.reported == .closed),
   (.ssAc, s.sg.ss.reported == .ac),
   (.ssDc, s.sg.ss.reported == .dc),
   (.lineSystem, (confirmedCode s).isSome),
   (.lineDead, s.lm.confirmed == .dead),
   (.positionFresh, s.pr.position.fresh),
   (.noChangeover, s.co.step == .idle || o == .sequencer),
   (.belowSpeed, decide (speed s < r.speedLimit.getD 0))]

/-- The conditions that a record names. -/
def namedConditions (s : State) (r : GateRecord) (o : Origin) : List (Failed × Bool) :=
  (tableConditions s r o).zipIdx.map fun (c, k) => (c.1, !r.conditions.getLsbD k || c.2)

/-- R102: what the GATE table finds for a command: none when it admits. -/
def tableFailure (s : State) (r : GateRecord) (o : Origin) : Option Failed :=
  if inMask r o then firstFailed (namedConditions s r o) else some .origin

/-! ## Judgement (R96) -/

/-- R96 steps 4 and 5: the hard interlocks, then the GATE table. -/
def interlockOrTable (s : State) (role : Role) (k : Kind) (o : Origin) : Option Failed :=
  match firstFailed (interlockClauses s k) with
  | some f => some f
  | none => (gateRecord s role k).bind fun r => tableFailure s r o

/-- R96 steps 3 to 5: none when the command is admitted. A command of no kind is decided before these steps. -/
def judge (s : State) (c : Command) : Option Failed :=
  if c.content.alwaysAdmitted then none
  else c.content.kind.bind fun k => interlockOrTable s c.role k c.origin

/-- R97: the vehicle's access to a role is READ_ONLY. -/
def masked (s : State) (role : Role) : Bool := (directoryOfRole s role).any fun r => r.access == .named .readOnly

/-! ## GATE reports (R110) -/

/-- The GATE report of a command's outcome is placed. -/
def reportGate (c : Command) (outcome : GateOutcome) (failed lastFailing : Option Failed) (joined : Bool) (a : Act) : Act :=
  placeReport (.gate c.role c.content.kind c.origin c.seq outcome failed lastFailing joined) a

/-- The command is refused with a failed condition. -/
def refuse (c : Command) (f : Failed) (a : Act) : Act := reportGate c .refused (some f) none false a

/-! ## Internal commands (R95) -/

/-- What a block that presents a command is told. -/
inductive Answer where
  /-- The gate refused it with this failed condition. -/
  | refused (f : Failed)
  /-- The gate admitted it and the Head Port Controller did not send it. -/
  | absent
  /-- It has left for the head. -/
  | sent
deriving DecidableEq, Repr

/-- R95, R96: a command of an internal origin is judged, reported where it is refused, and sent where it is admitted. -/
def present (c : Command) (a : Act) : Act × Answer :=
  if c.content.taken c.role then
    match judge a.s c with
    | some f => (refuse c f a, .refused f)
    | none =>
      match deliver c a with
      | (a, true) => (a, .sent)
      | (a, false) => (a, .absent)
  else (refuse c .kind a, .refused .kind)

end Sys2Proof.Machine
end

