-- ==== Sys2Proof/Machine/SwitchgearOps.lean ====
section
/-! DEFINITION. The Switchgear Tracker (04): move requests, the STATUS of the switchgear head, deadlines, MB_TRIP and the loss
of the head. -/

namespace Sys2Proof.Machine

/-! ## MB_TRIP (R76) -/

/-- The demand is asserted. -/
def assertTrip (a : Act) : Act := a.modSg fun g => { g with mbTrip := true }

/-- The three conditions of release. -/
def tripMayRelease (s : State) : Bool :=
  s.sg.mb.reported == .opened && s.lm.confirmed != .over && s.sg.mb.mark.isNone

/-- The release condition is evaluated. -/
def evaluateTrip (a : Act) : Act := if tripMayRelease a.s then a.modSg fun g => { g with mbTrip := false } else a

/-! ## Moves -/

/-- R72: the timeout of a device and target, from the settings in force. -/
def moveTimeout (st : Settings) (d : Dev) (target : Pos) : Nat :=
  match d with
  | .mb => if target = .opened then st.mbOpen else st.mbClose
  | .ss => st.ss
  | .isoA => st.iso
  | .isoB => st.iso
  | .es => st.es

/-- What a device's move state makes of a request (R71). -/
inductive MoveCheck where
  /-- The device is IDLE, or an MB close is reversed: the request goes to the gate. -/
  | free
  /-- The request joins the move in flight. -/
  | join
  /-- The move in flight forbids it. -/
  | busy
deriving DecidableEq, Repr

/-- R70 check 2, R71. -/
def moveCheck (s : State) (d : Dev) (target : Pos) : MoveCheck :=
  let e := devOf s d
  if e.idle then .free
  else if e.target = some target then .join
  else if d = .mb ∧ e.target = some .closed ∧ target = .opened then .free
  else .busy

/-- R70, R71: a sent MOVE becomes the move in flight, and the readers of the Switchgear Record are told. -/
def beginMove (d : Dev) (target : Pos) (o : Origin) (a : Act) : Act :=
  let timeout := moveTimeout (settings a.s) d target
  let move : Move := { origin := o, deadline := a.s.now + timeout, timeout }
  (a.modDev d fun e => { e with target := some target, move := some move }).tellSwitchgear false

/-- The result of an internal move request. -/
inductive MoveResult where
  | accepted
  | already
  | busy
  | range
  | headAbsent
  | interlock (f : Failed)
deriving DecidableEq, Repr

/-- R70: a move request of an internal origin. -/
def moveRequest (d : Dev) (target : Pos) (o : Origin) (a : Act) : Act × MoveResult :=
  if (devTargets d).contains target then
    match moveCheck a.s d target with
    | .join => (a, .already)
    | .busy => (a, .busy)
    | .free =>
      match present (moveCommand d target o) a with
      | (a, .sent) => (beginMove d target o a, .accepted)
      | (a, .absent) => (a, .headAbsent)
      | (a, .refused f) => (a, .interlock f)
  else (a, .range)

/-- An MB open request whose result the requester does not await (R54, R55, R74, R75, R80, R150, R197). -/
def requestMbOpen (o : Origin) (a : Act) : Act := (moveRequest .mb .opened o a).1

/-! ## STATUS of the switchgear head (R68, R69, R74) -/

/-- What a STATUS frame does to one device, with the mark the SWITCHGEAR_STATE report gives it. -/
def judgeDevice (e : Device) (value : Pos) : Device × Option ChangeMark :=
  let changed := e.reported != value
  let e' := { e with reported := value }
  if e.idle then (e', if changed then some .uncommanded else none)
  else if e.target = some value then ({ e' with move := none, mark := none }, some .ended)
  else (e', if changed then some .during else none)

/-- The SWITCHGEAR_STATE report of the record as it stands, with the devices that changed or ended a move. -/
def switchgearReport (s : State) (marks : List (Dev × ChangeMark)) : Report :=
  .switchgearState s.sg.mb.reported s.sg.ss.reported s.sg.isoA.reported s.sg.isoB.reported s.sg.es.reported marks

/-- R68: the marks of a STATUS frame's devices, in device order. -/
def statusMarks (s : State) (payload : List Byte) : List (Dev × ChangeMark) :=
  devsInOrder.filterMap fun d => (judgeDevice (devOf s d) (statusPosition payload d)).2.map fun m => (d, m)

/-- R68: all five devices of one frame are taken together. -/
def takePositions (payload : List Byte) (g : Switchgear) : Switchgear :=
  devsInOrder.foldl (fun g d => g.set d (judgeDevice (g.get d) (statusPosition payload d)).1) g

/-- R68: a STATUS frame of the switchgear head. R76 is evaluated where MB's position changed or its mark was cleared; R74
asks for MB open where MB became CLOSED with the mark CLOSED and no move in flight. -/
def switchgearStatus (payload : List Byte) (a : Act) : Act :=
  let before := a.s.sg.mb
  let marks := statusMarks a.s payload
  if marks.isEmpty then a
  else
    let a := a.modSg (takePositions payload)
    let after := a.s.sg.mb
    let moved := before.reported != after.reported
    let a := placeReport (switchgearReport a.s marks) a
    let a := if moved || (before.mark.isSome && after.mark.isNone) then evaluateTrip a else a
    let a := a.tellSwitchgear moved
    if moved && after.reported == .closed && before.idle && after.mark == some .closed then requestMbOpen .protection a else a

/-! ## Deadlines (R73) -/

/-- R73: a move is given up; nothing happens where the device is IDLE. -/
def giveUpMove (d : Dev) (a : Act) : Act :=
  let e := devOf a.s d
  match e.move, e.target with
  | some m, some target =>
    let a := a.modDev d fun e => { e with move := none, mark := some target }
    let a := placeReport (.switchgearFault d target m.origin e.reported m.timeout) a
    let a := if d = .mb ∧ target = .opened then assertTrip a else a
    (a.notify [.coGaveUp d target]).tellSwitchgear false
  | _, _ => a

/-! ## Losing the head (R77) -/

/-- R77: what the loss does to one device, with the mark of the report (assumption log 36). -/
def loseDevice (e : Device) : Device := { e with reported := .unknown, target := none, move := none }

/-- The mark that the loss of the head gives a device in the SWITCHGEAR_STATE report. -/
def lossMark (e : Device) : Option ChangeMark :=
  if e.reported = .unknown then none else if e.idle then some .uncommanded else some .during

/-- R77: the SWITCHGEAR role left PRESENT. -/
def switchgearLost (a : Act) : Act :=
  let marks := devsInOrder.filterMap fun d => (lossMark (devOf a.s d)).map fun m => (d, m)
  let moved := a.s.sg.mb.reported != .unknown
  let a := a.modSg fun g => devsInOrder.foldl (fun g d => g.set d (loseDevice (g.get d))) g
  (placeReport (switchgearReport a.s marks) a).tellSwitchgear moved

end Sys2Proof.Machine
end

