-- ==== Sys2Proof/Machine/PanOps.lean ====
section
/-! DEFINITION. The Pantograph Controller (03): raises, ramp stages, hold pressure, lower causes, lowering phases and faults. -/

namespace Sys2Proof.Machine

/-! ## Contacts -/

/-- The DOWN contact of a pantograph is active. -/
def downActive (s : State) (p : Pan) : Bool := functionActive s (downFunction p)

/-- The strip switch of a pantograph is active. -/
def stripActive (s : State) (p : Pan) : Bool := functionActive s (stripFunction p)

/-! ## Reports (R41) -/

/-- R41: the change of a Pan Record's state is reported and its readers told. `causes` is the primary cause and the set that
the report carries. `quiet` leaves the Changeover Sequencer out: the change is its own doing, and it reads the record itself
(assumption log 29). -/
def changedPan (p : Pan) (previous : PanState) (causes : Option (LowerCause × List LowerCause)) (quiet : Bool) (a : Act) :
    Act :=
  let r := panOf a.s p
  let a := placeReport (.panState p r.state previous r.role causes r.latch) a
  if quiet then a.notify [.iceEvaluate .other, .gateReview]
  else a.tellPan p r.state (if r.state = .lowering then r.primary else none)

/-! ## End of a lowering (R57, R58) -/

/-- R57: the fault latch a lowering ends with at its DOWN contact, if it ends in FAULT. -/
def latchOf (primary : Option LowerCause) (causes : List LowerCause) : Option FaultLatch :=
  match primary with
  | some .strip => some .strip
  | some .drop => some .drop
  | some .raiseTimeout => some .raiseTimeout
  | _ =>
    if causes.contains .strip then some .strip
    else if causes.contains .drop then some .drop
    else if causes.contains .raiseTimeout then some .raiseTimeout
    else none

/-- The lowering is over: DOWN, or FAULT with a latch, and the vent output as given. -/
def finishLowering (p : Pan) (latch : Option FaultLatch) (vent : Bool) (quiet : Bool) (a : Act) : Act :=
  let r := panOf a.s p
  let a := a.modPan p fun r =>
    { r with
      state := if latch.isSome then .fault else .down
      latch, vent, causes := [], primary := none, phase := none, ventGuard := none, lowerDeadline := none }
  let a := changedPan p r.state (r.primary.map fun c => (c, r.causes)) quiet a
  match latch with
  | some l => placeReport (.panFault p l r.causes r.measured) a
  | none => a

/-- The VENT command is presented with origin PAN; H6 admits it (R55). -/
def presentVent (p : Pan) (a : Act) : Act := (present (ventCommand p) a).1

/-- R57: the DOWN contact ends the lowering; the VENT is presented first where the phase is AWAIT_MB. -/
def endAtContact (p : Pan) (quiet : Bool) (a : Act) : Act :=
  let r := panOf a.s p
  let a := if r.phase = some .awaitMb then presentVent p a else a
  finishLowering p (latchOf r.primary r.causes) false quiet a

/-- R58: the lower deadline ends the lowering; nothing happens where the pantograph is not LOWERING. -/
def endAtDeadline (p : Pan) (a : Act) : Act :=
  let r := panOf a.s p
  if r.state = .lowering then
    let a := if r.phase = some .awaitMb then presentVent p a else a
    finishLowering p (some .lowerTimeout) true false a
  else a

/-! ## Lowering phases (R53 to R56) -/

/-- R55: phase VENTING is entered and the VENT presented; `immediate` asserts the vent output. -/
def enterVenting (p : Pan) (immediate : Bool) (a : Act) : Act :=
  presentVent p (a.modPan p fun r => { r with phase := some .venting, ventGuard := none, vent := r.vent || immediate })

/-- R55: a DOWN contact that is active already ends the lowering at once. An immediate start tests it, and so does the end of
AWAIT_MB; an orderly start in VENTING does not (assumption log 18). -/
def testContact (p : Pan) (quiet : Bool) (a : Act) : Act := if downActive a.s p then endAtContact p quiet a else a

/-- R54, R56: phase AWAIT_MB ends in VENTING. -/
def leaveAwaitMb (p : Pan) (immediate quiet : Bool) (a : Act) : Act := testContact p quiet (enterVenting p immediate a)

/-- R54: MB is reported OPEN and not engaged. -/
def mbSafelyOpen (s : State) : Bool := s.sg.mb.reported == .opened && !mbEngaged s

/-- R54: the end of phase AWAIT_MB by a report of MB OPEN, tested on entry and at each change of the Switchgear Record. -/
def testAwaitMb (p : Pan) (quiet : Bool) (a : Act) : Act :=
  if (panOf a.s p).phase = some .awaitMb ∧ mbSafelyOpen a.s then leaveAwaitMb p false quiet a else a

/-- R54: phase AWAIT_MB is entered. -/
def enterAwaitMb (p : Pan) (quiet : Bool) (a : Act) : Act :=
  let guard := a.s.now + (settings a.s).ventGuard
  let a := a.modPan p fun r => { r with phase := some .awaitMb, ventGuard := some guard }
  testAwaitMb p quiet (requestMbOpen .pan a)

/-- R53: the first lower cause of a pantograph in RAISING or UP. -/
def beginLowering (p : Pan) (cause : LowerCause) (kind : CauseKind) (quiet : Bool) (a : Act) : Act :=
  let r := panOf a.s p
  let collecting := r.role = some .collect
  let engaged := mbEngaged a.s
  let deadline := a.s.now + (settings a.s).lowerTimeout
  let a := a.modPan p fun r =>
    { r with
      state := .lowering, causes := [cause], primary := some cause, role := none, profile := none, raiseOrigin := none,
      stage := none, stageDeadline := none, raiseDeadline := none, lowerDeadline := some deadline }
  let a := changedPan p r.state (some (cause, [cause])) quiet a
  match kind with
  | .orderly => if collecting ∧ engaged then enterAwaitMb p quiet a else enterVenting p false a
  | .immediate =>
    let a := enterVenting p true a
    testContact p quiet (if collecting ∧ engaged then requestMbOpen .pan a else a)

/-- R56: a cause joins the lowering in progress. -/
def joinLowering (p : Pan) (cause : LowerCause) (kind : CauseKind) (quiet : Bool) (a : Act) : Act :=
  let a := a.modPan p fun r => { r with causes := if r.causes.contains cause then r.causes else r.causes ++ [cause] }
  match kind with
  | .orderly => a
  | .immediate =>
    if (panOf a.s p).phase = some .awaitMb then leaveAwaitMb p true quiet a
    else a.modPan p fun r => { r with vent := true }

/-- R52: a lower cause reaches a pantograph; the answer is ACCEPTED where it began a lowering. -/
def lowerPan (p : Pan) (cause : LowerCause) (kind : CauseKind) (quiet : Bool) (a : Act) : Act × Bool :=
  match (panOf a.s p).state with
  | .raising => (beginLowering p cause kind quiet a, true)
  | .up => (beginLowering p cause kind quiet a, true)
  | .lowering => (joinLowering p cause kind quiet a, false)
  | .down => (a, false)
  | .fault => (a, false)

/-- R52: a cause that names both pantographs is taken for each separately, by PAN_A first: DESIGN CHOICE, for the rule gives no
order (assumption log 66). -/
def lowerBoth (cause : LowerCause) (kind : CauseKind) (a : Act) : Act × Bool :=
  let (a, first) := lowerPan .a cause kind false a
  let (a, second) := lowerPan .b cause kind false a
  (a, first || second)

/-! ## Taking a raise (R44 to R46) -/

/-- R47: the duration of a stage in milliseconds. -/
def stageDuration (start : Nat) (st : Stage) : Nat := ceilDiv (((st.target : Int) - start).natAbs * 1000) st.rate

/-- R45: the raise interlocks in their order. -/
def raiseClauses (s : State) (p : Pan) (role : PanRole) : List (Failed × Bool) :=
  let other := panOf s (otherPan p)
  [(.raiseRoofAccess, !functionActive s .roofAccess),
   (.raiseEs, s.sg.es.reported == .opened),
   (.raiseOther, role == .scrape || !(other.raised && other.role == some .collect)),
   (.raiseIso, (devOf s (isoOf p)).reported == (if role = .collect then .closed else .opened))]

/-- R44 checks 1 to 4: the result that refuses the raise, if one does. -/
def raiseRefusal (s : State) (p : Pan) (role : PanRole) (profile : Nat) : Option Result :=
  let r := panOf s p
  if s.vl.mode ≠ .run then some .mode
  else if (profileRecord s profile).isNone then some .range
  else if !rolePresent s (panRole p) then some .headAbsent
  else
    match r.state with
    | .fault => some .fault
    | .lowering => some .busy
    | .raising => if r.role = some role then some .already else some .busy
    | .up => if r.role = some role then some .already else some .busy
    | .down => none

/-- R46: the first RAMP was admitted. -/
def takeRaise (p : Pan) (role : PanRole) (profile : ProfileRecord) (first : Stage) (o : Origin) (a : Act) : Act :=
  let now := a.s.now
  let a := a.modPan p fun r =>
    { r with
      state := .raising, role := some role, profile := some profile.number, raiseOrigin := some o, stage := some 0,
      stageDeadline := some (now + stageDuration 0 first), raiseDeadline := some (now + profile.timeout), lastHold := none }
  let a := changedPan p .down none false a
  if stripActive a.s p then (lowerPan p .strip .immediate false a).1 else a

/-- The result of a raise, with the failed interlock or condition that INTERLOCK names. -/
structure RaiseAnswer where
  result : Result
  failed : Option Failed := none
deriving DecidableEq, Repr

/-- R44 to R46: a raise request; a first RAMP that is admitted begins the raise (assumption log 33). -/
def raisePan (p : Pan) (role : PanRole) (profile : Nat) (o : Origin) (a : Act) : Act × RaiseAnswer :=
  match raiseRefusal a.s p role profile with
  | some r => (a, { result := r })
  | none =>
    match firstFailed (raiseClauses a.s p role) with
    | some f => (a, { result := .interlock, failed := some f })
    | none =>
      match profileRecord a.s profile with
      | none => (a, { result := .range })
      | some pr =>
        let first := pr.stages.headD { target := 0, rate := 10 }
        match present (rampCommand p first.target first.rate o) a with
        | (a, .refused f) => (a, { result := .interlock, failed := some f })
        | (a, .sent) => (takeRaise p role pr first o a, { result := .accepted })
        | (a, .absent) => (takeRaise p role pr first o a, { result := .accepted })

/-! ## Stages (R47, R48, R50) -/

/-- R47, R48: the stage deadline expired; nothing happens where the pantograph is not RAISING. -/
def nextStage (p : Pan) (a : Act) : Act :=
  let r := panOf a.s p
  match r.state, r.stage, r.profile.bind (profileRecord a.s) with
  | .raising, some k, some pr =>
    match pr.stages[k + 1]? with
    | none => a.modPan p fun r => { r with stage := some (k + 1), stageDeadline := none }
    | some st =>
      let start := (pr.stages[k]?.map (·.target)).getD 0
      let deadline := a.s.now + stageDuration start st
      let a := a.modPan p fun r => { r with stage := some (k + 1), stageDeadline := none }
      match present (rampCommand p st.target st.rate (r.raiseOrigin.getD .pan)) a with
      | (a, .refused _) => (lowerPan p .protect .immediate false a).1
      | (a, .sent) => a.modPan p fun r => { r with stageDeadline := some deadline }
      | (a, .absent) => a.modPan p fun r => { r with stageDeadline := some deadline }
  | _, _, _ => a

/-- R50: the raise deadline expired; nothing happens where the pantograph is not RAISING. -/
def raiseTimeout (p : Pan) (a : Act) : Act :=
  if (panOf a.s p).state = .raising then (lowerPan p .raiseTimeout .immediate false a).1 else a

/-- R54: the vent guard expired; nothing happens where the phase is not AWAIT_MB. -/
def ventGuardOver (p : Pan) (a : Act) : Act :=
  if (panOf a.s p).phase = some .awaitMb then leaveAwaitMb p false false a else a

/-! ## Hold pressure (R51) -/

/-- R51: the hold pressure under a profile at a speed in cm/s. -/
def holdPressure (pr : ProfileRecord) (speed : Nat) : Nat := min pr.maxPressure (pr.holdBase + pr.gain * speed / 100)

/-- R51: a HOLD is presented, and the last hold pressure sent takes the value when the gate admits it (assumption log 33). -/
def presentHold (p : Pan) (pressure : Nat) (a : Act) : Act :=
  match present (holdCommand p pressure) a with
  | (a, .refused _) => a
  | (a, .sent) => a.modPan p fun r => { r with lastHold := some pressure }
  | (a, .absent) => a.modPan p fun r => { r with lastHold := some pressure }

/-- R51: a HOLD is due at a position frame. -/
def holdDue (last : Option Nat) (pressure : Nat) : Bool :=
  match last with
  | none => true
  | some l => decide (20 ≤ ((pressure : Int) - l).natAbs)

/-- R51: a position frame was taken. -/
def updateHold (p : Pan) (a : Act) : Act :=
  let r := panOf a.s p
  match r.state, r.profile.bind (profileRecord a.s) with
  | .up, some pr =>
    let pressure := holdPressure pr (speed a.s)
    if holdDue r.lastHold pressure then presentHold p pressure a else a
  | _, _ => a

/-! ## Contacts and switches (R49, R57, R59, R62) -/

/-- R49: the UP contact became active. -/
def upContactOn (p : Pan) (a : Act) : Act :=
  let r := panOf a.s p
  if r.state = .raising then
    let a := a.modPan p fun r => { r with state := .up, stage := none, stageDeadline := none, raiseDeadline := none }
    let a := changedPan p .raising none false a
    match r.profile.bind (profileRecord a.s) with
    | some pr => presentHold p (holdPressure pr (speed a.s)) a
    | none => a
  else a

/-- R59: the UP contact became inactive. -/
def upContactOff (p : Pan) (a : Act) : Act :=
  if (panOf a.s p).state = .up then (lowerPan p .drop .immediate false a).1 else a

/-- R57: the DOWN contact became active. -/
def downContactOn (p : Pan) (a : Act) : Act := if (panOf a.s p).state = .lowering then endAtContact p false a else a

/-- R59: the strip switch became active. -/
def stripOn (p : Pan) (a : Act) : Act := (lowerPan p .strip .immediate false a).1

/-- R62: ROOF_ACCESS became active. -/
def roofAccessOn (a : Act) : Act := (lowerBoth .roofAccess .immediate a).1

/-! ## Heads (R60, R61) -/

/-- R60: a STATUS of the pantograph's head. -/
def panStatus (p : Pan) (payload : List Byte) (a : Act) : Act :=
  let before := (panOf a.s p).headFault
  let a := a.modPan p fun r => { r with measured := some (statusPressure payload), headFault := statusFault payload }
  if statusFault payload && !before then (lowerPan p .protect .immediate false a).1 else a

/-- R61: the pantograph's head role left PRESENT. -/
def panHeadLost (p : Pan) (a : Act) : Act :=
  (lowerPan p .headLost .immediate false (a.modPan p fun r => { r with measured := none, headFault := false })).1

/-! ## Vehicle requests and RESTART (R63, R64, R67) -/

/-- R63: the pantographs a PAN_LOWER names take the cause VEHICLE. -/
def lowerChoice (pans : PanChoice) (a : Act) : Act × Bool :=
  match pans with
  | .one p => lowerPan p .vehicle .orderly false a
  | .both => lowerBoth .vehicle .orderly a

/-- R64: CLEAR_PAN_FAULT. -/
def clearFault (p : Pan) (a : Act) : Act × Result :=
  if (panOf a.s p).state = .fault then
    if downActive a.s p then
      (changedPan p .fault none false (a.modPan p fun r => { r with state := .down, latch := none, vent := false }), .done)
    else (a, .fault)
  else (a, .notActive)

/-- R67: the RESTART effects. -/
def restartPans (a : Act) : Act := (lowerBoth .protect .immediate a).1

end Sys2Proof.Machine
end

