-- ==== Sys2Proof/Machine/ChangeoverOps.lean ====
section
/-! DEFINITION. The Changeover Sequencer (08). A step's entry rule is one definition; a step whose end condition holds at its
entry passes on in the same act, so the steps stand here last first. Each carries the step left at the start of the chain and
the steps passed through since (R137). -/

namespace Sys2Proof.Machine

/-! ## Reading the record -/

/-- The SYSTEM record of the target. -/
def targetRecord (s : State) : Option SystemRecord := s.co.target.bind (systemRecord s)

/-- A named value of a record's field. -/
def Coded.value {α : Type} : Coded α → Option α
  | .named v => some v
  | .unnamed _ => none

/-- A named value satisfies a test. -/
def Coded.test {α : Type} (f : α → Bool) (c : Coded α) : Bool := c.value.any f

/-- The kept pan, while there is one. -/
def keptPan (s : State) : Option Pan := if s.co.kept then s.co.newPan else none

/-- R149: the changeover relies on a pantograph in the step that stands. -/
def reliesOn (s : State) (p : Pan) : Bool :=
  match s.co.step with
  | .loweringOld => keptPan s == some p
  | .selecting => keptPan s == some p
  | .awaitRaise => keptPan s == some p
  | .raisingNew => s.co.newPan == some p
  | .verifying => s.co.newPan == some p
  | .halted => s.co.newPan == some p
  | .idle => false
  | .opening => false
  | .closing => false
  | .aborting => false

/-! ## Reports -/

/-- R137: the CHANGEOVER_STEP report of the step reached, one for a chain of steps (assumption log 22). -/
def reportStep (left : CoStep) (passed : List CoStep) (a : Act) : Act :=
  placeReport (.changeoverStep a.s.co.step left passed a.s.co.target a.s.co.newPan a.s.co.kept (estimate a.s)) a

/-- R154: the CHANGEOVER_RESULT report of an end; `reason` is the abort reason that led into ABORTING, where the result names
another. -/
def reportResult (result : CoResult) (reason : Option AbortReason) (a : Act) : Act :=
  let c := a.s.co
  placeReport (.changeoverResult result reason c.detail c.target c.origin c.oldSystem c.newPan c.kept c.abortStep
    a.s.lm.confirmed a.s.sg.mb.reported (estimate a.s)) a

/-! ## Changing the step -/

/-- The step becomes another; what belongs to the step left is over, and the readers of the record are told. -/
def toStep (step : CoStep) (a : Act) : Act :=
  (a.modCo fun c => { c with step, requested := [], awaited := [], verifyDeadline := none, raiseTimer := none }).tellStep

/-- The changeover ends with a result: the step becomes IDLE and the report of the result is made. -/
def endChangeover (result : CoResult) (reason : Option AbortReason) (left : CoStep) (passed : List CoStep) (a : Act) : Act :=
  let a := toStep .idle (a.modCo fun c => { c with usable := none, lastResult := some result })
  reportStep left passed (reportResult result reason a)

/-! ## Aborting (R150, R151) -/

/-- R151: the end condition of ABORTING. -/
def abortOver (s : State) : Bool :=
  s.pans.a.state != .raising && s.pans.b.state != .raising
    && (s.sg.mb.reported == .opened || !rolePresent s .switchgear)

/-- R151: ABORTING is over; the result is ABORTED with the abort reason. -/
def finishAbort (left : CoStep) (passed : List CoStep) (a : Act) : Act :=
  endChangeover (.aborted (a.s.co.abortReason.getD .refused)) none left passed a

/-- R150 step 4: a pantograph in RAISING is asked to lower and awaited, until ABORTING is over (assumption log 46); `abort` asks
PAN_A first (assumption log 66). -/
def abortRaise (a : Act) (p : Pan) : Act :=
  if (panOf a.s p).state = .raising then
    (lowerPan p .changeover .orderly true a).1.modCo fun c => { c with awaited := c.awaited ++ [p] }
  else a

/-- R150 step 3: MB is asked to open. -/
def abortOpen (a : Act) : Act :=
  if reportedIdle a.s .mb .opened || !rolePresent a.s .switchgear then a
  else (requestMbOpen .sequencer a).modCo fun c => { c with requested := [(.mb, .opened)] }

/-- R150 step 2: a new pan on the wrong system is asked to lower. -/
def abortWrongPan (reason : AbortReason) (a : Act) : Act :=
  match reason, a.s.co.newPan with
  | .wrongSystem, some p => (lowerPan p .changeover .orderly true a).1
  | _, _ => a

/-- R150: an abort, taken in the step that stands. -/
def abort (reason : AbortReason) (detail : Option AbortDetail) (left : CoStep) (passed : List CoStep) (a : Act) : Act :=
  let at' := a.s.co.step
  let a := toStep .aborting
    (a.modCo fun c => { c with abortReason := some reason, detail, abortStep := some at', usable := none })
  let a := pansInOrder.foldl abortRaise (abortOpen (abortWrongPan reason a))
  if abortOver a.s then finishAbort left (passed ++ [.aborting]) a else reportStep left passed a

/-- An abort on an event in the step that stands; in IDLE and ABORTING nothing happens (R150, R153). -/
def abortOnEvent (reason : AbortReason) (a : Act) : Act :=
  if inProgress a.s then abort reason none a.s.co.step [] a else a

/-! ## Answers to the sequencer's requests (R138) -/

/-- R138: what a refused move aborts with. -/
def moveRefusal : MoveResult → Option (AbortReason × Option AbortDetail)
  | .accepted => none
  | .already => none
  | .interlock f => some (.interlock, some (.failed f))
  | .headAbsent => some (.headLost, none)
  | .busy => some (.refused, some (.answer .busy))
  | .range => some (.refused, some (.answer .range))

/-- R138: what a refused raise aborts with. -/
def raiseRefusalReason (r : RaiseAnswer) : Option (AbortReason × Option AbortDetail) :=
  match r.result with
  | .accepted => none
  | .already => none
  | .interlock => some (.interlock, r.failed.map .failed)
  | .headAbsent => some (.headLost, none)
  | .fault => some (.panFault, none)
  | other => some (.refused, some (.answer other))

/-- A move asked for by the sequencer joins the requested moves; a refusal is what the changeover aborts with. -/
def seqMove (d : Dev) (target : Pos) (a : Act) : Act × Option (AbortReason × Option AbortDetail) :=
  match moveRequest d target .sequencer a with
  | (a, r) =>
    match moveRefusal r with
    | some refusal => (a, some refusal)
    | none => (a.modCo fun c => { c with requested := c.requested ++ [(d, target)] }, none)

/-! ## CLOSING (R147) -/

/-- R147: the breaker is reported CLOSED and IDLE. -/
def closingOver (s : State) : Bool := reportedIdle s .mb .closed

/-- R147: entry to CLOSING. -/
def enterClosing (left : CoStep) (passed : List CoStep) (a : Act) : Act :=
  match seqMove .mb .closed (toStep .closing a) with
  | (a, some (reason, detail)) => abort reason detail left (passed ++ [.closing]) a
  | (a, none) => if closingOver a.s then endChangeover .done none left (passed ++ [.closing]) a else reportStep left passed a

/-! ## VERIFYING (R146) -/

/-- What a test of the confirmed state decides. -/
inductive Verdict where
  | wait | confirmed
  | stop (reason : AbortReason)
deriving DecidableEq, Repr

/-- R146: the table of outcomes. -/
def verdict (s : State) : Verdict :=
  match s.lm.confirmed with
  | .system c =>
    if s.co.target = some c then .confirmed
    else if s.co.kept ∧ s.co.oldSystem = some c then .wait
    else .stop .wrongSystem
  | .over => .stop .over
  | .dead => .wait
  | .unknown => .wait
  | .noSense => .wait

/-- R146: entry to VERIFYING. -/
def enterVerifying (left : CoStep) (passed : List CoStep) (a : Act) : Act :=
  let deadline := a.s.now + (settings a.s).verifyTimeout
  let a := (toStep .verifying a).modCo fun c => { c with verifyDeadline := some deadline }
  match verdict a.s with
  | .wait => reportStep left passed a
  | .confirmed => enterClosing left (passed ++ [.verifying]) a
  | .stop reason => abort reason none left (passed ++ [.verifying]) a

/-- R146: a change of the confirmed state in VERIFYING. -/
def testVerifying (a : Act) : Act :=
  if a.s.co.step = .verifying then
    match verdict a.s with
    | .wait => a
    | .confirmed => enterClosing .verifying [] a
    | .stop reason => abort reason none .verifying [] a
  else a

/-- R146: the verify deadline expired; nothing happens in another step. -/
def verifyTimedOut (a : Act) : Act :=
  if a.s.co.step = .verifying then reportStep .verifying [] (toStep .halted a) else a

/-! ## RAISING_NEW (R145) -/

/-- R145: the new pan is UP. -/
def newPanUp (s : State) : Bool := s.co.newPan.any fun p => (panOf s p).state == .up

/-- R145: entry to RAISING_NEW. A target whose SYSTEM record is gone is no raise at all (assumption log 30). -/
def enterRaisingNew (left : CoStep) (passed : List CoStep) (a : Act) : Act :=
  let a := toStep .raisingNew a
  match targetRecord a.s, a.s.co.newPan with
  | some r, some p =>
    match raisePan p .collect r.raiseProfile .sequencer a with
    | (a, answer) =>
      match raiseRefusalReason answer with
      | some (reason, detail) => abort reason detail left (passed ++ [.raisingNew]) a
      | none => if newPanUp a.s then enterVerifying left (passed ++ [.raisingNew]) a else reportStep left passed a
  | _, _ => abort .refused (some (.answer .unknownSystem)) left (passed ++ [.raisingNew]) a

/-! ## AWAIT_RAISE (R142) -/

/-- R142: the position at which the step ends is reached. -/
def raiseReached (s : State) : Bool :=
  match s.co.raisePosition, estimate s with
  | some p, some e => s.co.usable == some true && s.pr.position.fresh && decide (p ≤ e)
  | _, _ => false

/-- R142: when the raise timer runs out, while it can run. -/
def raiseTime (s : State) : Option Nat :=
  if s.co.usable = some true then s.co.raisePosition.bind (reachTime s.pr.position) else none

/-- R142: entry to AWAIT_RAISE. -/
def enterAwaitRaise (left : CoStep) (passed : List CoStep) (a : Act) : Act :=
  let a := toStep .awaitRaise a
  if raiseReached a.s then enterRaisingNew left (passed ++ [.awaitRaise]) a
  else
    let timer := raiseTime a.s
    reportStep left passed (a.modCo fun c => { c with raiseTimer := timer })

/-- R142: a test in AWAIT_RAISE, at a position frame or the raise timer's expiry. A test that does not end the step and cannot
set the timer, the speed being 0 for one, cancels it (assumption log 55). -/
def testAwaitRaise (a : Act) : Act :=
  if a.s.co.step = .awaitRaise then
    if raiseReached a.s then enterRaisingNew .awaitRaise [] a
    else
      let timer := raiseTime a.s
      a.modCo fun c => { c with raiseTimer := timer }
  else a

/-- R142: the record became STALE. -/
def raiseStale (a : Act) : Act := a.modCo fun c => { c with raiseTimer := none }

/-- R143: a jump of the Position Record. -/
def raiseJump (a : Act) : Act :=
  if inProgress a.s then a.modCo fun c => { c with usable := some false, raiseTimer := none } else a

/-! ## SELECTING (R141) -/

/-- R141: every requested move has its device reported at its target and IDLE. -/
def selectingOver (s : State) : Bool := s.co.requested.all fun m => reportedIdle s m.1 m.2

/-- R141: the step after SELECTING. -/
def leaveSelecting (left : CoStep) (passed : List CoStep) (a : Act) : Act :=
  if a.s.co.kept then enterVerifying left passed a else enterAwaitRaise left passed a

/-- R141: the positions that SELECTING brings about, in its order. -/
def selectingGoals (s : State) (r : SystemRecord) : List (Dev × Pos) :=
  (match r.selector with
    | .named sel => [(Dev.ss, selectorPos sel)]
    | .unnamed _ => [])
  ++ (if s.co.kept then []
      else
        match s.co.newPan with
        | some p => [(isoOf p, .closed), (isoOf (otherPan p), .opened)]
        | none => [])

/-- R141: the moves are asked for in order, up to the first refusal. -/
def askMoves : List (Dev × Pos) → Act → Act × Option (AbortReason × Option AbortDetail)
  | [], a => (a, none)
  | (d, target) :: rest, a =>
    if reportedIdle a.s d target then askMoves rest a
    else
      match seqMove d target a with
      | (a, some refusal) => (a, some refusal)
      | (a, none) => askMoves rest a

/-- R141: entry to SELECTING. -/
def enterSelecting (left : CoStep) (passed : List CoStep) (a : Act) : Act :=
  let a := toStep .selecting a
  match targetRecord a.s with
  | none => abort .refused (some (.answer .unknownSystem)) left (passed ++ [.selecting]) a
  | some r =>
    match askMoves (selectingGoals a.s r) a with
    | (a, some (reason, detail)) => abort reason detail left (passed ++ [.selecting]) a
    | (a, none) => if selectingOver a.s then leaveSelecting left (passed ++ [.selecting]) a else reportStep left passed a

/-! ## LOWERING_OLD (R140) -/

/-- R140: the kept pan, if there is one. -/
def keptPanFor (s : State) (r : SystemRecord) : Option Pan :=
  if r.selector.test fun sel => s.sg.ss.reported == selectorPos sel then
    pansInOrder.find? fun p => (panOf s p).collecting && r.panSet.test fun set => set.holds p
  else none

/-- R140: every pantograph but the kept one that is up or rising is asked to lower, PAN_A first (assumption log 66). -/
def lowerOld (kept : Option Pan) (a : Act) (p : Pan) : Act :=
  if kept ≠ some p ∧ (panOf a.s p).raised then (lowerPan p .changeover .orderly true a).1 else a

/-- R140: no awaited pan remains in LOWERING. -/
def loweringOver (s : State) : Bool := s.co.awaited.all fun p => (panOf s p).state != .lowering

/-- R140: entry to LOWERING_OLD. -/
def enterLoweringOld (left : CoStep) (passed : List CoStep) (a : Act) : Act :=
  let a := toStep .loweringOld a
  match targetRecord a.s with
  | none => abort .refused (some (.answer .unknownSystem)) left (passed ++ [.loweringOld]) a
  | some r =>
    let kept := keptPanFor a.s r
    let new := kept <|> r.preferred.value
    let a := a.modCo fun c => { c with newPan := new, kept := kept.isSome }
    let a := pansInOrder.foldl (lowerOld kept) a
    let awaited := pansInOrder.filter fun p => kept != some p && (panOf a.s p).state == .lowering
    let a := a.modCo fun c => { c with awaited }
    if awaited.isEmpty then enterSelecting left (passed ++ [.loweringOld]) a else reportStep left passed a

/-! ## OPENING (R139) -/

/-- R139: entry to OPENING. -/
def enterOpening (left : CoStep) (passed : List CoStep) (a : Act) : Act :=
  let a := toStep .opening a
  if reportedIdle a.s .mb .opened then enterLoweringOld left (passed ++ [.opening]) a
  else
    match seqMove .mb .opened a with
    | (a, some (reason, detail)) => abort reason detail left (passed ++ [.opening]) a
    | (a, none) =>
      if a.s.sg.mb.reported = .opened then enterLoweringOld left (passed ++ [.opening]) a else reportStep left passed a

/-! ## Events in a step -/

/-- The Switchgear Record changed (R139, R141, R147, R148, R151). In SELECTING, R148's test of MB comes before R141's of the
requested moves, so that a change that meets both aborts in SELECTING (assumption log 60). -/
def coSwitch (a : Act) : Act :=
  match a.s.co.step with
  | .idle => a
  | .opening => if a.s.sg.mb.reported = .opened then enterLoweringOld .opening [] a else a
  | .selecting =>
    if mbEngaged a.s then abort .mbClosed none .selecting [] a
    else if selectingOver a.s then leaveSelecting .selecting [] a else a
  | .loweringOld => if mbEngaged a.s then abort .mbClosed none .loweringOld [] a else a
  | .awaitRaise => if mbEngaged a.s then abort .mbClosed none .awaitRaise [] a else a
  | .raisingNew => if mbEngaged a.s then abort .mbClosed none .raisingNew [] a else a
  | .verifying => if mbEngaged a.s then abort .mbClosed none .verifying [] a else a
  | .halted => if mbEngaged a.s then abort .mbClosed none .halted [] a else a
  | .closing =>
    if a.s.sg.mb.target = some .opened then abort .mbOpened none .closing [] a
    else if closingOver a.s then endChangeover .done none .closing [] a else a
  | .aborting => if abortOver a.s then finishAbort .aborting [] a else a

/-- A move was given up (R139, R141, R147, R151). -/
def coGaveUp (d : Dev) (target : Pos) (a : Act) : Act :=
  match a.s.co.step, d, target with
  | .opening, .mb, .opened => abort .mbStuck none .opening [] a
  | .closing, .mb, .closed => abort .mbStuck none .closing [] a
  | .aborting, .mb, .opened => endChangeover (.aborted .mbStuck) a.s.co.abortReason .aborting [] a
  | .selecting, .ss, _ => abort .switchgearFault none .selecting [] a
  | .selecting, .isoA, _ => abort .switchgearFault none .selecting [] a
  | .selecting, .isoB, _ => abort .switchgearFault none .selecting [] a
  | _, _, _ => a

/-- R149: the abort reason of a relied-on pantograph's lowering. -/
def lowerReason : Option LowerCause → AbortReason
  | some .strip => .panFault
  | some .drop => .panFault
  | some .raiseTimeout => .panFault
  | some .headLost => .headLost
  | some .standby => .standby
  | _ => .panLowered

/-- R140: a Pan Record changed its state in LOWERING_OLD. -/
def coPanLowered (p : Pan) (new : PanState) (a : Act) : Act :=
  if a.s.co.awaited.contains p then
    if new = .fault then abort .panFault none .loweringOld [] a
    else
      let a := a.modCo fun c => { c with awaited := c.awaited.filter fun q => (panOf a.s q).state == .lowering }
      if a.s.co.awaited.isEmpty then enterSelecting .loweringOld [] a else a
  else a

/-- A Pan Record changed its state (R140, R145, R149, R151); what the note says of an earlier change counts only while the
record has not been raised again. -/
def coPan (p : Pan) (new : PanState) (cause : Option LowerCause) (a : Act) : Act :=
  if new = .lowering ∧ reliesOn a.s p ∧ !(panOf a.s p).raised then abort (lowerReason cause) none a.s.co.step [] a
  else if a.s.co.step = .loweringOld then coPanLowered p new a
  else if a.s.co.step = .raisingNew ∧ newPanUp a.s then enterVerifying .raisingNew [] a
  else if a.s.co.step = .aborting ∧ abortOver a.s then finishAbort .aborting [] a
  else a

/-- A role's presence changed (R151, R153). -/
def coRole (role : Role) (present : Bool) (a : Act) : Act :=
  let a :=
    match role, present with
    | .line, false => abortOnEvent .senseLost a
    | .switchgear, false => abortOnEvent .headLost a
    | _, _ => a
  if role = .switchgear ∧ a.s.co.step = .aborting ∧ abortOver a.s then finishAbort .aborting [] a else a

/-! ## Starting (R134 to R136) -/

/-- R134: the answer that refuses a start, if one does. -/
def startRefusal (s : State) (target : Nat) : Option Result :=
  if s.vl.mode ≠ .run then some .mode
  else if s.co.step ≠ .idle then some .busy
  else if (systemRecord s target).isNone then some .unknownSystem
  else if !(rolePresent s .switchgear && rolePresent s .line) then some .headAbsent
  else none

/-- R135: the pantograph with which the start is a NOOP, if it is one. -/
def noopPan (s : State) (target : Nat) (r : SystemRecord) : Option Pan :=
  if s.lm.confirmed = .system target ∧ r.selector.test (fun sel => s.sg.ss.reported == selectorPos sel)
      ∧ s.sg.mb.reported = .closed
  then pansInOrder.find? fun p => (panOf s p).collecting && r.panSet.test fun set => set.holds p
  else none

/-- R135: the record of a NOOP. -/
def takeNoop (target : Nat) (raisePosition : Option Nat) (o : CoOrigin) (p : Pan) (a : Act) : Act :=
  reportResult .noop none (a.modCo fun c =>
    { c with
      target := some target, origin := some o, raisePosition, oldSystem := some target, newPan := some p, kept := true,
      lastResult := some .noop, abortReason := none, detail := none, abortStep := none })

/-- R136: a scrape pantograph is asked to lower; `takeStart` asks PAN_A first (assumption log 66). -/
def lowerScrape (a : Act) (p : Pan) : Act :=
  if (panOf a.s p).raised ∧ (panOf a.s p).role = some .scrape then (lowerPan p .changeover .orderly true a).1 else a

/-- R136: an accepted start. -/
def takeStart (target : Nat) (raisePosition : Option Nat) (o : CoOrigin) (a : Act) : Act :=
  let old := confirmedCode a.s
  let a := a.modCo fun c =>
    { c with
      target := some target, origin := some o, raisePosition, usable := some true, oldSystem := old, newPan := none,
      kept := false, abortReason := none, detail := none, abortStep := none }
  enterOpening .idle [] (pansInOrder.foldl lowerScrape a)

/-- R134 to R136: a CHANGEOVER_START, from the vehicle or a firing. -/
def startChangeover (target : Nat) (raisePosition : Option Nat) (o : CoOrigin) (a : Act) : Act × Result :=
  match startRefusal a.s target with
  | some r => (a, r)
  | none =>
    match (systemRecord a.s target).bind (noopPan a.s target) with
    | some p => (takeNoop target raisePosition o p a, .noop)
    | none => (takeStart target raisePosition o a, .accepted)

/-! ## Vehicle requests and RESTART (R144, R152, R156) -/

/-- R144: CHANGEOVER_PROCEED. -/
def proceedChangeover (a : Act) : Act × Result :=
  match a.s.co.step with
  | .awaitRaise => (enterRaisingNew .awaitRaise [] a, .accepted)
  | .halted => (enterVerifying .halted [] a, .accepted)
  | .idle => (a, .notActive)
  | .opening => (a, .notActive)
  | .loweringOld => (a, .notActive)
  | .selecting => (a, .notActive)
  | .raisingNew => (a, .notActive)
  | .verifying => (a, .notActive)
  | .closing => (a, .notActive)
  | .aborting => (a, .notActive)

/-- R152: CHANGEOVER_ABORT. -/
def abortChangeover (a : Act) : Act × Result :=
  if a.s.co.step = .idle then (a, .notActive)
  else if a.s.co.step = .aborting then (a, .already)
  else (abort .vehicle none a.s.co.step [] a, .accepted)

/-- R156: the RESTART effects. -/
def restartChangeover (a : Act) : Act :=
  a.modCo fun c =>
    { c with
      step := .idle, lastResult := some (.aborted .restart), abortReason := some .restart, usable := none, verifyDeadline := none,
      raiseTimer := none, requested := [], awaited := [] }

end Sys2Proof.Machine
end

