-- ==== Sys2Proof/Machine/IceOps.lean ====
section
/-! DEFINITION. Ice Control (09): the ice score, the ice states, scraping, the heater budget and the heater allocation. -/

namespace Sys2Proof.Machine

/-! ## Heater budget and allocation (R168 to R170) -/

/-- R168: the headroom and the heater budget, in kW. -/
def heaterBudget (s : State) : Nat × Nat :=
  match s.sg.mb.reported, (confirmedCode s).bind (systemRecord s), s.lm.last with
  | .closed, some r, some w =>
    let volts := (if r.selector = .named .ac then w.vac else w.m.natAbs) * 3 / 2
    let headroom := (r.iMax - w.iw) * volts / 1000
    (headroom, min r.budget headroom)
  | _, _, _ => (0, 0)

/-- The bit of a group in an on-set. -/
def groupBit (g : Nat) : Groups := (1 : Groups) <<< (g - 1)

/-- R169: whether a record's group is a candidate in an ice state. -/
def isCandidate (st : IceState) (r : HeaterRecord) : Bool :=
  match st with
  | .inactive => false
  | .watch => r.watch == .named true
  | .heat => true
  | .scrape => true

/-- R169: one group in table order: on when its power is at or below what remains. -/
def allocateGroup (acc : Groups × Nat) (r : HeaterRecord) : Groups × Nat :=
  if r.power ≤ acc.2 then (acc.1 ||| groupBit r.group, acc.2 - r.power) else acc

/-- R169: the on-set that a budget allows. -/
def firstFit (budget : Nat) (candidates : List HeaterRecord) : Groups := (candidates.foldl allocateGroup (0, budget)).1

/-- R170: an on-set that differs from the one last commanded is presented while the HEATER role is PRESENT. -/
def presentGroups (a : Act) : Act :=
  let g := a.s.ice.allocated
  if rolePresent a.s .heater ∧ a.s.ice.commanded ≠ some g then
    match present (groupsCommand g) a with
    | (a, .sent) => a.modIce fun i => { i with commanded := some g }
    | (a, .absent) => a
    | (a, .refused _) => a
  else a

/-- R169: the allocation is recomputed and presented. -/
def allocate (a : Act) : Act :=
  let budget := heaterBudget a.s
  let candidates := (validRecords a.s.vl.tables.heater).filter (isCandidate a.s.ice.state)
  presentGroups (a.modIce fun i =>
    { i with headroom := budget.1, budget := budget.2, allocated := firstFit budget.2 candidates })

/-! ## Reports (R171) -/

/-- R171: the ICE report of an evaluation or event. -/
def reportIce (before : IceState) (cause : IceCause) (a : Act) : Act :=
  let i := a.s.ice
  placeReport (.ice before i.state cause i.score i.base i.arcCount i.budget i.allocated) a

/-! ## Permission (R164) -/

/-- The SYSTEM record of the confirmed code, where it permits scraping. -/
def scrapeRecord (s : State) : Option SystemRecord :=
  ((confirmedCode s).bind (systemRecord s)).filter fun r => r.scrapePermitted == .named true

/-- R164: conditions 1 to 6, at an evaluation with a trigger. The change to a step other than IDLE fails condition 2 even where
the step has become IDLE again in the same act (R137, R162, assumption log 51); `evaluateSteps` keeps it to the scrape that was
there at the change. -/
def scrapeConditions (trigger : IceTrigger) (s : State) : List Bool :=
  [s.vl.mode == .run,
   s.co.step == .idle && trigger != .step,
   !s.ice.inhibit,
   (scrapeRecord s).isSome,
   (scrapeRecord s).any fun r => decide (speed s ≤ r.scrapeSpeed.getD 0),
   (collectingPan s).isSome]

/-- R164: the first of conditions 1 to 6 that fails, numbered from 1. -/
def failingCondition (trigger : IceTrigger) (s : State) : Option Nat :=
  ((scrapeConditions trigger s).findIdx? fun holds => !holds).map (· + 1)

/-- R164 condition 7 for entry: the other Pan Record is DOWN. -/
def otherDown (s : State) : Bool := (collectingPan s).any fun p => (panOf s (otherPan p)).state == .down

/-- R164: scraping is allowed for entry. -/
def scrapeEntry (trigger : IceTrigger) (s : State) : Bool := (failingCondition trigger s).isNone && otherDown s

/-- R164 condition 7 in SCRAPE: the scrape pan is in the state its phase expects. -/
def scrapePanExpected (s : State) : Bool :=
  match s.ice.scrapePan, s.ice.phase with
  | some p, some .isoOpening => (panOf s p).state == .down
  | some p, some .raising => (panOf s p).state == .raising && (panOf s p).role == some .scrape
  | some p, some .active => (panOf s p).state == .up && (panOf s p).role == some .scrape
  | _, _ => false

/-! ## Entering and leaving SCRAPE (R165, R166) -/

/-- R166: the scrape pan is asked to lower, and the scrape pan and phase become absent. -/
def leaveScrape (a : Act) : Act :=
  let a :=
    match a.s.ice.scrapePan with
    | none => a
    | some p => (lowerPan p .scrapeEnd .orderly false a).1
  a.modIce fun i => { i with scrapePan := none, phase := none }

/-- R166: a failed entry: SCRAPE is left for HEAT with the hold-off set. -/
def failEntry (a : Act) : Act := (leaveScrape a).modIce fun i => { i with state := .heat, holdOff := true }

/-- R165: the raise of the scrape pan; the answer where it is refused. -/
def askScrapeRaise (p : Pan) (a : Act) : Act × Option Result :=
  let a := a.modIce fun i => { i with phase := some .raising }
  let profile := ((scrapeRecord a.s).bind (·.scrapeProfile)).getD 0
  match raisePan p .scrape profile .ice a with
  | (a, answer) => if answer.result = .accepted then (a, none) else (a, some answer.result)

/-- The answer of a refused move request. -/
def moveAnswer : MoveResult → Option Result
  | .accepted => none
  | .already => none
  | .busy => some .busy
  | .range => some .range
  | .headAbsent => some .headAbsent
  | .interlock _ => some .interlock

/-- What an ice transition leads to: the act after it, with the cause that the report names in place of the trigger's. -/
structure IceMove where
  act : Act
  cause : Option IceCause := none

/-- R165: SCRAPE is entered; a refusal fails the entry. -/
def enterScrape (collecting : Pan) (a : Act) : IceMove :=
  let p := otherPan collecting
  let a := a.modIce fun i => { i with state := .scrape, scrapePan := some p, phase := some .isoOpening }
  let asked : Act × Option Result :=
    if reportedIdle a.s (isoOf p) .opened then askScrapeRaise p a
    else
      match moveRequest (isoOf p) .opened .ice a with
      | (a, r) => (a, moveAnswer r)
  match asked with
  | (a, none) => { act := a }
  | (a, some answer) => { act := failEntry a, cause := some (.entryFailed (some answer)) }

/-- R165: the test of phase ISO_OPENING: none while the switch still moves. An entry that the switch failed has no refusing
answer (assumption log 48). -/
def testIsoOpening (p : Pan) (a : Act) : Option IceMove :=
  if !(devOf a.s (isoOf p)).idle then none
  else if (devOf a.s (isoOf p)).reported = .opened then
    match askScrapeRaise p a with
    | (a, none) => some { act := a }
    | (a, some answer) => some { act := failEntry a, cause := some (.entryFailed (some answer)) }
  else some { act := failEntry a, cause := some (.entryFailed none) }

/-! ## The ice state machine (R162, R163) -/

/-- R166: the scrape pan UP in phase RAISING makes the phase ACTIVE. -/
def promotePhase (a : Act) : Act :=
  match a.s.ice.phase, a.s.ice.scrapePan with
  | some .raising, some p =>
    if (panOf a.s p).state = .up ∧ (panOf a.s p).role = some .scrape then a.modIce fun i => { i with phase := some .active } else a
  | _, _ => a

/-- R163, R164: what SCRAPE passes to under AUTO, if anything; the score is tested first (assumption log 24). -/
def scrapeStep (trigger : IceTrigger) (a : Act) : Option IceMove :=
  if a.s.ice.score ≤ (settings a.s).scrapeOff then
    some { act := (leaveScrape a).modIce fun i => { i with state := .heat } }
  else
    match failingCondition trigger a.s with
    | some k => some { act := (leaveScrape a).modIce fun i => { i with state := .heat }, cause := some (.permission k) }
    | none =>
      if scrapePanExpected a.s then
        match a.s.ice.scrapePan, a.s.ice.phase with
        | some p, some .isoOpening => testIsoOpening p a
        | _, _ => none
      else
        let state := (a.s.ice.scrapePan.map fun p => (panOf a.s p).state).getD .down
        some { act := failEntry a, cause := some (.scrapePan state) }

/-- R163: the transition that applies under AUTO, if one does; an ISO_OPENING that ends with its raise taken keeps SCRAPE. -/
def autoStep (trigger : IceTrigger) (a : Act) : Option IceMove :=
  let st := settings a.s
  match a.s.ice.state with
  | .inactive => some { act := a.modIce fun i => { i with state := .watch } }
  | .watch => if st.heatOn ≤ a.s.ice.score then some { act := a.modIce fun i => { i with state := .heat } } else none
  | .heat =>
    if a.s.ice.score ≤ st.heatOff then some { act := a.modIce fun i => { i with state := .watch } }
    else if st.scrapeOn ≤ a.s.ice.score ∧ scrapeEntry trigger a.s ∧ !a.s.ice.holdOff then
      (collectingPan a.s).map fun p => enterScrape p a
    else none
  | .scrape => scrapeStep trigger a

/-- R163: the transitions, repeated until none applies; the first argument bounds their number, which R160's order of the
thresholds keeps below it. -/
def autoSteps (trigger : IceTrigger) : Nat → Act → Option IceCause → Act × Option IceCause
  | 0, a, cause => (a, cause)
  | fuel + 1, a, cause =>
    match autoStep trigger a with
    | none => (a, cause)
    | some m => autoSteps trigger fuel m.act (m.cause <|> cause)

/-- R162: the state is INACTIVE. -/
def iceOff (s : State) : Bool :=
  s.vl.mode == .standby || s.ice.setting == .off || s.vl.tables.heater.load != .valid || s.vl.tables.climate.load != .valid

/-- R171: the cause of a change that no permission and no entry names (assumption log 23). -/
def plainCause (s : State) (before : IceState) (trigger : IceTrigger) : IceCause :=
  if s.ice.state = .inactive then if s.vl.mode = .standby then .mode else .setting
  else
    match trigger with
    | .mode => .mode
    | .setting => .setting
    | .step => if before = .inactive then .mode else .score
    | .other => if before = .inactive then .mode else .score

/-- R162: the state to which the evaluation leads, with the cause it names. -/
def iceTransition (trigger : IceTrigger) (a : Act) : Act × Option IceCause :=
  if iceOff a.s then
    if a.s.ice.state = .inactive then (a, none) else ((leaveScrape a).modIce fun i => { i with state := .inactive }, none)
  else if a.s.ice.setting = .forceHeat then
    if a.s.ice.state = .heat then (a, none) else ((leaveScrape a).modIce fun i => { i with state := .heat }, none)
  else autoSteps trigger 8 (promotePhase a) none

/-- R162, R169, R171: Ice Control evaluates its state. An evaluation that passes through any change of the state recomputes
the allocation once, at its end (assumption log 50), and makes one report; one that ends where it began has changed the state
if it names a cause. The report carries the budget and the on-set of that recomputation (assumption log 56). -/
def evaluateIce (trigger : IceTrigger) (a : Act) : Act :=
  let before := a.s.ice.state
  match iceTransition trigger a with
  | (a, cause) =>
    if a.s.ice.state ≠ before ∨ cause.isSome then
      reportIce before (cause.getD (plainCause a.s before trigger)) (allocate a)
    else a

/-! ## Step changes that wait (R137, R162) -/

/-- The note of a change to a step other than IDLE. -/
def Note.stepLeft : Note → Bool
  | .iceEvaluate .step => true
  | _ => false

/-- The note as it stands once Ice Control has evaluated the change of step that it tells of. -/
def Note.stepSeen : Note → Note
  | .iceEvaluate .step => .iceEvaluate .other
  | n => n

/-- R162: the changes to a step other than IDLE that wait lie before the event at hand. A scrape in progress is evaluated for them
first, so that it fails condition 2; from then on they have been seen, and do not fail a scrape that is entered after them
(assumption log 51). -/
def evaluateSteps (a : Act) : Act :=
  let seen : Act := { a with notes := a.notes.map Note.stepSeen }
  if a.notes.any Note.stepLeft ∧ a.s.ice.state = .scrape then evaluateIce .step seen else seen

/-- R162: Ice Control evaluates its state at an event, after the step changes that wait. -/
def iceEvent (trigger : IceTrigger) (a : Act) : Act := evaluateIce trigger (evaluateSteps a)

/-! ## Climate and the ice score (R157, R159) -/

/-- R159: the base points. -/
def basePoints (s : State) (c : Climate) : Nat :=
  ((validRecords s.vl.tables.climate).find? fun r =>
    decide (r.tempLo ≤ c.ambient ∧ c.ambient ≤ r.tempHi ∧ r.humMin ≤ c.humidity)).elim 0 (·.points)

/-- R159: the arc count. -/
def arcsInWindow (s : State) : Nat :=
  match estimate s with
  | none => 0
  | some e =>
    (s.lm.arcs.filter fun arc =>
      arc.position.any fun p => decide (e - (settings s).arcWindow ≤ p ∧ p ≤ e)).length

/-- R159: the score of base points and an arc count. -/
def iceScore (st : Settings) (base arcs : Nat) : Nat := min 100 (base + min st.arcCap (st.arcWeight * arcs))

/-- R159, R163: the score is recomputed while the climate values are present and CURRENT; at or below scrape_off it clears
the hold-off. The second value says whether it was recomputed. -/
def recomputeScore (a : Act) : Act × Bool :=
  match a.s.ice.climate with
  | none => (a, false)
  | some c =>
    if c.current then
      let base := basePoints a.s c
      let arcs := arcsInWindow a.s
      let score := iceScore (settings a.s) base arcs
      let off := (settings a.s).scrapeOff
      (a.modIce fun i =>
        { i with base, arcCount := arcs, score, holdOff := i.holdOff && decide (off < score) }, true)
    else (a, false)

/-- R157: the values of a climate STATUS, each at the nearer end of its range. -/
def climateValues (payload : List Byte) : Climate :=
  { ambient := clampInt (-500) 500 (signed16 (wordAt payload 0)), humidity := min 100 (byteAt payload 2).toNat,
    stripA := clampInt (-500) 500 (signed16 (wordAt payload 3)), stripB := clampInt (-500) 500 (signed16 (wordAt payload 5)),
    current := true }

/-- R157: a STATUS of the climate head. -/
def climateStatus (payload : List Byte) (a : Act) : Act :=
  iceEvent .other (recomputeScore (a.modIce fun i => { i with climate := some (climateValues payload) })).1

/-- R157: the CLIMATE role left PRESENT. -/
def climateLost (a : Act) : Act := a.modIce fun i => { i with climate := i.climate.map fun c => { c with current := false } }

/-- R159: the Arc Ring was appended to. -/
def arcAppended (a : Act) : Act :=
  match recomputeScore a with
  | (a, true) => iceEvent .other a
  | (a, false) => a

/-! ## Heater head (R170) -/

/-- R170: the groups of a heater STATUS that are on without command. -/
def uncommandedGroups (i : Ice) (new : Groups) : Groups := new &&& ~~~ (i.commanded.getD 0)

/-- R170: a STATUS of the heater head. -/
def heaterStatus (payload : List Byte) (a : Act) : Act :=
  let new := statusGroups payload
  let mismatch := uncommandedGroups a.s.ice new
  let fresh := mismatch &&& ~~~ (a.s.ice.actual.getD 0)
  let a := a.modIce fun i => { i with actual := some new }
  if fresh = 0 then a else reportIce a.s.ice.state (.heaterMismatch mismatch) a

/-- R170: the HEATER role left PRESENT. -/
def heaterLost (a : Act) : Act := a.modIce fun i => { i with commanded := none, actual := none }

/-! ## Requests, route actions and RESTART (R161, R164, R173) -/

/-- The ice mode setting that a byte names. -/
def iceSettingOf : Nat → Option IceSetting
  | 0 => some .off
  | 1 => some .auto
  | 2 => some .forceHeat
  | _ => none

/-- R161: ICE_MODE. -/
def takeIceMode (setting : Nat) (a : Act) : Act × Result :=
  match iceSettingOf setting with
  | none => (a, .range)
  | some v =>
    let same := a.s.ice.setting = v
    (iceEvent .setting (a.modIce fun i => { i with setting := v, holdOff := false }), if same then .already else .done)

/-- R164: a SCRAPE_INHIBIT action; a change of the inhibit is evaluated at once, before another action fires. -/
def setInhibit (on : Bool) (a : Act) : Act :=
  if a.s.ice.inhibit = on then a else iceEvent .other (a.modIce fun i => { i with inhibit := on })

/-- R173: the RESTART effects, the mode being STANDBY and the Arc Ring empty already. -/
def restartIce (a : Act) : Act :=
  let a := a.modIce fun i => { i with inhibit := false, holdOff := false, scrapePan := none, phase := none }
  allocate ((recomputeScore a).1.modIce fun i => { i with state := .inactive })

end Sys2Proof.Machine
end

