-- ==== Sys2Proof/Machine/RouteOps.lean ====
section
/-! DEFINITION. The Position and Route Unit (07): position frames, jumps, the Route Action Queue, the Marker Lists and the
firing of actions. -/

namespace Sys2Proof.Machine

/-! ## Collections -/

/-- A Marker List. -/
def Route.marker (r : Route) : Fin 2 → List Action
  | 0 => r.m0
  | 1 => r.m1

/-- A Marker List replaced. -/
def Route.setMarker (r : Route) (m : Fin 2) (l : List Action) : Route :=
  match m with
  | 0 => { r with m0 := l }
  | 1 => { r with m1 := l }

/-- The source that a Marker List is. -/
def markerSource : Fin 2 → Source
  | 0 => .m0
  | 1 => .m1

/-- The Marker List that a marker number names. -/
def markerOf : Nat → Option (Fin 2)
  | 0 => some 0
  | 1 => some 1
  | _ => none

/-- The queue is emptied and its entries counted flushed. -/
def Route.flushQueue (r : Route) : Route :=
  { r with queue := [], triggerTimer := none, flushed := r.flushed + r.queue.length }

/-- A Marker List is emptied and its actions counted flushed. -/
def Route.flushMarker (r : Route) (m : Fin 2) : Route :=
  { r.setMarker m [] with flushed := r.flushed + (r.marker m).length }

/-! ## Firing (R122, R123) -/

/-- The answers that accept an action. -/
def accepts : Result → Bool
  | .accepted => true
  | .noop => true
  | .already => true
  | .done => true
  | _ => false

/-- R122, R207: the hand-off of an action to its owner, with the owner's answer. -/
def handOff (source : Source) (action : Action) (at' : Option Nat) (a : Act) : Act × Result :=
  match action with
  | .changeover target raisePosition => startChangeover target raisePosition (if source = .queue then .route else .marker) a
  | .lowerAll =>
    match lowerBoth .vehicle .orderly a with
    | (a, began) => (a, if began then .accepted else .already)
  | .scrapeInhibit on => (setInhibit on a, .done)
  | .reportMark tag => (placeReport (.reportMark tag source at') a, .done)

/-- R123: a refused action flushes the collection it came from. -/
def flushSource (source : Source) (r : Route) : Route :=
  match source with
  | .queue => r.flushQueue
  | .m0 => r.flushMarker 0
  | .m1 => r.flushMarker 1

/-- How many actions a source holds. -/
def sourceLength (source : Source) (r : Route) : Nat :=
  match source with
  | .queue => r.queue.length
  | .m0 => r.m0.length
  | .m1 => r.m1.length

/-- R122, R123: an action already removed from its source is counted, handed off and reported; the second value says
whether it was accepted. -/
def fire (source : Source) (action : Action) (trigger : Option Trigger) (a : Act) : Act × Bool :=
  let at' := estimate a.s
  let a := a.modPr fun r => { r with fired := r.fired + 1 }
  match handOff source action at' a with
  | (a, answer) =>
    let a := placeReport (.actionFired source action trigger at' answer) a
    if accepts answer then (a, true)
    else
      let removed := sourceLength source a.s.pr
      (placeReport (.queueFlushed (.refused source removed action answer)) (a.modPr (flushSource source)), false)

/-- The head of the queue is removed. -/
def dropHead (a : Act) : Act := a.modPr fun r => { r with queue := r.queue.drop 1, triggerTimer := none }

/-! ## Evaluating the head (R119 to R121) -/

/-- R120: an AT_POSITION head fires. -/
def headFires (s : State) (p : Nat) : Bool := s.pr.position.fresh && (estimate s).any fun e => decide (p ≤ e)

/-- R119 to R122: the head is evaluated, and after each accepted firing the next head; the first argument bounds the series
by the queue's depth. That the whole series fires before another block reacts to one of its firings (R149, R162) is a DESIGN
CHOICE, for R122 says no more than that the new head is evaluated at once: a CHANGEOVER after a LOWER_ALL in RAISING_NEW is BUSY
(assumption log 69). -/
def evaluateHead : Nat → Act → Act
  | 0, a => a
  | fuel + 1, a =>
    match a.s.pr.queue with
    | [] => a.modPr fun r => { r with triggerTimer := none }
    | e :: _ =>
      match e.trigger with
      | .onMarker _ => a.modPr fun r => { r with triggerTimer := none }
      | .atPosition p =>
        if headFires a.s p then
          match fire .queue e.action (some e.trigger) (dropHead a) with
          | (a, true) => evaluateHead fuel a
          | (a, false) => a
        else
          let timer := reachTime a.s.pr.position p
          a.modPr fun r => { r with triggerTimer := timer }

/-- R119: an evaluation, made in RUN alone. -/
def evaluateQueue (a : Act) : Act := if a.s.vl.mode = .run then evaluateHead (a.s.pr.queue.length + 1) a else a

/-! ## Position frames (R114, R117) -/

/-- R117: a position lies outside the band about an estimate. -/
def outsideBand (st : Settings) (est p : Nat) : Bool :=
  decide (p < est - st.jumpBack ∨ min max32 (est + st.jumpForward) < p)

/-- R114 step 2: the frame is adopted. -/
def adopt (st : Settings) (now p speed quality : Nat) (r : PositionRecord) : PositionRecord :=
  let limit := if quality = 0 then st.staleLimit else st.staleLimit / 2
  { r with
    last := some p, speed := min 12000 speed, good := quality == 0, frameTime := some now, frameStale := some limit,
    fresh := true, staleDeadline := some (now + limit) }

/-- R117: the effects of a jump. -/
def takeJump (est p : Nat) (a : Act) : Act :=
  let removed := a.s.pr.queue.length
  let a := a.modPr fun r =>
    { r.flushQueue with position := { r.position with jumps := bump16 r.position.jumps } }
  raiseJump (placeReport (.queueFlushed (.jump removed est p)) a)

/-- R114: a POSITION frame. R51: with both pantographs UP, PAN_A presents its HOLD before PAN_B: DESIGN CHOICE, for the rule gives
no order (assumption log 68). -/
def takePosition (p speed quality : Nat) (a : Act) : Act :=
  let st := settings a.s
  let before := estimate a.s
  let a := a.modPr fun r => { r with position := adopt st a.s.now p speed quality r.position }
  let a :=
    match before with
    | some est => if outsideBand st est p then takeJump est p a else a
    | none => a
  (evaluateQueue a).notify [.panHold .a, .panHold .b, .coPosition, .iceEvaluate .other, .gateReview]

/-- R116: the record becomes STALE. -/
def becomeStale (a : Act) : Act :=
  (a.modPr fun r =>
    { r with position := { r.position with fresh := false, staleDeadline := none }, triggerTimer := none }).notify
    [.coStale, .gateReview]

/-! ## Queue and list requests (R118, R126, R127) -/

/-- The reply to a request of the unit: the result with the number or marker that it names. -/
structure RouteAnswer where
  result : Result
  number : Option Nat := none
deriving DecidableEq, Repr

/-- R118, R126: every field of an action lies in its range. -/
def actionInRange : Action → Bool
  | .changeover target raisePosition => decide (1 ≤ target ∧ target ≤ 15) && raisePosition.all fun p => decide (p ≤ max32)
  | .lowerAll => true
  | .scrapeInhibit _ => true
  | .reportMark tag => decide (tag ≤ 255)

/-- R118: every field of an entry lies in its range. -/
def entryInRange (e : QueueEntry) : Bool :=
  actionInRange e.action &&
    match e.trigger with
    | .atPosition p => decide (p ≤ max32)
    | .onMarker m => decide (m ≤ 1)

/-- R118 check 3: the marker of the first entry, in the request's order, whose Marker List holds an action (assumption log 54). -/
def markerInUse (r : Route) (entries : List QueueEntry) : Option Nat :=
  (entries.filterMap fun e =>
    match e.trigger with
    | .atPosition _ => none
    | .onMarker m => if (markerOf m).any fun k => !(r.marker k).isEmpty then some m else none).head?

/-- R118: QUEUE_APPEND. -/
def appendQueue (entries : List QueueEntry) (a : Act) : Act × RouteAnswer :=
  let r := a.s.pr
  if entries.isEmpty ∨ 4 < entries.length ∨ !entries.all entryInRange then (a, { result := .range })
  else if queueCapacity < r.queue.length + entries.length ∨ max32 < r.appended + entries.length then (a, { result := .full })
  else
    match markerInUse r entries with
    | some m => (a, { result := .markerInUse, number := some m })
    | none =>
      let depth := r.queue.length + entries.length
      let wasEmpty := r.queue.isEmpty
      let a := a.modPr fun r => { r with queue := r.queue ++ entries, appended := r.appended + entries.length }
      (if wasEmpty then evaluateQueue a else a, { result := .done, number := some depth })

/-- The queue holds an entry triggered on a marker. -/
def queueUsesMarker (r : Route) (m : Fin 2) : Bool := r.queue.any fun e => e.trigger == .onMarker m.val

/-- R126: MARKER_LOAD. -/
def loadMarker (list : Nat) (actions : List Action) (a : Act) : Act × RouteAnswer :=
  let r := a.s.pr
  match markerOf list with
  | none => (a, { result := .range })
  | some m =>
    if actions.isEmpty ∨ 4 < actions.length ∨ !actions.all actionInRange then (a, { result := .range })
    else if markerCapacity < (r.marker m).length + actions.length ∨ max32 < r.appended + actions.length then
      (a, { result := .full })
    else if queueUsesMarker r m then (a, { result := .markerInUse })
    else
      (a.modPr fun r => { r.setMarker m (r.marker m ++ actions) with appended := r.appended + actions.length },
       { result := .done, number := some ((r.marker m).length + actions.length) })

/-- R127: QUEUE_FLUSH. -/
def flushQueueRequest (a : Act) : Act × RouteAnswer :=
  let n := a.s.pr.queue.length
  (a.modPr Route.flushQueue, if n = 0 then { result := .already } else { result := .done, number := some n })

/-- R127: MARKER_FLUSH. -/
def flushMarkerRequest (list : Nat) (a : Act) : Act × RouteAnswer :=
  match markerOf list with
  | none => (a, { result := .range })
  | some m =>
    let n := (a.s.pr.marker m).length
    (a.modPr fun r => r.flushMarker m, if n = 0 then { result := .already } else { result := .done, number := some n })

/-! ## Markers (R125) -/

/-- R125: a marker edge is unused. -/
def markerUnused (m : Fin 2) (a : Act) : Act :=
  placeReport (.markerUnused m.val a.s.vl.mode (estimate a.s) a.s.pr.queue.length (a.s.pr.queue.head?.map (·.trigger))) a

/-- R125: a marker edge that no Marker List action takes falls to the head of the queue; the series that follows an accepted
firing goes before what the firing tells other blocks (DESIGN CHOICE, assumption log 69). -/
def markerToQueue (m : Fin 2) (a : Act) : Act :=
  match a.s.pr.queue with
  | [] => markerUnused m a
  | e :: _ =>
    if e.trigger = .onMarker m.val then
      match fire .queue e.action (some e.trigger) (dropHead a) with
      | (a, true) => evaluateQueue a
      | (a, false) => a
    else markerUnused m a

/-- R125: a marker edge; the ACTION_FIRED of a Marker List action names no trigger (assumption log 44). -/
def markerEdge (m : Fin 2) (a : Act) : Act :=
  if a.s.vl.mode = .run then
    match a.s.pr.marker m with
    | action :: rest => (fire (markerSource m) action none (a.modPr fun r => r.setMarker m rest)).1
    | [] => markerToQueue m a
  else markerUnused m a

/-! ## Modes and RESTART (R128, R132) -/

/-- R128: the mode became STANDBY. -/
def routeStandby (a : Act) : Act := a.modPr fun r => { r with triggerTimer := none }

/-- R132: the RESTART effects. -/
def restartRoute (a : Act) : Act :=
  a.modPr fun r => { r with triggerTimer := none, queue := [], m0 := [], m1 := [], appended := 0, fired := 0, flushed := 0 }

end Sys2Proof.Machine
end

