-- ==== Sys2Proof/Machine/DiscreteOps.lean ====
section
/-! DEFINITION. The Discrete Line Unit (05): filtering, function levels, edges and event latches. -/

namespace Sys2Proof.Machine

/-- The Input Record of a line changes. -/
def Act.modInput (line : Fin 12) (f : InputRecord → InputRecord) (a : Act) : Act := a.modInputs fun v => updAt v line f

/-! ## Filtering (R81) -/

/-- R81: a change of the raw level, with the filter duration in force. -/
def rawChange (now duration : Nat) (level : Level) (r : InputRecord) : InputRecord :=
  let r := { r with raw := level }
  match r.filtered with
  | .unsettled => { r with deadline := some (now + duration), bounce := bump16 r.bounce }
  | _ =>
    if r.filtered = settledTo level then { r with deadline := none, bounce := bump16 r.bounce }
    else { r with deadline := some (now + duration) }

/-- R81: a raw level reaches a line; a level that is there already is no change. -/
def takeRaw (line : Fin 12) (level : Level) (a : Act) : Act :=
  if a.s.inputs[line].raw = level then a
  else
    let duration := filterDuration a.s line
    a.modInput line (rawChange a.s.now duration level)

/-! ## Function levels (R84) -/

/-- R84: a change of a function's level is handed to the block that reads it. -/
def functionChange (f : InputFunction) (active : Bool) (a : Act) : Act :=
  match f with
  | .panAUp => if active then upContactOn .a a else upContactOff .a a
  | .panBUp => if active then upContactOn .b a else upContactOff .b a
  | .panADown => if active then downContactOn .a a else a
  | .panBDown => if active then downContactOn .b a else a
  | .stripA => if active then stripOn .a a else a
  | .stripB => if active then stripOn .b a else a
  | .roofAccess => (if active then roofAccessOn a else a).notify [.gateReview]
  | .marker0 => a
  | .marker1 => a
  | .general => a

/-! ## Edges (R86, R88) -/

/-- R86: the edge that a change of activity is; a line that was inactive and stays so has none. -/
def edgeOf (before after : Bool) : Option Edge :=
  match before, after with
  | false, true => some .toActive
  | true, false => some .toInactive
  | true, true => none
  | false, false => none

/-- R86: the edges an event sense selects. -/
def senseSelects : Sense → Edge → Bool
  | .none, _ => false
  | .both, _ => true
  | .toActive, .toActive => true
  | .toActive, .toInactive => false
  | .toInactive, .toInactive => true
  | .toInactive, .toActive => false

/-- The event sense of a line; NONE for an unassigned line. -/
def lineSense (s : State) (line : Fin 12) : Sense := ((inputMapRecord s line).bind (·.sense.value)).getD .none

/-- The function of a line, where a VALID INPUT_MAP gives it one. -/
def lineFunction (s : State) (line : Fin 12) : Option InputFunction := (inputMapRecord s line).bind (·.function.value)

/-- R88: an edge reaches the line's event latch. -/
def latchEdge (line : Fin 12) (e : Edge) (a : Act) : Act :=
  if a.s.inputs[line].latch = .armed then
    let at' := estimate a.s
    let a := a.modInput line fun r => { r with latch := .latched e at' }
    placeReport (.inputEvent line (lineFunction a.s line) e at') a
  else a

/-- R86: an edge reaches the event latch, and the Position and Route Unit for a marker line. -/
def takeEdge (line : Fin 12) (e : Edge) (a : Act) : Act :=
  let a := latchEdge line e a
  match lineFunction a.s line with
  | some .marker0 => markerEdge 0 a
  | some .marker1 => markerEdge 1 a
  | _ => a

/-! ## Filter expiry (R82) -/

/-- R82: the filter deadline expired: the filtered level takes the raw level, and a change is handed on. -/
def filterExpired (line : Fin 12) (a : Act) : Act :=
  let before := lineActive a.s line
  let a := a.modInput line fun r => { r with filtered := settledTo r.raw, deadline := none }
  let after := lineActive a.s line
  let a :=
    match lineFunction a.s line with
    | some f => if before = after then a else functionChange f after a
    | none => a
  match edgeOf before after with
  | some e => if senseSelects (lineSense a.s line) e then takeEdge line e a else a
  | none => a

/-! ## INPUT_MAP load-state changes (R85, R88) -/

/-- The level of each function in a state. -/
def functionLevels (s : State) : List (InputFunction × Bool) := functionsInOrder.map fun f => (f, functionActive s f)

/-- R85: the functions whose level differs from an earlier state's, each with its new level. -/
def changedLevels (before : State) (after : State) : List (InputFunction × Bool) :=
  (functionLevels after).filter fun (f, active) => active != functionActive before f

/-- R85: the changes are handed on, in an order that the choices pick (assumption log 3). -/
def relevel (before : State) (a : Act) : Act :=
  let changes := changedLevels before a.s
  let order := pickOrder (fun x y => x == y) changes.length a.s.choices changes
  order.1.foldl (fun a c => functionChange c.1 c.2 a) (a.setChoices order.2)

/-- R88: every latch becomes DISARMED and its latched edge is discarded. -/
def disarmLatches (a : Act) : Act := a.modInputs fun v => v.map fun r => { r with latch := .disarmed }

/-! ## Requests (R89, R90) -/

/-- The line that a request names. -/
def lineOf (n : Nat) : Option (Fin 12) := if h : n < 12 then some ⟨n, h⟩ else none

/-- R89: INPUT_ARM. -/
def armLine (n : Nat) (a : Act) : Act × Result :=
  match lineOf n with
  | none => (a, .range)
  | some line =>
    if a.s.vl.tables.inputs.load ≠ .valid then (a, .tableInvalid)
    else if lineSense a.s line = .none then (a, .range)
    else
      match a.s.inputs[line].latch with
      | .disarmed => (a.modInput line fun r => { r with latch := .armed }, .done)
      | .armed => (a, .already)
      | .latched _ _ => (a, .notCleared)

/-- R90: INPUT_CLEAR, with the latched edge that the reply carries. -/
def clearLine (n : Nat) (a : Act) : Act × Result × Option (Edge × Option Nat) :=
  match lineOf n with
  | none => (a, .range, none)
  | some line =>
    let cleared := a.modInput line fun r => { r with latch := .disarmed }
    match a.s.inputs[line].latch with
    | .disarmed => (a, .already, none)
    | .armed => (cleared, .done, none)
    | .latched e p => (cleared, .done, some (e, p))

end Sys2Proof.Machine
end

