-- ==== Sys2Proof/Machine/HoldOps.lean ====
section
/-! DEFINITION. Vehicle commands and the hold slots of the Command Gate (06). -/

namespace Sys2Proof.Machine

/-! ## Sending an admitted vehicle command -/

/-- An admitted vehicle command is handed to the Head Port Controller; a MOVE that is sent becomes a move in flight. -/
def sendVehicle (c : Command) (a : Act) : Act :=
  match deliver c a with
  | (a, false) => a
  | (a, true) =>
    match c.content with
    | .move d t => beginMove d t .vehicle a
    | .ramp _ _ => a
    | .hold _ => a
    | .vent => a
    | .setGroups _ => a
    | .aux => a

/-! ## Judging a vehicle command (R95, R96, R105) -/

/-- R105: a failure at step 4 or 5 of R96 that lets the command be held, with the hold time. -/
def holdTime (s : State) (c : Command) (f : Failed) : Option Nat :=
  match c.content.kind.bind (gateRecord s c.role) with
  | none => none
  | some r =>
    if f ≠ .origin ∧ 0 < r.holdTime ∧ inMask r .vehicle ∧ rolePresent s c.role ∧ (holdOf s c.role).isNone
    then some r.holdTime else none

/-- R105: the command takes the slot. -/
def takeHold (c : Command) (seq : Nat) (f : Failed) (time : Nat) (a : Act) : Act :=
  reportGate c .held (some f) none false
    (a.setHold c.role (some { command := c, seq, deadline := a.s.now + time, failed := f }))

/-- R95 step 5: steps 3 to 5 of R96. -/
def judgeVehicle (c : Command) (seq : Nat) (a : Act) : Act :=
  match judge a.s c with
  | none => sendVehicle c a
  | some f =>
    match holdTime a.s c f with
    | some time => takeHold c seq f time a
    | none => refuse c f a

/-- R95 step 4: the Switchgear Tracker's target and move-state checks of a MOVE. -/
def checkVehicleMove (c : Command) (seq : Nat) (d : Dev) (target : Pos) (a : Act) : Act :=
  if (devTargets d).contains target then
    match moveCheck a.s d target with
    | .free => judgeVehicle c seq a
    | .join => a
    | .busy => refuse c .deviceMoving a
  else refuse c .range a

/-- R95: a vehicle command, taken through its checks in order. A command that the role's head does not take is refused with KIND
and reported with the kind of the command alone (assumption log 52). -/
def vehicleCommand (seq : Nat) (role : Role) (payload : List Byte) (a : Act) : Act :=
  match contentOf role payload with
  | none => placeReport (.gate role none .vehicle (some seq) .refused (some .kind) none false) a
  | some content =>
    let c : Command := { role, content, payload, origin := .vehicle, seq := some seq }
    if !content.taken role then refuse c .kind a
    else if (holdOf a.s role).isSome && !content.alwaysAdmitted then refuse c .busy a
    else if masked a.s role then refuse c .masked a
    else
      match content with
      | .move d t => checkVehicleMove c seq d t a
      | .ramp _ _ => judgeVehicle c seq a
      | .hold _ => judgeVehicle c seq a
      | .vent => judgeVehicle c seq a
      | .setGroups _ => judgeVehicle c seq a
      | .aux => judgeVehicle c seq a

/-! ## Judging a held command again (R107) -/

/-- R107: every clause and condition holds; the slot is empty, and a MOVE passes the move-state rule before it is sent. -/
def admitHeld (c : Command) (a : Act) : Act :=
  match c.content with
  | .move d t =>
    match moveCheck a.s d t with
    | .free => sendVehicle c (reportGate c .admitted none none false a)
    | .join => reportGate c .admitted none none true a
    | .busy => refuse c .deviceMoving a
  | .ramp _ _ => sendVehicle c (reportGate c .admitted none none false a)
  | .hold _ => sendVehicle c (reportGate c .admitted none none false a)
  | .vent => sendVehicle c (reportGate c .admitted none none false a)
  | .setGroups _ => sendVehicle c (reportGate c .admitted none none false a)
  | .aux => sendVehicle c (reportGate c .admitted none none false a)

/-- R107: one slot; a command of a role that is not PRESENT is not admitted (R109, assumption log 34). -/
def reviewSlot (a : Act) (role : Role) : Act :=
  match holdOf a.s role with
  | none => a
  | some h =>
    if rolePresent a.s role then
      match judge a.s h.command with
      | some f => a.setHold role (some { h with failed := f })
      | none => admitHeld h.command (a.setHold role none)
    else a

/-- R107: every slot, in role order: DESIGN CHOICE where the review admits commands of several roles, for the rule gives no order
of their COMMAND frames (assumption log 68). -/
def reviewHolds (a : Act) : Act := slotRoles.foldl reviewSlot a

/-! ## Other ends of a hold -/

/-- The held command of a role is refused, its slot emptied. -/
def dropHold (role : Role) (f : Failed) (lastFailing : Held → Option Failed) (a : Act) : Act :=
  match holdOf a.s role with
  | none => a
  | some h => reportGate h.command .refused (some f) (lastFailing h) false (a.setHold role none)

/-- R108: the hold deadline expired. -/
def expireHold (role : Role) (a : Act) : Act := dropHold role .expired (fun h => some h.failed) a

/-- R109: the role left PRESENT. -/
def holdHeadLost (role : Role) (a : Act) : Act := dropHold role .headLost (fun _ => none) a

/-- R104: a load of GATE or HEAD_DIRECTORY begins. -/
def refuseHeldForTable (a : Act) : Act := slotRoles.foldl (fun a role => dropHold role .table (fun _ => none) a) a

end Sys2Proof.Machine
end

