-- ==== Sys2Proof/Machine/LineOps.lean ====
section
/-! DEFINITION. The Line Monitor (01, 02): cells, the window accumulator, classification, persistence, the fast dead path,
contact losses and protective demands. -/

namespace Sys2Proof.Machine

/-! ## Change of the confirmed state (R31, R36, R37, R75) -/

/-- R36: the condition a new confirmed state meets, if it meets one. -/
def tripCause (s : State) (new : LineState) : Option TripCause :=
  match new with
  | .over => some .over
  | .system c =>
    let wanted := (systemRecord s c).bind fun r =>
      match r.selector with
      | .named sel => some (selectorPos sel)
      | .unnamed _ => none
    if mbEngaged s && wanted != some s.sg.ss.reported then some .wrongSelector else none
  | .dead => if mbEngaged s then some .dead else none
  | .noSense => if mbEngaged s then some .noSense else none
  | .unknown => none

/-- R37, R75: a protective demand: its report, MB_TRIP for OVER, and the MB open request. -/
def raiseDemand (cause : TripCause) (a : Act) : Act :=
  let mb := a.s.sg.mb
  let a := placeReport (.protectiveTrip cause a.s.lm.confirmed mb.reported (!mb.idle) a.s.lm.windowSequence) a
  let a := if cause = .over then assertTrip a else a
  requestMbOpen .protection a

/-- R31: the confirmed state takes a value; nothing happens where it holds that value already. The protective check of step 4
is made here, before any reader, the Command Gate among them, takes the change: R107's worked example lets the two come in
either order (assumption log 53). -/
def setConfirmed (new : LineState) (cause : LineCause) (a : Act) : Act :=
  let previous := a.s.lm.confirmed
  if previous = new then a
  else
    let since := estimate a.s
    let a := a.modLm fun l => { l with confirmed := new, confirmedSince := since }
    let a := placeReport (.line new previous cause a.s.lm.windowSequence since) a
    let a := a.tellLine
    match tripCause a.s new with
    | some c => raiseDemand c a
    | none => a

/-! ## Window accumulator (R7 to R10) -/

/-- R9: one sample at index i, against the band ±h. -/
def detectCrossing (h : Int) (v : Int) (i : Nat) (c : Accumulator) : Accumulator :=
  let record := { c with count := c.count + 1, last := some i, first := some (c.first.getD i) }
  if h ≤ v ∧ v ≤ -h then c
  else if h ≤ v ∧ c.crossing ≠ .above then
    { (if c.crossing = .below then record else c) with crossing := .above }
  else if v ≤ -h ∧ c.crossing ≠ .below then
    { (if c.crossing = .above then record else c) with crossing := .below }
  else c

/-- R8: one conditioned sample. -/
def addSample (h : Int) (c : Accumulator) (v : Int) : Accumulator :=
  let c := { c with s1 := c.s1 + v, s2 := c.s2 + v.natAbs * v.natAbs, sat := c.sat || v.natAbs == 32767 }
  let c := detectCrossing h v c.index c
  { c with index := c.index + 1 }

/-- R7, R8, R10: a cell joins the window; an empty accumulator already holds the start values. -/
def addCell (h : Int) (samples : List Int) (current : Nat) (c : Accumulator) : Accumulator :=
  let c := samples.foldl (addSample h) c
  { c with cells := c.cells + 1, currentSum := c.currentSum + current }

/-! ## Window results (R13 to R16) -/

/-- The floor of a square root, one bit of the result at a time from bit k - 1 down, r being what is found so far. -/
def isqrtBits (n : Nat) : Nat → Nat → Nat
  | 0, r => r
  | k + 1, r => if (r + 2 ^ k) * (r + 2 ^ k) ≤ n then isqrtBits n k (r + 2 ^ k) else isqrtBits n k r

/-- The largest whole number whose square does not exceed n. -/
def isqrt (n : Nat) : Nat := isqrtBits n (n.log2 / 2 + 1) 0

/-- R14: the AC power term. -/
def acPower (q : Nat) (m : Int) : Nat := q - m.natAbs * m.natAbs

/-- R15: the frequency estimate in cHz. -/
def frequency (c : Accumulator) : Nat :=
  if 3 ≤ c.count then (c.count - 1) * 200000 / (c.last.getD 0 - c.first.getD 0) else 0

/-- R13 to R16: the result of a window of a length in cells. -/
def windowResult (length : Nat) (c : Accumulator) : WindowResult :=
  let n := 16 * length
  let m := c.s1.tdiv n
  { m, vac := isqrt (acPower (c.s2 / n) m), f := frequency c, c := c.count, iw := c.currentSum / length, sat := c.sat }

/-! ## Classification (R23, R24) -/

/-- R24: the figures lie within a record's bands. -/
def matchesRecord (w : WindowResult) (r : SystemRecord) : Bool :=
  decide (r.vacLo ≤ w.vac ∧ w.vac ≤ r.vacHi ∧ r.dcLo ≤ w.m.natAbs ∧ w.m.natAbs ≤ r.dcHi ∧ r.fLo ≤ w.f ∧ w.f ≤ r.fHi)

/-- R23. -/
def classify (s : State) (w : WindowResult) : WindowClass :=
  let dead := (settings s).deadThreshold
  if w.sat then .over
  else if w.vac < dead ∧ w.m.natAbs < dead then .dead
  else
    match (validRecords s.vl.tables.system).find? (matchesRecord w) with
    | some r => .system r.code
    | none => .unknown

/-! ## Persistence (R29, R30) -/

/-- R30: P(w). A class that is a code was found in a record, so its record is there. -/
def persistenceOf (s : State) (w : WindowClass) : Nat :=
  match w with
  | .system c => (systemRecord s c).elim 15 (·.persistence)
  | .unknown => (settings s).unknownPersistence
  | .dead => 1
  | .over => 1

/-- R29: the candidate after a window of class w. -/
def nextCandidate (confirmed : LineState) (candidate : Option Candidate) (w : WindowClass) : Option Candidate :=
  if confirmed = classState w then none
  else
    match candidate with
    | some c => if c.cls = w then some { c with count := c.count + 1 } else some { cls := w, count := 1 }
    | none => some { cls := w, count := 1 }

/-- R29: one persistence step. -/
def persist (w : WindowClass) (a : Act) : Act :=
  match nextCandidate a.s.lm.confirmed a.s.lm.candidate w with
  | none => a.modLm fun l => { l with candidate := none }
  | some c =>
    if persistenceOf a.s w ≤ c.count
    then setConfirmed (classState w) .window (a.modLm fun l => { l with candidate := none })
    else a.modLm fun l => { l with candidate := some c }

/-! ## Digest (R17, R18) -/

/-- R17, R18: an entry joins the tail; at a full FIFO the oldest leaves and OVERFLOW is set. -/
def appendDigest (e : DigestEntry) (l : LineMonitor) : LineMonitor :=
  if l.digests.length < digestCapacity then { l with digests := l.digests ++ [e] }
  else { l with digests := l.digests.drop 1 ++ [e], overflow := true }

/-! ## Closing a window (R12) -/

/-- R12: the window is closed, in the order of its steps. -/
def closeWindow (a : Act) : Act :=
  let w := windowResult (settings a.s).windowLength a.s.lm.acc
  let a := a.modLm fun l => { l with windowSequence := (l.windowSequence + 1) % 65536, last := some w }
  let sequence := a.s.lm.windowSequence
  let cls := classify a.s w
  let a := persist cls a
  let a := a.modLm (appendDigest { sequence, m := w.m, vac := w.vac, f := w.f, cls, sat := w.sat, iw := w.iw })
  (a.modLm fun l => { l with acc := {} }).notify [.iceAllocate]

/-! ## Fast dead path (R33 to R35) -/

/-- R33: arc eligibility at a run's first dead cell. -/
def arcEligible (s : State) : Bool :=
  pansInOrder.any fun p => (panOf s p).collecting && (devOf s (isoOf p)).reported == .closed

/-- R35: a contact-loss entry joins the ring. -/
def appendArc (e : ArcEntry) (a : Act) : Act :=
  let a := a.modLm fun l =>
    { l with arcs := (if l.arcs.length < arcCapacity then l.arcs else l.arcs.drop 1) ++ [e] }
  (placeReport (.contactLoss e a.s.lm.arcs.length) a).notify [.iceArc]

/-- R33: a dead cell. -/
def deadCell (a : Act) : Act :=
  let confirm := (settings a.s).deadConfirm
  let run := a.s.lm.deadRun
  if run = 0 then
    let start : RunStart := { eligible := arcEligible a.s, position := estimate a.s, state := a.s.lm.confirmed }
    a.modLm fun l => { l with deadRun := 1, runStart := some start }
  else if run < confirm then
    let a := a.modLm fun l => { l with deadRun := run + 1 }
    if run + 1 = confirm then setConfirmed .dead .fastDead (a.modLm fun l => { l with candidate := none }) else a
  else a

/-- R34: a live cell. -/
def liveCell (a : Act) : Act :=
  let run := a.s.lm.deadRun
  let start := a.s.lm.runStart
  let confirm := (settings a.s).deadConfirm
  let a := a.modLm fun l => { l with deadRun := 0, runStart := none }
  match start with
  | none => a
  | some r =>
    if 0 < run ∧ run < confirm ∧ r.eligible then appendArc { position := r.position, length := run, state := r.state } a
    else a

/-- R33: the first stage of a usable cell. -/
def fastDeadStage (peak : Nat) (a : Act) : Act :=
  if peak < (settings a.s).deadThreshold then deadCell a else liveCell a

/-! ## Cells (R2 to R6) -/

/-- R3, R4: what a gap does to the Line Monitor (assumption log 37). -/
def lineGap (l : LineMonitor) : LineMonitor :=
  { l with acc := {}, gapCount := bump16 l.gapCount, deadRun := 0, runStart := none }

/-- R2: the cell is out of order. -/
def outOfOrder (expected : Option Nat) (sequence : Nat) : Bool := expected.any fun e => e != sequence

/-- R6: the second and third stages of a usable cell, whose samples are conditioned. -/
def joinWindow (samples : List Int) (current : Nat) (a : Act) : Act :=
  let h := (settings a.s).hysteresis
  let a := a.modLm fun l => { l with acc := addCell h samples (conditionCurrent current) l.acc }
  if (settings a.s).windowLength ≤ a.s.lm.acc.cells then closeWindow a else a

/-- R6: a usable cell. Its second and third stages wait, in the same act, until the blocks that the first has told have acted:
a confirmed state DEAD that the same cell's window replaces is read while it stands (R31, assumption log 51). -/
def useCell (samples : List Int) (current : Nat) (a : Act) : Act :=
  let samples := samples.map conditionSample
  let a := fastDeadStage (peakOf samples) a
  if a.notes.isEmpty then joinWindow samples current a else a.notify [.lineJoin samples current]

/-- R2 to R6: a cell handed to the Line Monitor. -/
def takeCell (sequence : Nat) (dividerFault : Bool) (samples : List Int) (current : Nat) (a : Act) : Act :=
  let gap := dividerFault || outOfOrder a.s.lm.expected sequence
  let a := if gap then a.modLm lineGap else a
  let a := a.modLm fun l => { l with expected := some ((sequence + 1) % 256) }
  if dividerFault then a else useCell samples current a

/-! ## Other events -/

/-- R5, R32: the LINE role left PRESENT. -/
def lineLost (a : Act) : Act :=
  setConfirmed .noSense .lineLost
    (a.modLm fun l => { l with acc := {}, expected := none, deadRun := 0, runStart := none, candidate := none })

/-- R28: a SYSTEM table left VALID. -/
def systemTableGone (a : Act) : Act :=
  let a := a.modLm fun l => { l with candidate := none }
  if (confirmedCode a.s).isSome then setConfirmed .unknown .table a else a

/-- R28: a SYSTEM load completed VALID. -/
def systemTableValid (a : Act) : Act := a.modLm fun l => { l with candidate := none }

/-- R11, R34: the settings in force were `before` and are now those of the state. -/
def lineSettingsChanged (before : Settings) (a : Act) : Act :=
  let after := settings a.s
  let a :=
    if before.windowLength ≠ after.windowLength ∨ before.hysteresis ≠ after.hysteresis
    then a.modLm fun l => { l with acc := {}, expected := none } else a
  if before.deadThreshold ≠ after.deadThreshold ∨ before.deadConfirm ≠ after.deadConfirm
  then a.modLm fun l => { l with deadRun := 0, runStart := none } else a

/-- R22, R40: the RESTART effects. -/
def restartLine (a : Act) : Act :=
  let since := estimate a.s
  (a.modLm fun l =>
    { l with
      acc := {}, expected := none, digests := [], overflow := false, confirmed := .noSense, candidate := none, deadRun := 0,
      runStart := none, arcs := [], confirmedSince := since }).tellLine

end Sys2Proof.Machine
end

