-- ==== Sys2Proof/Machine/HeadOps.lean ====
section
/-! DEFINITION. The Head Port Controller (10): port link states, announcements, role presence, STATUS and CELL frames, and
telemetry forwarding. -/

namespace Sys2Proof.Machine

/-- The Port Record of a port changes. -/
def Act.modPort (port : Fin 8) (f : PortRecord → PortRecord) (a : Act) : Act := a.modPorts fun v => updAt v port f

/-! ## Presence (R179 to R181) -/

/-- A HEAD_STATE report of a role after an event other than UNDELIVERED (R182). -/
def reportHead (role : Role) (before : Presence) (cause : HeadCause) (expected : Option Nat) (a : Act) : Act :=
  placeReport (headStateReport a.s role before cause expected none) a

/-- The blocks that act on a role leaving PRESENT (R181, R109). -/
def leavingNotes : Role → List Note
  | .line => [.lineLost, .coRole .line false, .gateRoleLost .line]
  | .switchgear => [.switchgearLost, .coRole .switchgear false, .gateRoleLost .switchgear]
  | .panA => [.panHeadLost .a, .gateRoleLost .panA]
  | .panB => [.panHeadLost .b, .gateRoleLost .panB]
  | .heater => [.heaterLost, .gateRoleLost .heater]
  | .climate => [.climateLost, .gateRoleLost .climate]
  | .aux1 => [.gateRoleLost .aux1]
  | .aux2 => [.gateRoleLost .aux2]

/-- R181: a role leaves PRESENT. -/
def leavePresent (role : Role) (presence : Presence) (cause : HeadCause) (a : Act) : Act :=
  let a := a.modRole role fun r => { r with presence, silenceDeadline := none, lastForwarded := none }
  (reportHead role .present cause none a).notify (leavingNotes role)

/-- R180: a PRESENT role becomes LOST; a role that is not PRESENT stays as it is. -/
def loseRole (role : Role) (cause : HeadCause) (a : Act) : Act :=
  if rolePresent a.s role then leavePresent role .lost cause a else a

/-- The blocks that act on a role becoming PRESENT (R151, R181). -/
def returnNotes : Role → List Note
  | .line => [.coRole .line true]
  | .switchgear => [.coRole .switchgear true]
  | .heater => [.iceAllocate]
  | .panA => []
  | .panB => []
  | .climate => []
  | .aux1 => []
  | .aux2 => []

/-- R179: a role becomes PRESENT at a STATUS; a role that is PRESENT stays so. -/
def becomePresent (role : Role) (silence : Nat) (a : Act) : Act :=
  let before := (roleOf a.s role).presence
  if before = .present then a
  else
    let a := a.modRole role fun r => { r with presence := .present, silenceDeadline := some (a.s.now + silence) }
    (reportHead role before .present none a).notify (returnNotes role)

/-- R180: the silence deadline of a PRESENT role is set afresh. -/
def refreshSilence (d : Option DirectoryRecord) (a : Act) : Act :=
  match d with
  | none => a
  | some r =>
    match r.role.value with
    | none => a
    | some role =>
      if rolePresent a.s role then a.modRole role fun x => { x with silenceDeadline := some (a.s.now + r.silence) } else a

/-! ## Port link states (R174, R175) -/

/-- R174: the link leaves lock or loses light, or light appears. -/
def PortRecord.unlocked (r : PortRecord) (link : PortLink) : PortRecord :=
  { r with link, kind := none, serial := none, badFrames := 0, badRun := 0 }

/-- R174, R180: the port enters DOWN or ACQUIRING, and its role, where PRESENT, becomes LOST. -/
def portLeaves (port : Fin 8) (link : PortLink) (a : Act) : Act :=
  let a := a.modPort port fun r => r.unlocked link
  match roleOfPort a.s port with
  | some role => loseRole role .link a
  | none => a

/-- R174: light appears. -/
def portLight (port : Fin 8) (a : Act) : Act :=
  if a.s.ports[port].link = .down then a.modPort port fun r => r.unlocked .acquiring else a

/-- R174: the receiver achieves lock. -/
def portLock (port : Fin 8) (a : Act) : Act :=
  if a.s.ports[port].link = .acquiring then a.modPort port fun r => { r with link := .locked, kind := none, serial := none }
  else a

/-- R174: the receiver loses lock while light remains. -/
def portLockLost (port : Fin 8) (a : Act) : Act :=
  match a.s.ports[port].link with
  | .locked => portLeaves port .acquiring a
  | .barred => portLeaves port .acquiring a
  | .down => a
  | .acquiring => a

/-- R174: light disappears. -/
def portDark (port : Fin 8) (a : Act) : Act :=
  if a.s.ports[port].link = .down then a else portLeaves port .down a

/-- R175: a bad frame; nothing is checked on a port that is not LOCKED. -/
def portBadFrame (port : Fin 8) (a : Act) : Act :=
  if a.s.ports[port].link = .locked then
    if 8 ≤ a.s.ports[port].badRun + 1 then portLeaves port .acquiring a
    else a.modPort port fun r => { r with badFrames := bump16 r.badFrames, badRun := r.badRun + 1 }
  else a

/-- R175, R180: a valid frame. -/
def validFrame (port : Fin 8) (a : Act) : Act :=
  refreshSilence (directoryOfPort a.s port) (a.modPort port fun r => { r with badRun := 0 })

/-! ## Announcement (R176) -/

/-- R176, R178: the port's announced kind is checked against the role mapped to it. -/
def checkKind (port : Fin 8) (a : Act) : Act :=
  match directoryOfPort a.s port, a.s.ports[port].kind with
  | some d, some k =>
    if k = d.kind then a
    else
      let a := a.modPort port fun r => { r with link := .barred, badFrames := 0, badRun := 0 }
      match d.role.value with
      | some role => reportHead role (roleOf a.s role).presence .barred (some d.kind) a
      | none => a
  | _, _ => a

/-- R176: the port takes an announcement. -/
def takeAnnouncement (port : Fin 8) (kind serial : Nat) (a : Act) : Act :=
  checkKind port (a.modPort port fun r => { r with kind := some kind, serial := some serial })

/-- R176: an ANNOUNCE frame. -/
def announce (port : Fin 8) (kind serial : Nat) (a : Act) : Act :=
  if a.s.ports[port].link = .locked then
    let a := validFrame port a
    let held := a.s.ports[port]
    if held.kind = none then takeAnnouncement port kind serial a
    else if held.kind = some kind ∧ held.serial = some serial then a
    else
      let a :=
        match roleOfPort a.s port with
        | some role => loseRole role .headChanged a
        | none => a
      takeAnnouncement port kind serial a
  else a

/-! ## STATUS frames (R179, R184, R185) -/

/-- R185: an item is offered to the Telemetry Forward Queue; at a full queue it is discarded and DROPPED is set. The second
value says whether it joined. -/
def offerTelemetry (item : TelemetryItem) (a : Act) : Act × Bool :=
  if a.s.ru.telemetry.length < telemetryCapacity then
    (a.modRu fun u => { u with telemetry := u.telemetry ++ [item] }, true)
  else (a.modRu fun u => { u with dropped := true }, false)

/-- R184: the role's forwarding asks for this STATUS. -/
def wantsForward (d : DirectoryRecord) (r : RoleRecord) (payload : List Byte) : Bool :=
  match d.forwarding.value with
  | some .all => true
  | some .changes => r.lastForwarded != some payload
  | some .none => false
  | none => false

/-- R184: a STATUS is offered for forwarding. -/
def forward (d : DirectoryRecord) (role : Role) (payload : List Byte) (a : Act) : Act :=
  if wantsForward d (roleOf a.s role) payload then
    match offerTelemetry { role, port := d.port, kind := d.kind, payload } a with
    | (a, true) => a.modRole role fun r => { r with lastForwarded := some payload }
    | (a, false) => a
  else a

/-- R179: a STATUS is handed to the block that uses it. -/
def handStatus (role : Role) (payload : List Byte) (a : Act) : Act :=
  match role with
  | .switchgear => switchgearStatus payload a
  | .panA => panStatus .a payload a
  | .panB => panStatus .b payload a
  | .heater => heaterStatus payload a
  | .climate => climateStatus payload a
  | .line => a
  | .aux1 => a
  | .aux2 => a

/-- R179: a STATUS of a role; one that makes the role PRESENT is judged before the role's return reallocates the heaters
(assumption log 47). -/
def roleStatus (d : DirectoryRecord) (role : Role) (payload : List Byte) (a : Act) : Act :=
  forward d role payload (handStatus role payload (becomePresent role d.silence a))

/-- R175, R179: a STATUS frame; one whose length does not fit its role's layout is bad. -/
def headStatusFrame (port : Fin 8) (payload : List Byte) (a : Act) : Act :=
  if a.s.ports[port].link = .locked then
    if statusFits (roleOfPort a.s port) payload then
      let a := validFrame port a
      match directoryOfPort a.s port with
      | none => a
      | some d =>
        if a.s.ports[port].kind = some d.kind then
          match d.role.value with
          | some role => roleStatus d role payload a
          | none => a
        else a
    else portBadFrame port a
  else a

/-! ## CELL frames (R1, R179) -/

/-- R1, R175: a CELL frame; a payload of other than sixteen samples has the wrong length. -/
def cellFrame (port : Fin 8) (sequence : Nat) (fault : Bool) (samples : List Int) (current : Nat) (a : Act) : Act :=
  if a.s.ports[port].link = .locked then
    if samples.length = 16 then
      let a := validFrame port a
      if roleOfPort a.s port = some .line ∧ rolePresent a.s .line then takeCell sequence fault samples current a else a
    else portBadFrame port a
  else a

/-! ## HEAD_DIRECTORY loads (R178) -/

/-- R178: a role loses its port. -/
def unmapRole (a : Act) (role : Role) : Act :=
  match (roleOf a.s role).presence with
  | .present => leavePresent role .absent .directory a
  | .lost =>
    reportHead role .lost .directory none
      (a.modRole role fun r => { r with presence := .absent, silenceDeadline := none, lastForwarded := none })
  | .absent => a

/-- R178: a VALID table has been discarded. The roles lose their ports in role order: DESIGN CHOICE, for the rule gives none
(assumption log 68). -/
def directoryGone (a : Act) : Act :=
  (rolesInOrder.foldl unmapRole a).modPorts fun v => v.map fun r => if r.link = .barred then { r with link := .locked } else r

/-- R178: a load has completed VALID: the announced kinds of LOCKED ports are checked. -/
def directoryValid (a : Act) : Act :=
  (List.finRange 8).foldl (fun a port => if a.s.ports[port].link = .locked then checkKind port a else a) a

end Sys2Proof.Machine
end

