-- ==== Sys2Proof/Machine/Encode.lean ====
section
/-! DEFINITION. What the up frames carry (11, Frame layouts): the REPORT content, the STATUS, DIGEST, TELEMETRY and MGMT_REPLY
payloads, and the records of READ_RECORD. Where the manual leaves a field's presence open, assumption log 31. -/

namespace Sys2Proof.Machine

/-! ## Lists of named values -/

/-- Origins (06). -/
def originsInOrder : List Origin := [.vehicle, .sequencer, .pan, .ice, .protection]
/-- Raise origins, in the order of the Pan Record's field (03). -/
def raiseOrigins : List Origin := [.pan, .sequencer, .ice]
/-- Pantograph states (03). -/
def panStates : List PanState := [.down, .raising, .up, .lowering, .fault]
/-- Pantograph roles (03). -/
def panRoles : List PanRole := [.collect, .scrape]
/-- Lowering phases (03). -/
def lowerPhases : List LowerPhase := [.awaitMb, .venting]
/-- Fault latches (03). -/
def faultLatches : List FaultLatch := [.strip, .drop, .raiseTimeout, .lowerTimeout]
/-- Causes of a protective demand, in the order of R36's table. -/
def tripCauses : List TripCause := [.over, .wrongSelector, .dead, .noSense]
/-- Causes of a change of the confirmed state (R31). -/
def lineCauses : List LineCause := [.window, .fastDead, .lineLost, .table]
/-- Presences (10). -/
def presences : List Presence := [.absent, .present, .lost]
/-- Causes of a HEAD_STATE report (R182). -/
def headCauses : List HeadCause := [.present, .silence, .link, .headChanged, .directory, .barred, .undelivered]
/-- Link states of a head port (10). -/
def portLinks : List PortLink := [.down, .acquiring, .locked, .barred]
/-- Link states of the Vehicle Link (11). -/
def vlLinks : List VlLink := [.down, .acquiring, .locked]
/-- Marks of a SWITCHGEAR_STATE report, in the order of R68 (assumption log 61). -/
def changeMarks : List ChangeMark := [.ended, .during, .uncommanded]
/-- Sources of an action (R122). -/
def sources : List Source := [.queue, .m0, .m1]
/-- Origins of a changeover (08). -/
def coOrigins : List CoOrigin := [.route, .marker, .vehicle]
/-- Ice mode settings (09). -/
def iceSettings : List IceSetting := [.off, .auto, .forceHeat]
/-- Ice states (09). -/
def iceStates : List IceState := [.inactive, .watch, .heat, .scrape]
/-- Scrape phases (09). -/
def scrapePhases : List ScrapePhase := [.isoOpening, .raising, .active]
/-- Edge directions (05). -/
def edges : List Edge := [.toActive, .toInactive]
/-- Filtered levels (05). -/
def filteredLevels : List Filtered := [.high, .low, .unsettled]
/-- Outcomes of a GATE report (R110). -/
def gateOutcomes : List GateOutcome := [.refused, .held, .admitted]
/-- Operating modes, as the STATUS payload places them. -/
def modes : List Mode := [.standby, .run]

/-! ## Shared fields -/

/-- A line state, as the STATUS payload encodes it. -/
def lineByte : LineState → Nat
  | .noSense => 0
  | .system c => c
  | .dead => 16
  | .unknown => 17
  | .over => 18

/-- The byte of a result (Request and reply envelope). -/
def resultByte : Result → Nat
  | .done => 0x00
  | .accepted => 0x01
  | .already => 0x02
  | .noop => 0x03
  | .busy => 0x10
  | .mode => 0x11
  | .notReady => 0x12
  | .tableInvalid => 0x13
  | .sequence => 0x14
  | .full => 0x15
  | .markerInUse => 0x16
  | .unknownSystem => 0x17
  | .headAbsent => 0x18
  | .interlock => 0x19
  | .notCleared => 0x1A
  | .notActive => 0x1B
  | .fault => 0x1C
  | .range => 0x1D

/-- A line state. -/
def putLine (l : LineState) : List Byte := put8 (lineByte l)
/-- A result. -/
def putResult (r : Result) : List Byte := put8 (resultByte r)
/-- A device. -/
def putDev (d : Dev) : List Byte := putPlace devsInOrder d
/-- A device's position. -/
def putPos (d : Dev) (p : Pos) : List Byte := [devPositionByte d p]
/-- A pantograph. -/
def putPan (p : Pan) : List Byte := putPlace pansInOrder p
/-- A head role. -/
def putRole (r : Role) : List Byte := put8 (roleIndex r).val
/-- An estimate or a position, or its absence. -/
def putPosition (p : Option Nat) : List Byte := putOption put32 p
/-- A set of lower causes. -/
def putCauses (set : List LowerCause) : List Byte := put16 (setBits causesInOrder set)
/-- A set of heater groups. -/
def putGroups (g : Groups) : List Byte := put8 g.toNat
/-- A failed condition. -/
def putFailed (f : Failed) : List Byte := putPlace failedInOrder f
/-- MOVING and IDLE, in the order of the Switchgear Record's field. -/
def putMoving (moving : Bool) : List Byte := put8 (if moving then 1 else 0)
/-- The milliseconds remaining to a deadline, or its absence: four bytes (Frame layouts, Numbers). The manual names no cap for a
timer that lies further ahead; the number is sent modulo 2^32 (DESIGN CHOICE, assumption log 64). -/
def putRemaining (now : Nat) (deadline : Option Nat) : List Byte := putOption (fun t => put32 (t - now)) deadline
/-- A condition that is asserted or released. -/
def putAsserted (b : Bool) : List Byte := putYes b

/-- The fields of an action after its kind. -/
def putActionFields : Action → List Byte
  | .changeover target raisePosition => put8 target ++ putOption put32 raisePosition
  | .lowerAll => []
  | .scrapeInhibit on => put8 (if on then 0 else 1)
  | .reportMark tag => put8 tag

/-- The kind of an action. -/
def actionKind : Action → Nat
  | .changeover _ _ => 0
  | .lowerAll => 1
  | .scrapeInhibit _ => 2
  | .reportMark _ => 3

/-- A Marker List action. -/
def putAction (a : Action) : List Byte := put8 (actionKind a) ++ putActionFields a

/-- A trigger. -/
def putTrigger : Trigger → List Byte
  | .atPosition p => put8 0 ++ put32 p
  | .onMarker m => put8 1 ++ put8 m

/-- A queue entry. -/
def putEntry (e : QueueEntry) : List Byte := put8 (actionKind e.action) ++ putTrigger e.trigger ++ putActionFields e.action

/-! ## REPORT payload -/

/-- The kind and the instance of a report (12, Report slots). -/
def reportKind : Report → Nat × Nat
  | .protectiveTrip _ _ _ _ _ => (0, 0)
  | .panFault p _ _ _ => (1, placeIn pansInOrder p)
  | .switchgearFault _ _ _ _ _ => (2, 0)
  | .queueFlushed _ => (3, 0)
  | .headState r _ _ _ _ _ _ _ _ _ => (4, (roleIndex r).val)
  | .changeoverResult _ _ _ _ _ _ _ _ _ _ _ _ => (5, 0)
  | .line _ _ _ _ _ => (6, 0)
  | .panState p _ _ _ _ _ => (7, placeIn pansInOrder p)
  | .switchgearState _ _ _ _ _ _ => (8, 0)
  | .changeoverStep _ _ _ _ _ _ _ => (9, 0)
  | .actionFired _ _ _ _ _ => (10, 0)
  | .ice _ _ _ _ _ _ _ _ => (11, 0)
  | .inputEvent l _ _ _ => (12, l.val)
  | .gate r _ _ _ _ _ _ _ => (13, (roleIndex r).val)
  | .contactLoss _ _ => (14, 0)
  | .markerUnused _ _ _ _ _ => (15, 0)
  | .reportMark _ _ _ => (16, 0)

/-- A command kind; the byte for a command of no kind is the one given. -/
def putKind (noKind : Byte) : Option Kind → List Byte
  | some k => putPlace kindsInOrder k
  | none => [noKind]

/-- R117, R123: what a QUEUE_FLUSHED report carries: its cause, then that cause's own fields (assumption log 59); a refused
action goes without its trigger (assumption log 43). -/
def putFlush : FlushCause → List Byte
  | .jump removed est position => put8 0 ++ put8 removed ++ put32 est ++ put32 position
  | .refused source removed action answer =>
    put8 1 ++ putPlace sources source ++ put8 removed ++ putAction action ++ putResult answer

/-- R154: the result of a changeover, ABORTED with its reason (assumption log 59). -/
def putCoResult : CoResult → List Byte
  | .done => put8 0
  | .noop => put8 1
  | .aborted reason => put8 2 ++ putPlace reasonsInOrder reason

/-- R138, R154: the failed condition or the answer, told apart by the reason (assumption log 59). -/
def putDetail : AbortDetail → List Byte
  | .failed f => putFailed f
  | .answer r => putResult r

/-- R171: the cause of an ICE report with what goes with it (assumption log 59). The failing condition of R164 is sent as its
number there, 1 to 6, and not as a place counted from 0 (DESIGN CHOICE, assumption log 65). -/
def putIceCause : IceCause → List Byte
  | .score => put8 0
  | .permission k => put8 1 ++ put8 k
  | .mode => put8 2
  | .setting => put8 3
  | .entryFailed answer => put8 4 ++ putOption putResult answer
  | .scrapePan state => put8 5 ++ putPlace panStates state
  | .heaterMismatch g => put8 6 ++ putGroups g

/-- R34: a contact-loss entry. -/
def putArc (e : ArcEntry) : List Byte := putPosition e.position ++ put8 e.length ++ putLine e.state

/-- R110: EXPIRED is accompanied by the condition last failing, and ADMITTED says whether the command joined a move. Neither is
placed by R110's list or Frame layouts: the one stands behind its own presence byte in EXPIRED reports alone, the other ends
every ADMITTED report (assumption log 59). -/
def putGateEnd (outcome : GateOutcome) (failed lastFailing : Option Failed) (joined : Bool) : List Byte :=
  putOption putFailed failed ++ (if failed = some .expired then putOption putFailed lastFailing else [])
    ++ (if outcome = .admitted then putYes joined else [])

/-- The content of a report, in the order in which its owning rule names it; the function of an INPUT_EVENT stands behind a
presence byte (assumption log 39), and what goes with one cause or outcome alone stands in those reports alone (log 59). R68: the
marks of a SWITCHGEAR_STATE are a counted list of devices with their marks, in device order (DESIGN CHOICE, log 61). Fields that
a rule names one by one have a presence byte each (log 62). -/
def reportContent (noKind : Byte) : Report → List Byte
  | .protectiveTrip cause state mb moving window =>
    putPlace tripCauses cause ++ putLine state ++ putPos .mb mb ++ putMoving moving ++ put16 window
  | .panFault _ latch causes measured => putPlace faultLatches latch ++ putCauses causes ++ putOption put16 measured
  | .switchgearFault dev target origin reported timeout =>
    putDev dev ++ putPos dev target ++ putPlace originsInOrder origin ++ putPos dev reported ++ put16 timeout
  | .queueFlushed cause => putFlush cause
  | .headState role port before after cause link announced serial expected command =>
    putRole role ++ putOption put8 port ++ putPlace presences before ++ putPlace presences after ++ putPlace headCauses cause
      ++ putOption (putPlace portLinks) link ++ putOption put8 announced ++ putOption put32 serial
      ++ (match expected with
          | some k => put8 k
          | none => [])
      ++ (match command with
          | some (kind, origin, seq) => putKind noKind kind ++ putPlace originsInOrder origin ++ putOption put8 seq
          | none => [])
  | .changeoverResult result reason detail target origin oldSystem newPan kept abortStep line mb est =>
    putCoResult result ++ putOption (putPlace reasonsInOrder) reason ++ putOption putDetail detail ++ putOption put8 target
      ++ putOption (putPlace coOrigins) origin ++ putOption put8 oldSystem ++ putOption putPan newPan ++ putYes kept
      ++ putOption (putPlace stepsInOrder) abortStep ++ putLine line ++ putPos .mb mb ++ putPosition est
  | .line new previous cause window since =>
    putLine new ++ putLine previous ++ putPlace lineCauses cause ++ put16 window ++ putPosition since
  | .panState _ new previous role causes latch =>
    putPlace panStates new ++ putPlace panStates previous ++ putOption (putPlace panRoles) role
      ++ putOption (putPlace causesInOrder) (causes.map (·.1)) ++ putOption putCauses (causes.map (·.2))
      ++ putOption (putPlace faultLatches) latch
  | .switchgearState mb ss isoA isoB es marks =>
    putPos .mb mb ++ putPos .ss ss ++ putPos .isoA isoA ++ putPos .isoB isoB ++ putPos .es es
      ++ putList (fun m => putDev m.1 ++ putPlace changeMarks m.2) marks
  | .changeoverStep new left passed target newPan kept est =>
    putPlace stepsInOrder new ++ putPlace stepsInOrder left ++ putList (putPlace stepsInOrder) passed ++ putOption put8 target
      ++ putOption putPan newPan ++ putYes kept ++ putPosition est
  | .actionFired source action trigger est answer =>
    putPlace sources source ++ putAction action ++ putOption putTrigger trigger ++ putPosition est ++ putResult answer
  | .ice before after cause score base arcs budget allocated =>
    putPlace iceStates before ++ putPlace iceStates after ++ putIceCause cause ++ put8 score ++ put8 base ++ put8 arcs
      ++ put16 budget ++ putGroups allocated
  | .inputEvent line function edge position =>
    put8 line.val ++ putOption (putPlace functionsInOrder) function ++ putPlace edges edge ++ putPosition position
  | .gate role kind origin seq outcome failed lastFailing joined =>
    putRole role ++ putKind noKind kind ++ putPlace originsInOrder origin ++ putOption put8 seq
      ++ putPlace gateOutcomes outcome ++ putGateEnd outcome failed lastFailing joined
  | .contactLoss entry level => putArc entry ++ put8 level
  | .markerUnused marker mode est depth head =>
    put8 marker ++ putPlace modes mode ++ putPosition est ++ put8 depth ++ putOption putTrigger head
  | .reportMark tag source est => put8 tag ++ putPlace sources source ++ putPosition est

/-- The REPORT payload. -/
def reportPayload (noKind : Byte) (r : Report) (overrun : Bool) : List Byte :=
  put8 (reportKind r).1 ++ put8 (reportKind r).2 ++ put8 (if overrun then 1 else 0) ++ reportContent noKind r

/-! ## DIGEST, TELEMETRY and MGMT_REPLY payloads -/

/-- An entry of a DIGEST frame. -/
def putDigest (e : DigestEntry) : List Byte :=
  put16 e.sequence ++ putSigned16 e.m ++ put16 e.vac ++ put24 e.f ++ putLine (classState e.cls) ++ put8 (if e.sat then 1 else 0)
    ++ put16 e.iw

/-- The TELEMETRY payload. -/
def telemetryPayload (t : TelemetryItem) : List Byte := putRole t.role ++ put8 t.port ++ put8 t.kind ++ t.payload

/-- The MGMT_REPLY payload. -/
def replyPayload (r : Reply) : List Byte := put8 r.code ++ putResult r.result ++ put8 r.clamped ++ r.data

/-! ## STATUS payload (R205) -/

/-- A pantograph's byte: state in bits 3..0, role in bits 5..4. -/
def panByte (r : PanRecord) : Nat :=
  placeIn panStates r.state
    + 16 * (match r.role with
            | none => 0
            | some .collect => 1
            | some .scrape => 2)

/-- The slot holds a report that is urgent where it stands; slots 5 to 12 are the HEAD_STATE slots (R202). -/
def slotUrgent (i : Nat) (sl : Slot) : Bool :=
  match sl.report with
  | none => false
  | some r => if 5 ≤ i ∧ i ≤ 12 then r.lost else decide (i ≤ 13)

/-- The slot holds a normal report. -/
def slotNormal (i : Nat) (sl : Slot) : Bool := sl.report.isSome && !slotUrgent i sl

/-- The urgent kind, in kind order, of a slot's place. -/
def urgentKind (i : Nat) : Nat :=
  if i = 0 then 0 else if i ≤ 2 then 1 else if i = 3 then 2 else if i = 4 then 3 else if i ≤ 12 then 4 else 5

/-- The slots with their places. -/
def placedSlots (u : ReportUnit) : List (Slot × Nat) := u.slots.toList.zipIdx

/-- The urgent pending marks. -/
def urgentMarks (u : ReportUnit) : Nat :=
  setBits [0, 1, 2, 3, 4, 5] (((placedSlots u).filter fun x => slotUrgent x.2 x.1).map fun x => urgentKind x.2)

/-- The number of slots that hold a normal report. -/
def normalCount (u : ReportUnit) : Nat := ((placedSlots u).filter fun x => slotNormal x.2 x.1).length

/-- The STATUS payload, built from the state as it stands. -/
def statusPayload (s : State) : List Byte :=
  let est := estimate s
  putPlace modes s.vl.mode ++ putLine s.lm.confirmed ++ put8 (panByte s.pans.a) ++ put8 (panByte s.pans.b)
    ++ devsInOrder.flatMap (fun d => putPos d (devOf s d).reported)
    ++ put8 ((if s.sg.mbTrip then 1 else 0) + (if s.vl.replyOverrun then 2 else 0) + (if s.vl.active then 0 else 4)
        + (if est.isSome then 8 else 0))
    ++ putPlace stepsInOrder s.co.step ++ putPlace iceStates s.ice.state ++ put8 s.ice.score ++ put8 s.pr.queue.length
    ++ put32 (est.getD max32) ++ put8 (if s.pr.position.fresh then 0 else 1) ++ put8 s.ru.telemetry.length
    ++ put8 s.vl.replies.length ++ put8 s.lm.digests.length ++ put8 (urgentMarks s.ru) ++ put8 (normalCount s.ru)

/-! ## READ_RECORD (R195) -/

/-- R38: the Line Record; the candidate, the last-window fields and the newest entry have one presence byte each (log 62). -/
def lineRecord (s : State) : List Byte :=
  let l := s.lm
  putLine l.confirmed ++ putOption (fun c => putLine (classState c.cls) ++ put8 c.count) l.candidate
    ++ putOption (fun w => putSigned16 w.m ++ put16 w.vac ++ put24 w.f ++ put16 w.c ++ put16 w.iw ++ putSet w.sat) l.last
    ++ put16 l.windowSequence ++ put16 l.gapCount ++ put8 l.deadRun ++ putPosition l.confirmedSince
    ++ put8 l.arcs.length ++ putOption putArc l.arcs.getLast?

/-- R41: a Pan Record. -/
def panRecord (s : State) (p : Pan) : List Byte :=
  let r := panOf s p
  putPlace panStates r.state ++ putOption (putPlace panRoles) r.role ++ putOption put8 r.profile
    ++ putOption (putPlace raiseOrigins) r.raiseOrigin ++ putOption put8 r.stage ++ putRemaining s.now r.stageDeadline
    ++ putRemaining s.now r.raiseDeadline ++ putCauses r.causes ++ putOption (putPlace causesInOrder) r.primary
    ++ putOption (putPlace lowerPhases) r.phase ++ putRemaining s.now r.ventGuard ++ putRemaining s.now r.lowerDeadline
    ++ putOption (putPlace faultLatches) r.latch ++ putOption put16 r.lastHold ++ putOption put16 r.measured
    ++ putSet r.headFault ++ putYes r.vent

/-- R78: one device of the Switchgear Record. -/
def deviceRecord (s : State) (d : Dev) : List Byte :=
  let e := devOf s d
  putPos d e.reported ++ putOption (putPos d) e.target ++ putMoving (!e.idle)
    ++ putOption (putPlace originsInOrder) (e.move.map (·.origin)) ++ putRemaining s.now (e.move.map (·.deadline))
    ++ putOption (putPos d) e.mark

/-- R78: the Switchgear Record, five devices without a count (assumption log 62). -/
def switchgearRecord (s : State) : List Byte := devsInOrder.flatMap (deviceRecord s) ++ putAsserted s.sg.mbTrip

/-- R154: the Changeover Record; the requested moves are pairs of a device and its target (assumption log 61). -/
def changeoverRecord (s : State) : List Byte :=
  let c := s.co
  putPlace stepsInOrder c.step ++ putOption put8 c.target ++ putOption (putPlace coOrigins) c.origin ++ putPosition c.raisePosition
    ++ putOption putYes c.usable ++ putOption put8 c.oldSystem ++ putOption putPan c.newPan ++ putYes c.kept
    ++ putList (fun m => putDev m.1 ++ putPos m.1 m.2) c.requested ++ putList putPan c.awaited
    ++ putRemaining s.now c.verifyDeadline ++ putRemaining s.now c.raiseTimer
    ++ putOption (putPlace reasonsInOrder) c.abortReason ++ putOption putCoResult c.lastResult

/-- The climate values of the Ice Record. -/
def putClimateValues (c : Climate) : List Byte :=
  putSigned16 c.ambient ++ put8 c.humidity ++ putSigned16 c.stripA ++ putSigned16 c.stripB ++ put8 (if c.current then 0 else 1)

/-- R171: the Ice Record; the climate values have one presence byte (assumption log 62). -/
def iceRecord (s : State) : List Byte :=
  let i := s.ice
  putPlace iceSettings i.setting ++ putPlace iceStates i.state ++ put8 i.score ++ put8 i.base ++ put8 i.arcCount
    ++ putOption putClimateValues i.climate ++ putSet i.inhibit ++ putSet i.holdOff ++ putOption putPan i.scrapePan
    ++ putOption (putPlace scrapePhases) i.phase ++ put24 i.headroom ++ put16 i.budget ++ putGroups i.allocated
    ++ putOption putGroups i.commanded ++ putOption putGroups i.actual

/-- R130: the Position Record; the milliseconds since the frame time are four bytes (assumption log 45). -/
def positionRecord (s : State) : List Byte :=
  let r := s.pr.position
  putPosition r.last ++ put16 r.speed ++ put8 (if r.good then 0 else 1)
    ++ putOption (fun t => put32 (min max32 (s.now - t))) r.frameTime ++ putOption put16 r.frameStale
    ++ put8 (if r.fresh then 0 else 1) ++ putRemaining s.now r.staleDeadline ++ putPosition (estimate s) ++ put16 r.jumps

/-- R130: the Route Action Queue and the counters. -/
def queueRecord (s : State) : List Byte :=
  putList putEntry s.pr.queue ++ put32 s.pr.appended ++ put32 s.pr.fired ++ put32 s.pr.flushed
    ++ putRemaining s.now s.pr.triggerTimer

/-- R130: the Marker Lists. -/
def markersRecord (s : State) : List Byte := putList putAction s.pr.m0 ++ putList putAction s.pr.m1

/-- R92: an event latch: its state, and the latched edge with its position, or their absence (assumption log 62). -/
def putLatch : Latch → List Byte
  | .disarmed => put8 0 ++ putOption put8 none
  | .armed => put8 1 ++ putOption put8 none
  | .latched edge position => put8 2 ++ putOption (fun _ => putPlace edges edge ++ putPosition position) (some ())

/-- R92: what a VALID INPUT_MAP gives a line. -/
def putAssignment (r : InputMapRecord) : List Byte :=
  putCoded functionsInOrder r.function ++ put8 r.filter ++ putCoded levels r.active ++ putCoded senses r.sense

/-- R92: one line. An unassigned line sends one presence byte 0 for its function, filter index, active level and event sense
together (DESIGN CHOICE, assumption log 62). -/
def inputRecord (s : State) (line : Fin 12) : List Byte :=
  let r := s.inputs[line]
  putPlace levels r.raw ++ putPlace filteredLevels r.filtered ++ putRemaining s.now r.deadline ++ put16 r.bounce ++ putLatch r.latch
    ++ put8 (if lineActive s line then 0 else 1) ++ putOption putAssignment (inputMapRecord s line)

/-- R92: the Input Records and the outputs, without counts (assumption log 62). -/
def inputsRecord (s : State) : List Byte :=
  (List.finRange 12).flatMap (inputRecord s) ++ putAsserted (ventAsserted s .a) ++ putAsserted (ventAsserted s .b)
    ++ putAsserted (tripAsserted s) ++ putAsserted (linkOk s)

/-- R186: a port. -/
def portRecord (r : PortRecord) : List Byte :=
  putPlace portLinks r.link ++ putOption put8 r.kind ++ putOption put32 r.serial ++ put16 r.badFrames ++ put8 r.badRun

/-- R111: the content of a held command, its arguments; an AUX command is the vehicle's own bytes throughout. -/
def contentBytes (c : Command) : List Byte := if c.content = .aux then c.payload else c.payload.drop 1

/-- R111: a hold slot; the arguments stand as they came, behind their number (assumption log 41). -/
def putHeld (now : Nat) (h : Held) : List Byte :=
  (match h.command.content.kind with
    | some k => putPlace kindsInOrder k
    | none => [])
    ++ putList (fun b => [b]) (contentBytes h.command) ++ put8 h.seq ++ putFailed h.failed ++ put32 (h.deadline - now)

/-- R186: a role, with its hold slot where it has one; another role sends nothing there (assumption log 62). -/
def roleRecord (s : State) (role : Role) : List Byte :=
  let r := roleOf s role
  putPlace presences r.presence ++ putOption put8 ((directoryOfRole s role).map (·.port)) ++ putRemaining s.now r.silenceDeadline
    ++ putYes r.lastForwarded.isSome ++ put16 r.undelivered
    ++ (if slotRoles.contains role then putOption (putHeld s.now) (holdOf s role) else [])

/-- R186: the head links, eight ports and eight roles without counts (assumption log 62). -/
def headsRecord (s : State) : List Byte :=
  s.ports.toList.flatMap portRecord ++ rolesInOrder.flatMap (roleRecord s) ++ put8 s.ru.telemetry.length

/-- The load state of a table, its reason and its index, each behind a presence byte (assumption logs 31 and 62). -/
def putLoad : LoadState → List Byte
  | .empty => put8 0 ++ [0, 0]
  | .loading => put8 1 ++ [0, 0]
  | .valid => put8 2 ++ [0, 0]
  | .invalid reason index => put8 3 ++ putOption (putPlace validationReasons) (some reason) ++ putOption put8 (some index)

/-- A table's load state and number of records. -/
def putTable {ρ : Type} (t : Table ρ) : List Byte := putLoad t.load ++ put8 t.records.length

/-- R195: the mode, the Link Record and the tables; restart pending stands once, after the mode (assumption log 49). -/
def modeRecord (s : State) : List Byte :=
  let v := s.vl
  putPlace modes v.mode ++ putYes v.restartPending ++ putPlace vlLinks v.link ++ put8 (if v.active then 1 else 0)
    ++ putRemaining s.now v.silenceDeadline ++ put16 v.badFrames ++ put8 v.badRun ++ putSet v.replyOverrun
    ++ put8 v.replies.length ++ putCoded policies (settings s).policy
    ++ putTable v.tables.directory ++ putTable v.tables.gate ++ putTable v.tables.system ++ putTable v.tables.profiles
    ++ putTable v.tables.inputs ++ putTable v.tables.settings ++ putTable v.tables.heater ++ putTable v.tables.climate

/-- R195: the record of an id, LINE 0 to MODE 11, whole (assumption log 25). -/
def readRecord (s : State) : Nat → Option (List Byte)
  | 0 => some (lineRecord s)
  | 1 => some (panRecord s .a)
  | 2 => some (panRecord s .b)
  | 3 => some (switchgearRecord s)
  | 4 => some (changeoverRecord s)
  | 5 => some (iceRecord s)
  | 6 => some (positionRecord s)
  | 7 => some (queueRecord s)
  | 8 => some (markersRecord s)
  | 9 => some (inputsRecord s)
  | 10 => some (headsRecord s)
  | 11 => some (modeRecord s)
  | _ => none

/-! ## READ_TABLE (R195) -/

/-- The whole records, from the first on, that fit in a number of bytes. -/
def recordsThatFit : Nat → List (List Byte) → List (List Byte)
  | _, [] => []
  | room, r :: rest => if r.length ≤ room then r :: recordsThatFit (room - r.length) rest else []

/-- R195: the reply data of a READ_TABLE: a reply's payload holds at most 240 bytes, three of which precede its data. -/
def readTableData {ρ : Type} (f : TableForm ρ) (t : Table ρ) (start : Nat) : List Byte :=
  let head := putTable t
  putList id (recordsThatFit (236 - head.length) ((t.records.drop start).map f.put)) |> (head ++ ·)

/-- R195: the reply data of a READ_TABLE of the table with an identifier. -/
def readTableOf (t : Tables) (start : Nat) : Nat → Option (List Byte)
  | 0 => some (readTableData directoryForm t.directory start)
  | 1 => some (readTableData gateForm t.gate start)
  | 2 => some (readTableData systemForm t.system start)
  | 3 => some (readTableData profileForm t.profiles start)
  | 4 => some (readTableData inputForm t.inputs start)
  | 5 => some (readTableData settingsForm t.settings start)
  | 6 => some (readTableData heaterForm t.heater start)
  | 7 => some (readTableData climateForm t.climate start)
  | _ => none

end Sys2Proof.Machine
end

