-- ==== Sys2Proof/Decode.lean ====
section
/-! DEFINITION. How the commands arrive: the frames of the Vehicle Link and of a Head Link as bytes, and the word of the
opcode table. The opcode table gives its rows no bits, so no word spells a command (assumption log 38). -/

/-- The command that a word of the opcode table spells: none, for the table gives no row bits. -/
def Sys2Proof.decodeTableWord (_nbits _w : Nat) : Option Sys2Proof.Instr := none

namespace Sys2Proof.Machine

/-! ## Fields of a request -/

/-- The value of a field list with nothing left over. -/
def whole {α : Type} : Option (α × List Byte) → Option α
  | some (v, []) => some v
  | some (_, _ :: _) => none
  | none => none

/-- An enumerated field that must hold one of its named values. -/
def getNamed {α : Type} (list : List α) : List Byte → Option (α × List Byte)
  | b :: r => (list[b.toNat]?).map fun v => (v, r)
  | [] => none

/-- The pantographs that a PAN_LOWER names: A, B and BOTH. -/
def panChoices : List PanChoice := [.one .a, .one .b, .both]

/-- The fields of an action after its kind; a SCRAPE_INHIBIT says set 0 or clear 1 (assumption log 15). -/
def getActionFields (kind : Nat) (l : List Byte) : Option (Action × List Byte) :=
  match kind with
  | 0 => do
    let (target, l) ← get8 l
    let (raisePosition, l) ← getOption get32 l
    return (.changeover target raisePosition, l)
  | 1 => some (.lowerAll, l)
  | 2 => do
    let (on, l) ← getNamed yesNo l
    return (.scrapeInhibit on, l)
  | 3 => do
    let (tag, l) ← get8 l
    return (.reportMark tag, l)
  | _ => none

/-- A Marker List action. -/
def getAction (l : List Byte) : Option (Action × List Byte) := do
  let (kind, l) ← get8 l
  getActionFields kind l

/-- A trigger. -/
def getTrigger (l : List Byte) : Option (Trigger × List Byte) := do
  let (kind, l) ← get8 l
  match kind with
  | 0 =>
    let (p, l) ← get32 l
    return (.atPosition p, l)
  | 1 =>
    let (m, l) ← get8 l
    return (.onMarker m, l)
  | _ => none

/-- A queue entry: its kind, its trigger, its fields. -/
def getEntry (l : List Byte) : Option (QueueEntry × List Byte) := do
  let (kind, l) ← get8 l
  let (trigger, l) ← getTrigger l
  let (action, l) ← getActionFields kind l
  return ({ action, trigger }, l)

/-! ## Management requests -/

/-- The LOAD_TABLE of a block marker; a marker that is none of the four fits no request (R193). -/
def loadOfMarker (marker seq table : Nat) (records : List Byte) : Option Instr :=
  match marker with
  | 1 => some (.loadTableFirst seq table records)
  | 2 => some (.loadTableMiddle seq table records)
  | 3 => some (.loadTableLast seq table records)
  | 4 => some (.loadTableOnly seq table records)
  | _ => none

/-- The SET_MODE of a mode byte. -/
def modeOfByte (seq : Nat) : Nat → Option Instr
  | 0 => some (.setModeStandby seq)
  | 1 => some (.setModeRun seq)
  | _ => none

/-- A request with no fields. -/
def bare (c : Instr) : List Byte → Option Instr
  | [] => some c
  | _ :: _ => none

/-- The fields of a PAN_RAISE. -/
def getRaise (l : List Byte) : Option ((Pan × PanRole × Nat) × List Byte) := do
  let (pan, l) ← getNamed pansInOrder l
  let (role, l) ← getNamed panRoles l
  let (profile, l) ← get8 l
  return ((pan, role, profile), l)

/-- The fields of a CHANGEOVER_START. -/
def getStart (l : List Byte) : Option ((Nat × Option Nat) × List Byte) := do
  let (target, l) ← get8 l
  let (raisePosition, l) ← getOption get32 l
  return ((target, raisePosition), l)

/-- The fields of a MARKER_LOAD. -/
def getMarkerLoad (l : List Byte) : Option ((Nat × List Action) × List Byte) := do
  let (list, l) ← get8 l
  let (actions, l) ← getList getAction l
  return ((list, actions), l)

/-- Two fields of one byte each. -/
def getPair (l : List Byte) : Option ((Nat × Nat) × List Byte) := do
  let (x, l) ← get8 l
  let (y, l) ← get8 l
  return ((x, y), l)

/-- Request and reply envelope: the request that a code and its fields spell, if they spell one. -/
def requestOf (marker seq code : Nat) (l : List Byte) : Option Instr :=
  match code with
  | 0x01 =>
    match get8 l with
    | some (table, records) => loadOfMarker marker seq table records
    | none => none
  | 0x02 => (whole (getPair l)).map fun x => .readTable seq x.1 x.2
  | 0x03 => (whole (get8 l)).map fun x => .readRecord seq x
  | 0x04 => (whole (get8 l)).bind (modeOfByte seq)
  | 0x05 => bare (.restart seq) l
  | 0x06 => bare (.clearCounters seq) l
  | 0x10 => (whole (getRaise l)).map fun x => .panRaise seq x.1 x.2.1 x.2.2
  | 0x11 => (whole (getNamed panChoices l)).map fun x => .panLower seq x
  | 0x12 => (whole (getNamed pansInOrder l)).map fun x => .clearPanFault seq x
  | 0x20 => (whole (getStart l)).map fun x => .changeoverStart seq x.1 x.2
  | 0x21 => bare (.changeoverProceed seq) l
  | 0x22 => bare (.changeoverAbort seq) l
  | 0x30 => (whole (getList getEntry l)).map fun x => .queueAppend seq x
  | 0x31 => bare (.queueFlush seq) l
  | 0x32 => (whole (getMarkerLoad l)).map fun x => .markerLoad seq x.1 x.2
  | 0x33 => (whole (get8 l)).map fun x => .markerFlush seq x
  | 0x40 => (whole (get8 l)).map fun x => .iceMode seq x
  | 0x50 => (whole (get8 l)).map fun x => .inputArm seq x
  | 0x51 => (whole (get8 l)).map fun x => .inputClear seq x
  | _ => none

/-! ## Frames of the Vehicle Link -/

/-- POSITION payload: 7 bytes. -/
def positionOf (payload : List Byte) : Instr :=
  if payload.length = 7 then
    .position (wordAt payload 0 * 65536 + wordAt payload 2) (wordAt payload 4) (byteAt payload 6).toNat
  else .vlBadFrame

/-- HEAD_COMMAND payload: at least 2 bytes, the first a role. -/
def headCommandOf (seq : Nat) : List Byte → Instr
  | role :: b :: rest =>
    match rolesInOrder[role.toNat]? with
    | some r => .headCommand seq r (b :: rest)
    | none => .vlBadFrame
  | _ => .vlBadFrame

/-- MGMT_REQUEST payload: at least its request code; what spells no request is answered RANGE (R192). -/
def managementOf (marker seq : Nat) : List Byte → Instr
  | code :: fields => (requestOf marker seq code.toNat fields).getD (.unknownRequest seq code.toNat)
  | [] => .vlBadFrame

/-- R188, R189: the command that a frame delimited on the Vehicle Link is. -/
def vehicleFrame (bytes : List Byte) : Instr :=
  match openFrame bytes with
  | none => .vlBadFrame
  | some (cls, flags, seq, payload) =>
    if cls = 0x01 then positionOf payload
    else if cls = 0x02 then managementOf (flags &&& 7).toNat seq.toNat payload
    else if cls = 0x03 then headCommandOf seq.toNat payload
    else .vlBadFrame

/-! ## Frames of a Head Link -/

/-- ANNOUNCE payload: 5 bytes. -/
def announceOf (port : Fin 8) (payload : List Byte) : Instr :=
  if payload.length = 5 then
    .announce port (byteAt payload 0).toNat (wordAt payload 1 * 65536 + wordAt payload 3)
  else .headBadFrame port

/-- The sixteen samples of a CELL payload. -/
def samplesOf (payload : List Byte) : List Int := (List.range 16).map fun k => signed16 (wordAt payload (2 + 2 * k))

/-- CELL payload: 36 bytes. -/
def cellOf (port : Fin 8) (payload : List Byte) : Instr :=
  if payload.length = 36 then
    .cell port (byteAt payload 0).toNat ((byteAt payload 1).getLsbD 0) (samplesOf payload) (wordAt payload 34)
  else .headBadFrame port

/-- R175: the command that a frame delimited on a port is; the length of a STATUS is judged at the port, by its role's
layout. -/
def headFrame (port : Fin 8) (bytes : List Byte) : Instr :=
  match openFrame bytes with
  | none => .headBadFrame port
  | some (cls, _, _, payload) =>
    if cls = 0x10 then announceOf port payload
    else if cls = 0x11 then (if payload.length ≤ 237 then .headStatus port payload else .headBadFrame port)
    else if cls = 0x12 then cellOf port payload
    else .headBadFrame port

/-! ## Writing a frame -/

/-- The frame that carries a management request: the block marker, the sequence, the code and the fields. -/
def requestFrame (marker seq code : Nat) (fields : List Byte) : List Byte :=
  frameBytes 0x02 (BitVec.ofNat 8 marker) seq (put8 code ++ fields)

/-- The frame of the Vehicle Link that carries a command, for the commands that a frame carries. -/
def vehicleBytes : Instr → Option (List Byte)
  | .position pos speed quality => some (frameBytes 0x01 0 0 (put32 pos ++ put16 speed ++ put8 quality))
  | .headCommand seq role payload => some (frameBytes 0x03 0 seq (putRole role ++ payload))
  | .loadTableFirst seq table records => some (requestFrame 1 seq 0x01 (put8 table ++ records))
  | .loadTableMiddle seq table records => some (requestFrame 2 seq 0x01 (put8 table ++ records))
  | .loadTableLast seq table records => some (requestFrame 3 seq 0x01 (put8 table ++ records))
  | .loadTableOnly seq table records => some (requestFrame 4 seq 0x01 (put8 table ++ records))
  | .readTable seq table start => some (requestFrame 0 seq 0x02 (put8 table ++ put8 start))
  | .readRecord seq record => some (requestFrame 0 seq 0x03 (put8 record))
  | .setModeStandby seq => some (requestFrame 0 seq 0x04 (put8 0))
  | .setModeRun seq => some (requestFrame 0 seq 0x04 (put8 1))
  | .restart seq => some (requestFrame 0 seq 0x05 [])
  | .clearCounters seq => some (requestFrame 0 seq 0x06 [])
  | .panRaise seq pan role profile => some (requestFrame 0 seq 0x10 (putPan pan ++ putPlace panRoles role ++ put8 profile))
  | .panLower seq pans => some (requestFrame 0 seq 0x11 (putPlace panChoices pans))
  | .clearPanFault seq pan => some (requestFrame 0 seq 0x12 (putPan pan))
  | .changeoverStart seq target raisePosition =>
    some (requestFrame 0 seq 0x20 (put8 target ++ putOption put32 raisePosition))
  | .changeoverProceed seq => some (requestFrame 0 seq 0x21 [])
  | .changeoverAbort seq => some (requestFrame 0 seq 0x22 [])
  | .queueAppend seq entries => some (requestFrame 0 seq 0x30 (putList putEntry entries))
  | .queueFlush seq => some (requestFrame 0 seq 0x31 [])
  | .markerLoad seq list actions => some (requestFrame 0 seq 0x32 (put8 list ++ putList putAction actions))
  | .markerFlush seq list => some (requestFrame 0 seq 0x33 (put8 list))
  | .iceMode seq setting => some (requestFrame 0 seq 0x40 (put8 setting))
  | .inputArm seq line => some (requestFrame 0 seq 0x50 (put8 line))
  | .inputClear seq line => some (requestFrame 0 seq 0x51 (put8 line))
  | .powerOnReset _ => none
  | .headLinkLightAppears _ => none
  | .headLinkLockAchieved _ => none
  | .headLinkLockLost _ => none
  | .headLinkLightLost _ => none
  | .headBadFrame _ => none
  | .announce _ _ _ => none
  | .headStatus _ _ => none
  | .cell _ _ _ _ _ => none
  | .roleSilenceExpiry _ => none
  | .stageDeadlineExpiry _ => none
  | .raiseDeadlineExpiry _ => none
  | .ventGuardExpiry _ => none
  | .lowerDeadlineExpiry _ => none
  | .moveDeadlineExpiry _ => none
  | .inputRawChange _ _ => none
  | .filterDeadlineExpiry _ => none
  | .holdDeadlineExpiry _ => none
  | .staleDeadlineExpiry => none
  | .triggerTimerExpiry => none
  | .raiseTimerExpiry => none
  | .verifyDeadlineExpiry => none
  | .vlLightAppears => none
  | .vlLockAchieved => none
  | .vlLockLost => none
  | .vlLightLost => none
  | .vlBadFrame => none
  | .vlSilenceExpiry => none
  | .mgmtRequestDiscarded => none
  | .statusTimerExpiry => none
  | .transmitterFree => none
  | .unknownRequest _ _ => none
  | .powerLoss => none

/-- The frame of a Head Link that carries a command, for the commands that a frame carries. -/
def headBytes : Instr → Option (List Byte)
  | .announce _ kind serial => some (frameBytes 0x10 0 0 (put8 kind ++ put32 serial))
  | .headStatus _ payload => some (frameBytes 0x11 0 0 payload)
  | .cell _ sequence fault samples current =>
    some (frameBytes 0x12 0 0 (put8 sequence ++ put8 (if fault then 1 else 0) ++ samples.flatMap putSigned16 ++ put16 current))
  | _ => none

/-- The class byte of an up frame. -/
def UpClass.byte : UpClass → Byte
  | .reply => 0x81
  | .report => 0x82
  | .status => 0x83
  | .telemetry => 0x84
  | .digest => 0x85

/-- An up frame as it leaves on the Vehicle Link. -/
def UpFrame.bytes (f : UpFrame) : List Byte := frameBytes f.cls.byte f.flags f.seq f.payload

/-- R183: a COMMAND frame as it leaves on a head port, `before` COMMAND frames having left before it. Its flags carry no marker
and no mark; its sequence is a free value (assumption log 57). -/
def SentCommand.bytes (before : Nat) (c : SentCommand) : List Byte :=
  frameBytes 0x13 0 (Config.commandSequence c.port before).toNat c.payload

end Sys2Proof.Machine
end

