-- ==== Sys2Proof/Machine/ReportOps.lean ====
section
/-! DEFINITION. The Report Unit (12): what the transmitter takes, and the STATUS timer. -/

namespace Sys2Proof.Machine

/-! ## Taking a frame (R203, R204) -/

/-- The frame taken is being sent. -/
def sendFrame (f : UpFrame) (a : Act) : Act := a.modRu fun u => { u with sending := some f }

/-- R203: a frame of the part's own accord carries the up sequence, which then increases. -/
def sendOwn (cls : UpClass) (flags : Byte) (payload : List Byte) (a : Act) : Act :=
  let seq := a.s.ru.upSequence
  sendFrame { cls, flags, seq, payload } (a.modRu fun u => { u with upSequence := (seq + 1) % 256 })

/-- R204 item 1: the reply at the head. -/
def takeReply (r : Reply) (a : Act) : Act :=
  sendFrame { cls := .reply, flags := 0, seq := r.seq, payload := replyPayload r }
    (a.modVl fun v => { v with replies := v.replies.drop 1 })

/-- R205, R206: the STATUS frame; it carries both marks as they stand and clears them. -/
def takeStatus (a : Act) : Act :=
  let payload := statusPayload a.s
  let flags : Byte := if a.s.ru.dropped then 0x20 else 0
  let a := (a.modRu fun u => { u with statusDue := false, dropped := false }).modVl fun v => { v with replyOverrun := false }
  sendOwn .status flags payload a

/-- R201: the report of a slot leaves it with its OVERRUN mark, which is cleared. -/
def takeSlot (i : Fin 44) (r : Report) (a : Act) : Act :=
  let noKind := Config.unnamedKind a.s.now a.s.ru.upSequence
  let payload := reportPayload noKind r a.s.ru.slots[i].overrun
  sendOwn .report 0 payload (a.modRu fun u => { u with slots := updAt u.slots i fun _ => {} })

/-- R19: up to sixteen entries leave the Window Digest FIFO, and OVERFLOW is carried and cleared. -/
def takeDigest (a : Act) : Act :=
  let entries := a.s.lm.digests.take 16
  let flags : Byte := if a.s.lm.overflow then 0x10 else 0
  sendOwn .digest flags (putList putDigest entries)
    (a.modLm fun l => { l with digests := l.digests.drop 16, overflow := false })

/-- R204 item 6: the head of the Telemetry Forward Queue. -/
def takeTelemetry (t : TelemetryItem) (a : Act) : Act :=
  sendOwn .telemetry 0 (telemetryPayload t) (a.modRu fun u => { u with telemetry := u.telemetry.drop 1 })

/-! ## The order of taking (R202, R204) -/

/-- The slots in which an urgent report may stand, in kind order: 0 to 13. -/
def urgentPlaces : List (Fin 44) := (List.finRange 44).take 14

/-- The slots in which a normal report may stand, in kind order: the HEAD_STATE slots come after the GATE slots. -/
def normalPlaces : List (Fin 44) :=
  ((List.finRange 44).drop 14).take 27 ++ ((List.finRange 44).drop 5).take 8 ++ (List.finRange 44).drop 41

/-- The slot's report is one of the class asked for. -/
def slotReport (u : ReportUnit) (urgent : Bool) (i : Fin 44) : Option (Fin 44 × Report) :=
  match u.slots[i].report with
  | none => none
  | some r => if slotUrgent i.val u.slots[i] = urgent then some (i, r) else none

/-- The first slot that the transmitter takes, if any holds a report: urgent before normal. -/
def firstSlot (u : ReportUnit) : Option (Fin 44 × Report) :=
  match urgentPlaces.findSome? (slotReport u true) with
  | some x => some x
  | none => normalPlaces.findSome? (slotReport u false)

/-- An item that waits for the transmitter. -/
inductive Waiting where
  | reply (r : Reply)
  | status
  | report (slot : Fin 44) (r : Report)
  | digest
  | telemetry (t : TelemetryItem)
deriving DecidableEq, Repr

/-- R204: the first item that waits, in its order, after a power-on reset too: a report made before the first STATUS frame is due
is taken at its arrival (R208, assumption log 58). -/
def firstWaiting (s : State) : Option Waiting :=
  match s.vl.replies with
  | r :: _ => some (.reply r)
  | [] =>
    if s.ru.statusDue then some .status
    else
      match firstSlot s.ru with
      | some (i, r) => some (.report i r)
      | none =>
        if (settings s).digestThreshold ≤ s.lm.digests.length then some .digest
        else s.ru.telemetry.head?.map .telemetry

/-- R203: the transmitter may take a frame. -/
def mayTake (s : State) : Bool := s.ru.sending.isNone && s.vl.link == .locked

/-- R203, R204: what the transmitter takes, if it takes something. -/
def taken (s : State) : Option Waiting := if mayTake s then firstWaiting s else none

/-- R203: an item is taken. -/
def takeItem (w : Waiting) (a : Act) : Act :=
  match w with
  | .reply r => takeReply r a
  | .status => takeStatus a
  | .report i r => takeSlot i r a
  | .digest => takeDigest a
  | .telemetry t => takeTelemetry t a

/-- R198: the item is the reply of the RESTART that is pending. -/
def isRestart (s : State) : Waiting → Bool
  | .reply r => s.vl.restartPending && r.code == 0x05 && r.result == .done
  | .status => false
  | .report _ _ => false
  | .digest => false
  | .telemetry _ => false

/-! ## Timer and RESTART (R205, R208) -/

/-- R205: the status timer expired. -/
def statusExpired (a : Act) : Act :=
  let next := a.s.now + (settings a.s).statusPeriod
  a.modRu fun u => { u with statusDue := true, statusTimer := next }

/-- R208: RESTART empties every slot, at its end (assumption log 20). -/
def emptySlots (a : Act) : Act := a.modRu fun u => { u with slots := Vector.replicate 44 {} }

/-- The transmitter has sent its frame. -/
def transmitterDone (a : Act) : Act := a.modRu fun u => { u with sending := none }

end Sys2Proof.Machine
end

