-- ==== Sys2Proof/Machine/Cascade.lean ====
section
/-! DEFINITION. How an act is completed: each block takes the notes for it, until none is left; the transmitter, if it is
free, takes the first waiting item; and the take of a RESTART reply brings the RESTART about in the same act. -/

namespace Sys2Proof.Machine

/-- A block takes a note. -/
def takeNote (n : Note) (a : Act) : Act :=
  match n with
  | .lineJoin samples current => joinWindow samples current a
  | .lineLost => lineLost a
  | .panMb p => testAwaitMb p false a
  | .panHold p => updateHold p a
  | .panHeadLost p => panHeadLost p a
  | .panLowerBoth cause kind => (lowerBoth cause kind a).1
  | .tripRelease => evaluateTrip a
  | .switchgearLost => switchgearLost a
  | .mbOpenProtect => requestMbOpen .protection a
  | .coLine => testVerifying a
  | .coSwitch => coSwitch a
  | .coGaveUp d t => coGaveUp d t a
  | .coPan p new cause => coPan p new cause a
  | .coPosition => testAwaitRaise a
  | .coStale => raiseStale a
  | .coRole role present => coRole role present a
  | .coStandby => abortOnEvent .standby a
  | .coLinkLost => abortOnEvent .linkLost a
  | .iceEvaluate trigger => iceEvent trigger a
  | .iceArc => arcAppended a
  | .iceAllocate => allocate a
  | .heaterLost => heaterLost a
  | .climateLost => climateLost a
  | .gateReview => reviewHolds a
  | .gateRoleLost role => holdHeadLost role a
  | .routeRun => evaluateQueue a
  | .routeStandby => routeStandby a

/-- R153: the silence of the Vehicle Link and a pantograph's lowering may reach the Changeover Sequencer in either order. -/
def silenceAndPan : Note → Note → Bool
  | .coLinkLost, .coPan _ _ _ => true
  | .coPan _ _ _, .coLinkLost => true
  | _, _ => false

/-- A note by which a cell's later stages wait behind everything that its first stage has told (R6, R31; assumption log 51). -/
def Note.isJoin : Note → Bool
  | .lineJoin _ _ => true
  | _ => false

/-- Two notes are taken in the order in which they came: they are for one block, and are not the two that R153 leaves free; or
the later one is a cell's join. -/
def inOrder (m n : Note) : Bool := n.isJoin || !m.isJoin && m.reader == n.reader && !silenceAndPan m n

/-- One of the notes that wait is taken, the one that the next choice picks (assumption log 3), or the oldest; the notes it
gives rise to wait behind the others. -/
def takeNext (a : Act) : Act :=
  match pickOrder inOrder 1 a.s.choices a.notes with
  | (n :: rest, cs) => takeNote n (({ a with notes := rest } : Act).setChoices cs)
  | ([], _) => a

/-- Notes are taken until none waits; the first argument bounds their number (assumption log 5). -/
def settle : Nat → Act → Act
  | 0, a => { a with notes := [] }
  | fuel + 1, a => if a.notes.isEmpty then a else settle fuel (takeNext a)

/-- The bound of the notes of one act. -/
def noteBound : Nat := 65536

/-- R198: the effects of RESTART, block by block (assumption log 21): the hold slots and the Changeover Record first, as R113
and R156 ask. -/
def restartEffects (a : Act) : Act :=
  let a := a.modHolds fun _ => Vector.replicate 8 none
  let a := restartChangeover a
  let a := a.modVl fun v => { v with restartPending := false, mode := .standby }
  let a := requestMbOpen .protection (restartPans (restartLine a))
  restartIce (restartRoute (disarmLatches a))

/-- What remains of an act once its event has been taken; the take is its last part (assumption log 6). -/
def complete (a : Act) : Act :=
  let a := settle noteBound a
  match taken a.s with
  | none => a
  | some w =>
    if isRestart a.s w then emptySlots (settle noteBound (restartEffects (takeItem w a)))
    else takeItem w a

/-- An event taken by the part as one act: nothing while it is unpowered (assumption log 10). -/
def perform (f : Act → Act) (s : State) : Host.Outcome State Fault Refusal :=
  if s.powered then .next (complete (f { s })).s else .next s

end Sys2Proof.Machine
end

