-- ==== Sys2Proof/Machine/TableOps.lean ====
section
/-! DEFINITION. Table loading (11): the three parts of a load, which the block markers combine, and what each table's load
does to the blocks that use it. -/

namespace Sys2Proof.Machine

/-! ## A table by its identifier -/

/-- R193: a table is discarded and LOADING. -/
def Table.discard {ρ : Type} (_ : Table ρ) : Table ρ := { load := .loading, records := [] }

/-- What appending a block came to. -/
structure Appending where
  clamped : Nat := 0
  failure : Option (Reason × Nat) := none
  held : Nat := 0
deriving DecidableEq, Repr

/-- R193: a block's records are appended. -/
def Table.append {ρ : Type} (f : TableForm ρ) (bytes : List Byte) (t : Table ρ) : Table ρ × Appending :=
  let r := appendRecords f bytes.length t.records 0 bytes
  ({ load := r.failure.elim t.load fun x => .invalid x.1 x.2, records := r.records },
   { clamped := r.clamped, failure := r.failure, held := r.records.length })

/-- R193: the table is validated. -/
def Table.validated {ρ : Type} (f : TableForm ρ) (t : Table ρ) : Table ρ × Option (Reason × Nat) :=
  let failure := validate f t.records
  ({ t with load := failure.elim .valid fun x => .invalid x.1 x.2 }, failure)

/-- The load state of the table with an identifier. -/
def loadOf (ts : Tables) : Nat → LoadState
  | 0 => ts.directory.load
  | 1 => ts.gate.load
  | 2 => ts.system.load
  | 3 => ts.profiles.load
  | 4 => ts.inputs.load
  | 5 => ts.settings.load
  | 6 => ts.heater.load
  | _ => ts.climate.load

/-- The table with an identifier is discarded. -/
def discardIn (ts : Tables) : Nat → Tables
  | 0 => { ts with directory := ts.directory.discard }
  | 1 => { ts with gate := ts.gate.discard }
  | 2 => { ts with system := ts.system.discard }
  | 3 => { ts with profiles := ts.profiles.discard }
  | 4 => { ts with inputs := ts.inputs.discard }
  | 5 => { ts with settings := ts.settings.discard }
  | 6 => { ts with heater := ts.heater.discard }
  | _ => { ts with climate := ts.climate.discard }

/-- A block joins the table with an identifier. -/
def appendIn (bytes : List Byte) (ts : Tables) : Nat → Tables × Appending
  | 0 => let r := ts.directory.append directoryForm bytes; ({ ts with directory := r.1 }, r.2)
  | 1 => let r := ts.gate.append gateForm bytes; ({ ts with gate := r.1 }, r.2)
  | 2 => let r := ts.system.append systemForm bytes; ({ ts with system := r.1 }, r.2)
  | 3 => let r := ts.profiles.append profileForm bytes; ({ ts with profiles := r.1 }, r.2)
  | 4 => let r := ts.inputs.append inputForm bytes; ({ ts with inputs := r.1 }, r.2)
  | 5 => let r := ts.settings.append settingsForm bytes; ({ ts with settings := r.1 }, r.2)
  | 6 => let r := ts.heater.append heaterForm bytes; ({ ts with heater := r.1 }, r.2)
  | _ => let r := ts.climate.append climateForm bytes; ({ ts with climate := r.1 }, r.2)

/-- The table with an identifier is validated. -/
def validateIn (ts : Tables) : Nat → Tables × Option (Reason × Nat)
  | 0 => let r := ts.directory.validated directoryForm; ({ ts with directory := r.1 }, r.2)
  | 1 => let r := ts.gate.validated gateForm; ({ ts with gate := r.1 }, r.2)
  | 2 => let r := ts.system.validated systemForm; ({ ts with system := r.1 }, r.2)
  | 3 => let r := ts.profiles.validated profileForm; ({ ts with profiles := r.1 }, r.2)
  | 4 => let r := ts.inputs.validated inputForm; ({ ts with inputs := r.1 }, r.2)
  | 5 => let r := ts.settings.validated settingsForm; ({ ts with settings := r.1 }, r.2)
  | 6 => let r := ts.heater.validated heaterForm; ({ ts with heater := r.1 }, r.2)
  | _ => let r := ts.climate.validated climateForm; ({ ts with climate := r.1 }, r.2)

/-- The tables change. -/
def Act.setTables (ts : Tables) (a : Act) : Act := a.modVl fun v => { v with tables := ts }

/-! ## What a load does to the users of a table -/

/-- A table has been discarded: HEAD_DIRECTORY and GATE refuse what is held (R104), and a table that left VALID is felt by
its users (R28, R85, R88, R178). -/
def discarded (id : Nat) (before : State) (a : Act) : Act :=
  let wasValid := loadOf before.vl.tables id = .valid
  match id with
  | 0 =>
    let a := refuseHeldForTable a
    if wasValid then directoryGone a else a
  | 1 => refuseHeldForTable a
  | 2 => if wasValid then systemTableGone a else a
  | 4 => if wasValid then disarmLatches (relevel before a) else a
  | _ => a

/-- A table has become VALID (R28, R85, R178). -/
def becameValid (id : Nat) (before : State) (a : Act) : Act :=
  match id with
  | 0 => directoryValid a
  | 2 => systemTableValid a
  | 4 => relevel before a
  | _ => a

/-- A part of a load is over: a change of the settings in force is felt (R11, R34, R194), and a change of the load state of
SYSTEM or HEATER recomputes the heater allocation (R169). -/
def partDone (id : Nat) (before : State) (a : Act) : Act :=
  let a := if id = 5 then lineSettingsChanged (settings before) a else a
  if (id = 2 ∨ id = 6) ∧ loadOf before.vl.tables id ≠ loadOf a.s.vl.tables id then allocate a else a

/-! ## The parts of a load (R193) -/

/-- The answer to a request: its result, the CLAMPED count and the reply data. -/
structure Answered where
  result : Result
  clamped : Nat := 0
  data : List Byte := []
deriving DecidableEq, Repr

/-- The reply of a table that is INVALID. -/
def invalidReply (clamped : Nat) (failure : Reason × Nat) : Answered :=
  { result := .tableInvalid, clamped, data := putPlace validationReasons failure.1 ++ put8 failure.2 }

/-- The discarding that a FIRST or ONLY begins with. -/
def discardPart (id : Nat) (a : Act) : Act :=
  partDone id a.s (discarded id a.s (a.setTables (discardIn a.s.vl.tables id)))

/-- The appending of a block, which is the whole of a MIDDLE and the end of a FIRST. -/
def appendPart (id : Nat) (bytes : List Byte) (a : Act) : Act × Answered :=
  let r := appendIn bytes a.s.vl.tables id
  let a := partDone id a.s (a.setTables r.1)
  match r.2.failure with
  | some failure => (a, invalidReply r.2.clamped failure)
  | none => (a, { result := .accepted, clamped := r.2.clamped, data := put8 r.2.held })

/-- The appending of a block and the validation, which is the whole of a LAST and the end of an ONLY. -/
def lastPart (id : Nat) (bytes : List Byte) (a : Act) : Act × Answered :=
  match appendPart id bytes a with
  | (a, answer) =>
    if answer.result = .accepted then
      let before := a.s
      let r := validateIn a.s.vl.tables id
      let a := partDone id before (a.setTables r.1)
      match r.2 with
      | some failure => (a, invalidReply answer.clamped failure)
      | none => (becameValid id before a, { result := .done, clamped := answer.clamped })
    else (a, answer)

/-! ## The block markers -/

/-- R193: the answer that refuses a load at all, if one does: a table outside the eight, or the mode RUN (assumption
log 13). -/
def loadRefusal (s : State) (id : Nat) : Option Result :=
  if 8 ≤ id then some .range else if s.vl.mode = .run then some .mode else none

/-- A load that is not refused. -/
def guardLoad (id : Nat) (body : Act → Act × Answered) (a : Act) : Act × Answered :=
  match loadRefusal a.s id with
  | some r => (a, { result := r })
  | none => body a

/-- R193: MIDDLE and LAST need a table in LOADING. -/
def whileLoading (id : Nat) (body : Act → Act × Answered) (a : Act) : Act × Answered :=
  if loadOf a.s.vl.tables id = .loading then body a else (a, { result := .sequence })

/-- R193: a FIRST block. -/
def loadFirst (id : Nat) (bytes : List Byte) : Act → Act × Answered :=
  guardLoad id fun a => appendPart id bytes (discardPart id a)

/-- R193: a MIDDLE block. -/
def loadMiddle (id : Nat) (bytes : List Byte) : Act → Act × Answered :=
  guardLoad id (whileLoading id (appendPart id bytes))

/-- R193: a LAST block. -/
def loadLast (id : Nat) (bytes : List Byte) : Act → Act × Answered :=
  guardLoad id (whileLoading id (lastPart id bytes))

/-- R193: an ONLY block: a FIRST followed by a LAST in one act, so that the table leaves VALID and its users feel it (R194;
assumption log 19 for INPUT_MAP). The blocks that the FIRST part tells, those of a role that leaves PRESENT (R178) and the
readers of the confirmed state (R28) among them, act after the LAST part and find the new table: DESIGN CHOICE, for the rule does
not say (assumption log 70). -/
def loadOnly (id : Nat) (bytes : List Byte) : Act → Act × Answered :=
  guardLoad id fun a => lastPart id bytes (discardPart id a)

/-! ## Reading (R195) -/

/-- R195: READ_TABLE. -/
def readTableRequest (id start : Nat) (a : Act) : Act × Answered :=
  match readTableOf a.s.vl.tables start id with
  | some data => (a, { result := .done, data })
  | none => (a, { result := .range })

/-- R195: READ_RECORD. -/
def readRecordRequest (id : Nat) (a : Act) : Act × Answered :=
  match readRecord a.s id with
  | some data => (a, { result := .done, data })
  | none => (a, { result := .range })

end Sys2Proof.Machine
end

