-- ==== Sys2Proof/Machine/LinkOps.lean ====
section
/-! DEFINITION. The Vehicle Link Interface (11): the link, silence, the request envelope, the modes, RESTART and
CLEAR_COUNTERS. -/

namespace Sys2Proof.Machine

/-! ## Link events (R188, R190) -/

/-- R188: the link enters DOWN or ACQUIRING. -/
def VehicleLink.unlocked (v : VehicleLink) (link : VlLink) : VehicleLink := { v with link, badRun := 0 }

/-- R188: light appears. -/
def vlLight (a : Act) : Act := if a.s.vl.link = .down then a.modVl fun v => v.unlocked .acquiring else a

/-- R188: lock achieved. -/
def vlLock (a : Act) : Act := if a.s.vl.link = .acquiring then a.modVl fun v => { v with link := .locked } else a

/-- R188: lock lost while light remains. -/
def vlUnlock (a : Act) : Act := if a.s.vl.link = .locked then a.modVl fun v => v.unlocked .acquiring else a

/-- R188: light disappears. -/
def vlDark (a : Act) : Act := a.modVl fun v => v.unlocked .down

/-- R188: a bad frame; none is delimited while the link is not LOCKED. -/
def vlBad (a : Act) : Act :=
  if a.s.vl.link = .locked then
    a.modVl fun v =>
      let v := { v with badFrames := bump16 v.badFrames, badRun := v.badRun + 1 }
      if 8 ≤ v.badRun then v.unlocked .acquiring else v
  else a

/-- R188, R190: a valid down frame ends the bad run and restarts silence. -/
def downFrame (a : Act) : Act :=
  let deadline := a.s.now + (settings a.s).vlSilence
  a.modVl fun v => { v with badRun := 0, active := true, silenceDeadline := some deadline }

/-- R189: a down frame is taken while the link is LOCKED (assumption log 8). -/
def onFrame (f : Act → Act) (a : Act) : Act := if a.s.vl.link = .locked then f (downFrame a) else a

/-- R190: the silence deadline expired. -/
def vlSilent (a : Act) : Act :=
  let a := a.modVl fun v => { v with active := false, silenceDeadline := none }
  if (settings a.s).policy = .named .lower then a.notify [.panLowerBoth .protect .orderly, .coLinkLost] else a

/-! ## Request envelope (R191, R192) -/

/-- A reply joins the tail of the Reply Queue. -/
def reply (seq code : Nat) (r : Answered) (a : Act) : Act :=
  a.modVl fun v =>
    { v with replies := v.replies ++ [{ seq, code, result := r.result, clamped := r.clamped, data := r.data }] }

/-- R191: a request at a full Reply Queue. -/
def discardRequest (a : Act) : Act := a.modVl fun v => { v with replyOverrun := true }

/-- R191: the Reply Queue is full. -/
def repliesFull (s : State) : Bool := decide (replyCapacity ≤ s.vl.replies.length)

/-- R189 to R192: a management request with its code; `pending` is what it answers while a RESTART is pending (assumption
log 12). -/
def requestWith (pending : Result) (seq code : Nat) (owner : Act → Act × Answered) : Act → Act :=
  onFrame fun a =>
    if repliesFull a.s then discardRequest a
    else if a.s.vl.restartPending then reply seq code { result := pending } a
    else
      match owner a with
      | (a, answer) => reply seq code answer a

/-- R192: a request other than RESTART. -/
def request (seq code : Nat) (owner : Act → Act × Answered) : Act → Act := requestWith .busy seq code owner

/-- An owner that answers with a result alone. -/
def plain (f : Act → Act × Result) (a : Act) : Act × Answered :=
  match f a with
  | (a, result) => (a, { result })

/-- The reply of a raise: INTERLOCK names the failed condition. -/
def raiseReply (f : Act → Act × RaiseAnswer) (a : Act) : Act × Answered :=
  match f a with
  | (a, r) => (a, { result := r.result, data := (r.failed.map putFailed).getD [] })

/-- The reply of a route request: DONE carries a number, MARKER_IN_USE a marker. -/
def routeReply (f : Act → Act × RouteAnswer) (a : Act) : Act × Answered :=
  match f a with
  | (a, r) => (a, { result := r.result, data := (r.number.map put8).getD [] })

/-- R63: the reply of a PAN_LOWER. -/
def lowerReply (pans : PanChoice) (a : Act) : Act × Answered :=
  match lowerChoice pans a with
  | (a, began) => (a, { result := if began then .accepted else .already })

/-- R161: the reply of an ICE_MODE carries the state that results, where the setting was one. -/
def iceReply (setting : Nat) (a : Act) : Act × Answered :=
  match takeIceMode setting a with
  | (a, .range) => (a, { result := .range })
  | (a, r) => (a, { result := r, data := putPlace iceStates a.s.ice.state })

/-- R90: the reply of an INPUT_CLEAR carries the latched edge, where there was one (assumption log 40). -/
def clearReply (line : Nat) (a : Act) : Act × Answered :=
  match clearLine line a with
  | (a, .done, some (e, p)) => (a, { result := .done, data := putOption (fun x => putPlace edges x ++ putPosition p) (some e) })
  | (a, .done, none) => (a, { result := .done, data := [0] })
  | (a, r, _) => (a, { result := r })

/-! ## Modes (R196, R197) -/

/-- A pantograph is named by some pan set of the SYSTEM table. -/
def panNamed (s : State) (p : Pan) : Bool :=
  (validRecords s.vl.tables.system).any fun r => r.panSet.test fun set => set.holds p

/-- The INPUT_MAP assigns a function to a line. -/
def functionAssigned (s : State) (f : InputFunction) : Bool :=
  (validRecords s.vl.tables.inputs).any fun r => r.function == .named f

/-- R177: DIRECTORY_ROLES. -/
def directoryRoles (s : State) : Bool :=
  (directoryOfRole s .switchgear).isSome && (directoryOfRole s .line).isSome
    && ((directoryOfRole s .panA).isSome || (directoryOfRole s .panB).isSome)

/-- R27: SYSTEM_PANS. -/
def systemPans (s : State) : Bool := pansInOrder.all fun p => !panNamed s p || (directoryOfRole s (panRole p)).isSome

/-- R27: SYSTEM_PROFILE. -/
def systemProfile (s : State) : Bool :=
  (validRecords s.vl.tables.system).all fun r =>
    (profileRecord s r.raiseProfile).isSome && r.scrapeProfile.all fun n => (profileRecord s n).isSome

/-- R87: INPUT_CONTACTS. -/
def inputContacts (s : State) : Bool :=
  pansInOrder.all fun p => !panNamed s p || (functionAssigned s (upFunction p) && functionAssigned s (downFunction p))

/-- R196: the RUN entry checks in their order, each with the byte that NOT_READY names it by. -/
def entryChecks (s : State) : List (Nat × Bool) :=
  [(0, s.vl.tables.directory.load == .valid), (1, s.vl.tables.gate.load == .valid), (2, s.vl.tables.system.load == .valid),
   (3, s.vl.tables.profiles.load == .valid), (4, s.vl.tables.inputs.load == .valid), (5, s.vl.tables.settings.load == .valid),
   (8, directoryRoles s), (9, systemPans s), (10, systemProfile s), (11, inputContacts s)]

/-- R196: the first entry check that fails. -/
def failedEntryCheck (s : State) : Option Nat := ((entryChecks s).find? fun c => !c.2).map (·.1)

/-- The mode changes. -/
def setMode (m : Mode) (a : Act) : Act := a.modVl fun v => { v with mode := m }

/-- R196: SET_MODE RUN. -/
def modeRun (a : Act) : Act × Answered :=
  if a.s.vl.mode = .run then (a, { result := .already })
  else
    match failedEntryCheck a.s with
    | some check => (a, { result := .notReady, data := put8 check })
    | none =>
      (((setMode .run a).modIce fun i => { i with holdOff := false }).notify [.routeRun, .iceEvaluate .mode, .gateReview],
       { result := .done })

/-- R197: SET_MODE STANDBY. -/
def modeStandby (a : Act) : Act × Answered :=
  if a.s.vl.mode = .standby then (a, { result := .already })
  else
    ((setMode .standby a).notify
      [.panLowerBoth .standby .orderly, .mbOpenProtect, .coStandby, .iceEvaluate .mode, .routeStandby, .gateReview],
     { result := .done })

/-! ## RESTART and CLEAR_COUNTERS (R198, R199) -/

/-- R198: a RESTART is taken. -/
def beginRestart (a : Act) : Act × Answered := (a.modVl fun v => { v with restartPending := true }, { result := .done })

/-- R199: CLEAR_COUNTERS. -/
def clearCounts (a : Act) : Act × Answered :=
  let a := a.modVl fun v => { v with badFrames := 0 }
  let a := a.modLm fun l => { l with gapCount := 0 }
  let a := a.modInputs fun v => v.map fun r => { r with bounce := 0 }
  let a := a.modPorts fun v => v.map fun r => { r with badFrames := 0 }
  let a := a.modRoles fun v => v.map fun r => { r with undelivered := 0 }
  (a.modPr fun r => { r with position := { r.position with jumps := 0 } }, { result := .done })

/-- R192: a request that names no request, or whose fields are not well encoded. -/
def unknown (a : Act) : Act × Answered := (a, { result := .range })

end Sys2Proof.Machine
end

