-- ==== Sys2Proof/Machine/Clock.lean ====
section
/-! DEFINITION. The clock: the deadlines that run, what an expiry command does, and the idle step (assumption logs 1, 2). -/

namespace Sys2Proof.Machine

/-! ## Expiry commands -/

/-- A deadline expires: the clock stands at least at the deadline, and its owner acts. Where the deadline does not run, its
expiry does not occur. -/
def atDeadline (deadline : Option Nat) (effect : Act → Act) (a : Act) : Act :=
  match deadline with
  | none => a
  | some t => effect (a.setNow (max a.s.now t))

/-! ## The deadlines that run -/

/-- A deadline with the command that is its expiry. -/
def timed (c : Instr) (deadline : Option Nat) : List (Nat × Instr) :=
  match deadline with
  | none => []
  | some t => [(t, c)]

/-- The deadlines of one pantograph. -/
def panDeadlines (s : State) (p : Pan) : List (Nat × Instr) :=
  let r := panOf s p
  timed (.stageDeadlineExpiry p) r.stageDeadline ++ timed (.raiseDeadlineExpiry p) r.raiseDeadline
    ++ timed (.ventGuardExpiry p) r.ventGuard ++ timed (.lowerDeadlineExpiry p) r.lowerDeadline

/-- Every deadline that runs, with its expiry. -/
def deadlines (s : State) : List (Nat × Instr) :=
  rolesInOrder.flatMap (fun r => timed (.roleSilenceExpiry r) (roleOf s r).silenceDeadline)
    ++ pansInOrder.flatMap (panDeadlines s)
    ++ devsInOrder.flatMap (fun d => timed (.moveDeadlineExpiry d) ((devOf s d).move.map (·.deadline)))
    ++ (List.finRange 12).flatMap (fun l => timed (.filterDeadlineExpiry l) s.inputs[l].deadline)
    ++ slotRoles.flatMap (fun r => timed (.holdDeadlineExpiry r) ((holdOf s r).map (·.deadline)))
    ++ timed .staleDeadlineExpiry s.pr.position.staleDeadline ++ timed .triggerTimerExpiry s.pr.triggerTimer
    ++ timed .raiseTimerExpiry s.co.raiseTimer ++ timed .verifyDeadlineExpiry s.co.verifyDeadline
    ++ timed .vlSilenceExpiry s.vl.silenceDeadline ++ timed .statusTimerExpiry (some s.ru.statusTimer)

/-- The earliest deadlines that have come. -/
def dueNow (s : State) : List (Nat × Instr) :=
  let due := (deadlines s).filter fun x => decide (x.1 ≤ s.now)
  due.filter fun x => due.all fun y => decide (x.1 ≤ y.1)

/-! ## The idle step -/

/-- The step of an empty queue: the expiry of an earliest deadline that has come joins the queue, picked by the choices where
there are several; where none has come, a millisecond passes (assumption logs 1, 4). An unpowered part does nothing. -/
def idle (s : State) : State :=
  if s.powered then
    match pickOrder (fun x y => x == y) 1 s.choices (dueNow s) with
    | ([], choices) => { s with now := s.now + 1, choices }
    | ((_, c) :: _, choices) => { s with pending := [c], choices }
  else s

end Sys2Proof.Machine
end

