-- ==== Sys2Proof/Machine/HeadCommands.lean ====
section
/-! DEFINITION. The commands of the Head Links: receiver events, frames of the heads, and the silence of a role (10). -/

namespace Sys2Proof.Machine

/-- HEAD_LINK_LIGHT_APPEARS (R174). -/
def execHeadLinkLightAppears (port : Fin 8) (s : State) : Host.Outcome State Fault Refusal := perform (portLight port) s

/-- HEAD_LINK_LOCK_ACHIEVED (R174). -/
def execHeadLinkLockAchieved (port : Fin 8) (s : State) : Host.Outcome State Fault Refusal := perform (portLock port) s

/-- HEAD_LINK_LOCK_LOST (R174, R180). -/
def execHeadLinkLockLost (port : Fin 8) (s : State) : Host.Outcome State Fault Refusal := perform (portLockLost port) s

/-- HEAD_LINK_LIGHT_LOST (R174, R180). -/
def execHeadLinkLightLost (port : Fin 8) (s : State) : Host.Outcome State Fault Refusal := perform (portDark port) s

/-- HEAD_BAD_FRAME (R175). -/
def execHeadBadFrame (port : Fin 8) (s : State) : Host.Outcome State Fault Refusal := perform (portBadFrame port) s

/-- ANNOUNCE (R176). -/
def execAnnounce (port : Fin 8) (kind serial : Nat) (s : State) : Host.Outcome State Fault Refusal :=
  perform (announce port kind serial) s

/-- HEAD_STATUS (R179). -/
def execHeadStatus (port : Fin 8) (payload : List Byte) (s : State) : Host.Outcome State Fault Refusal :=
  perform (headStatusFrame port payload) s

/-- CELL (R1 to R6, R179). -/
def execCell (port : Fin 8) (sequence : Nat) (dividerFault : Bool) (samples : List Int) (current : Nat) (s : State) :
    Host.Outcome State Fault Refusal :=
  perform (cellFrame port sequence dividerFault samples current) s

/-- ROLE_SILENCE_EXPIRY (R180). -/
def execRoleSilenceExpiry (role : Role) (s : State) : Host.Outcome State Fault Refusal :=
  perform (atDeadline (roleOf s role).silenceDeadline (loseRole role .silence)) s

/-- HEAD_COMMAND (R95, R189); a frame with no head COMMAND payload is bad (R188). -/
def execHeadCommand (seq : Nat) (role : Role) (payload : List Byte) (s : State) : Host.Outcome State Fault Refusal :=
  perform (if payload.isEmpty then vlBad else onFrame (vehicleCommand seq role payload)) s

/-- HOLD_DEADLINE_EXPIRY (R108). -/
def execHoldDeadlineExpiry (role : Role) (s : State) : Host.Outcome State Fault Refusal :=
  perform (atDeadline ((holdOf s role).map (·.deadline)) (expireHold role)) s

end Sys2Proof.Machine
end

