-- ==== Sys2Proof/Machine/LinkCommands.lean ====
section
/-! DEFINITION. The commands of the Vehicle Link, the tables, the modes, the transmitter and the supply (11, 12). -/

namespace Sys2Proof.Machine

/-- The raw level that a pattern of levels gives a line. -/
def levelOf (levels : LineLevels) (line : Fin 12) : Level := if levels.getLsbD line.val then .high else .low

/-- R93, R200: the state right after a power-on reset that reads the raw levels given; the queue, the order choices and the
commands already sent stand (assumption log 11). -/
def afterReset (levels : LineLevels) (s : State) : State :=
  { State.reset with
    inputs := Vector.ofFn fun line => { raw := levelOf levels line }
    sent := s.sent
    choices := s.choices
    pending := s.pending }

/-- POWER_ON_RESET (R200). -/
def execPowerOnReset (levels : LineLevels) (s : State) : Host.Outcome State Fault Refusal := .next (afterReset levels s)

/-- POWER_LOSS (R91): every output contact opens, and the part takes nothing until the next power-on reset. -/
def execPowerLoss (s : State) : Host.Outcome State Fault Refusal := .next { s with powered := false }

/-- VL_LIGHT_APPEARS (R188). -/
def execVlLightAppears (s : State) : Host.Outcome State Fault Refusal := perform vlLight s

/-- VL_LOCK_ACHIEVED (R188). -/
def execVlLockAchieved (s : State) : Host.Outcome State Fault Refusal := perform vlLock s

/-- VL_LOCK_LOST (R188). -/
def execVlLockLost (s : State) : Host.Outcome State Fault Refusal := perform vlUnlock s

/-- VL_LIGHT_LOST (R188). -/
def execVlLightLost (s : State) : Host.Outcome State Fault Refusal := perform vlDark s

/-- VL_BAD_FRAME (R188). -/
def execVlBadFrame (s : State) : Host.Outcome State Fault Refusal := perform vlBad s

/-- VL_SILENCE_EXPIRY (R190). -/
def execVlSilenceExpiry (s : State) : Host.Outcome State Fault Refusal :=
  perform (atDeadline s.vl.silenceDeadline vlSilent) s

/-- MGMT_REQUEST_DISCARDED (R191): a request at a full Reply Queue; at one that is not full none is discarded (assumption
log 9). -/
def execMgmtRequestDiscarded (s : State) : Host.Outcome State Fault Refusal :=
  perform (fun a => if repliesFull a.s then onFrame discardRequest a else a) s

/-- LOAD_TABLE_FIRST (R193). -/
def execLoadTableFirst (seq table : Nat) (records : List Byte) (s : State) : Host.Outcome State Fault Refusal :=
  perform (request seq 0x01 (loadFirst table records)) s

/-- LOAD_TABLE_MIDDLE (R193). -/
def execLoadTableMiddle (seq table : Nat) (records : List Byte) (s : State) : Host.Outcome State Fault Refusal :=
  perform (request seq 0x01 (loadMiddle table records)) s

/-- LOAD_TABLE_LAST (R193). -/
def execLoadTableLast (seq table : Nat) (records : List Byte) (s : State) : Host.Outcome State Fault Refusal :=
  perform (request seq 0x01 (loadLast table records)) s

/-- LOAD_TABLE_ONLY (R193). -/
def execLoadTableOnly (seq table : Nat) (records : List Byte) (s : State) : Host.Outcome State Fault Refusal :=
  perform (request seq 0x01 (loadOnly table records)) s

/-- READ_TABLE (R195). -/
def execReadTable (seq table start : Nat) (s : State) : Host.Outcome State Fault Refusal :=
  perform (request seq 0x02 (readTableRequest table start)) s

/-- READ_RECORD (R195). -/
def execReadRecord (seq record : Nat) (s : State) : Host.Outcome State Fault Refusal :=
  perform (request seq 0x03 (readRecordRequest record)) s

/-- SET_MODE naming RUN (R196). -/
def execSetModeRun (seq : Nat) (s : State) : Host.Outcome State Fault Refusal := perform (request seq 0x04 modeRun) s

/-- SET_MODE naming STANDBY (R197). -/
def execSetModeStandby (seq : Nat) (s : State) : Host.Outcome State Fault Refusal := perform (request seq 0x04 modeStandby) s

/-- RESTART (R198): while one is pending the answer is ALREADY (R192). -/
def execRestart (seq : Nat) (s : State) : Host.Outcome State Fault Refusal :=
  perform (requestWith .already seq 0x05 beginRestart) s

/-- CLEAR_COUNTERS (R199). -/
def execClearCounters (seq : Nat) (s : State) : Host.Outcome State Fault Refusal := perform (request seq 0x06 clearCounts) s

/-- STATUS_TIMER_EXPIRY (R205). -/
def execStatusTimerExpiry (s : State) : Host.Outcome State Fault Refusal :=
  perform (atDeadline (some s.ru.statusTimer) statusExpired) s

/-- TRANSMITTER_FREE (R203, R204). -/
def execTransmitterFree (s : State) : Host.Outcome State Fault Refusal := perform transmitterDone s

/-- A management request whose code names no request, or whose fields are not well encoded (R192). While a RESTART is pending it
is a request other than RESTART and gives BUSY, also where it has RESTART's code 0x05 and a field that RESTART's layout does not
have: DESIGN CHOICE (assumption log 67). -/
def execUnknownRequest (seq code : Nat) (s : State) : Host.Outcome State Fault Refusal := perform (request seq code unknown) s

end Sys2Proof.Machine
end

