-- ==== Sys2Proof/Machine/RoofCommands.lean ====
section
/-! DEFINITION. The commands of the pantographs, the switchgear and the discrete lines (03, 04, 05). -/

namespace Sys2Proof.Machine

/-- PAN_RAISE (R44). -/
def execPanRaise (seq : Nat) (pan : Pan) (role : PanRole) (profile : Nat) (s : State) : Host.Outcome State Fault Refusal :=
  perform (request seq 0x10 (raiseReply (raisePan pan role profile .pan))) s

/-- STAGE_DEADLINE_EXPIRY (R47, R48). -/
def execStageDeadlineExpiry (pan : Pan) (s : State) : Host.Outcome State Fault Refusal :=
  perform (atDeadline (panOf s pan).stageDeadline (nextStage pan)) s

/-- RAISE_DEADLINE_EXPIRY (R50). -/
def execRaiseDeadlineExpiry (pan : Pan) (s : State) : Host.Outcome State Fault Refusal :=
  perform (atDeadline (panOf s pan).raiseDeadline (raiseTimeout pan)) s

/-- VENT_GUARD_EXPIRY (R54). -/
def execVentGuardExpiry (pan : Pan) (s : State) : Host.Outcome State Fault Refusal :=
  perform (atDeadline (panOf s pan).ventGuard (ventGuardOver pan)) s

/-- LOWER_DEADLINE_EXPIRY (R58). -/
def execLowerDeadlineExpiry (pan : Pan) (s : State) : Host.Outcome State Fault Refusal :=
  perform (atDeadline (panOf s pan).lowerDeadline (endAtDeadline pan)) s

/-- PAN_LOWER (R63). -/
def execPanLower (seq : Nat) (pans : PanChoice) (s : State) : Host.Outcome State Fault Refusal :=
  perform (request seq 0x11 (lowerReply pans)) s

/-- CLEAR_PAN_FAULT (R64). -/
def execClearPanFault (seq : Nat) (pan : Pan) (s : State) : Host.Outcome State Fault Refusal :=
  perform (request seq 0x12 (plain (clearFault pan))) s

/-- MOVE_DEADLINE_EXPIRY (R73). -/
def execMoveDeadlineExpiry (dev : Dev) (s : State) : Host.Outcome State Fault Refusal :=
  perform (atDeadline ((devOf s dev).move.map (·.deadline)) (giveUpMove dev)) s

/-- INPUT_RAW_CHANGE (R81). -/
def execInputRawChange (line : Fin 12) (level : Level) (s : State) : Host.Outcome State Fault Refusal :=
  perform (takeRaw line level) s

/-- FILTER_DEADLINE_EXPIRY (R82). -/
def execFilterDeadlineExpiry (line : Fin 12) (s : State) : Host.Outcome State Fault Refusal :=
  perform (atDeadline s.inputs[line].deadline (filterExpired line)) s

/-- INPUT_ARM (R89). -/
def execInputArm (seq line : Nat) (s : State) : Host.Outcome State Fault Refusal :=
  perform (request seq 0x50 (plain (armLine line))) s

/-- INPUT_CLEAR (R90). -/
def execInputClear (seq line : Nat) (s : State) : Host.Outcome State Fault Refusal :=
  perform (request seq 0x51 (clearReply line)) s

end Sys2Proof.Machine
end

