-- ==== Sys2Proof/Machine/RouteCommands.lean ====
section
/-! DEFINITION. The commands of position, route actions, changeover and ice (07, 08, 09). -/

namespace Sys2Proof.Machine

/-- POSITION (R114). -/
def execPosition (position speed quality : Nat) (s : State) : Host.Outcome State Fault Refusal :=
  perform (onFrame (takePosition position speed quality)) s

/-- STALE_DEADLINE_EXPIRY (R116). -/
def execStaleDeadlineExpiry (s : State) : Host.Outcome State Fault Refusal :=
  perform (atDeadline s.pr.position.staleDeadline becomeStale) s

/-- QUEUE_APPEND (R118). -/
def execQueueAppend (seq : Nat) (entries : List QueueEntry) (s : State) : Host.Outcome State Fault Refusal :=
  perform (request seq 0x30 (routeReply (appendQueue entries))) s

/-- TRIGGER_TIMER_EXPIRY (R121). -/
def execTriggerTimerExpiry (s : State) : Host.Outcome State Fault Refusal :=
  perform (atDeadline s.pr.triggerTimer fun a => evaluateQueue (routeStandby a)) s

/-- MARKER_LOAD (R126). -/
def execMarkerLoad (seq list : Nat) (actions : List Action) (s : State) : Host.Outcome State Fault Refusal :=
  perform (request seq 0x32 (routeReply (loadMarker list actions))) s

/-- QUEUE_FLUSH (R127). -/
def execQueueFlush (seq : Nat) (s : State) : Host.Outcome State Fault Refusal :=
  perform (request seq 0x31 (routeReply flushQueueRequest)) s

/-- MARKER_FLUSH (R127). -/
def execMarkerFlush (seq list : Nat) (s : State) : Host.Outcome State Fault Refusal :=
  perform (request seq 0x33 (routeReply (flushMarkerRequest list))) s

/-- CHANGEOVER_START (R134). -/
def execChangeoverStart (seq target : Nat) (raisePosition : Option Nat) (s : State) : Host.Outcome State Fault Refusal :=
  perform (request seq 0x20 (plain (startChangeover target raisePosition .vehicle))) s

/-- RAISE_TIMER_EXPIRY (R142). -/
def execRaiseTimerExpiry (s : State) : Host.Outcome State Fault Refusal :=
  perform (atDeadline s.co.raiseTimer testAwaitRaise) s

/-- CHANGEOVER_PROCEED (R144). -/
def execChangeoverProceed (seq : Nat) (s : State) : Host.Outcome State Fault Refusal :=
  perform (request seq 0x21 (plain proceedChangeover)) s

/-- VERIFY_DEADLINE_EXPIRY (R146). -/
def execVerifyDeadlineExpiry (s : State) : Host.Outcome State Fault Refusal :=
  perform (atDeadline s.co.verifyDeadline verifyTimedOut) s

/-- CHANGEOVER_ABORT (R152). -/
def execChangeoverAbort (seq : Nat) (s : State) : Host.Outcome State Fault Refusal :=
  perform (request seq 0x22 (plain abortChangeover)) s

/-- ICE_MODE (R161). -/
def execIceMode (seq setting : Nat) (s : State) : Host.Outcome State Fault Refusal :=
  perform (request seq 0x40 (iceReply setting)) s

end Sys2Proof.Machine
end

