-- ==== Sys2Proof/Machine/Dispatch.lean ====
section
/-! DEFINITION. One arm for each command. -/

namespace Sys2Proof.Machine

def exec (i : Instr) (s : State) : Host.Outcome State Fault Refusal :=
  match i with
  | .powerOnReset levels => Sys2Proof.Machine.execPowerOnReset levels s
  | .headLinkLightAppears port => Sys2Proof.Machine.execHeadLinkLightAppears port s
  | .headLinkLockAchieved port => Sys2Proof.Machine.execHeadLinkLockAchieved port s
  | .headLinkLockLost port => Sys2Proof.Machine.execHeadLinkLockLost port s
  | .headLinkLightLost port => Sys2Proof.Machine.execHeadLinkLightLost port s
  | .headBadFrame port => Sys2Proof.Machine.execHeadBadFrame port s
  | .announce port kind serial => Sys2Proof.Machine.execAnnounce port kind serial s
  | .headStatus port payload => Sys2Proof.Machine.execHeadStatus port payload s
  | .cell port sequence dividerFault samples current => Sys2Proof.Machine.execCell port sequence dividerFault samples current s
  | .roleSilenceExpiry role => Sys2Proof.Machine.execRoleSilenceExpiry role s
  | .panRaise seq pan role profile => Sys2Proof.Machine.execPanRaise seq pan role profile s
  | .stageDeadlineExpiry pan => Sys2Proof.Machine.execStageDeadlineExpiry pan s
  | .raiseDeadlineExpiry pan => Sys2Proof.Machine.execRaiseDeadlineExpiry pan s
  | .ventGuardExpiry pan => Sys2Proof.Machine.execVentGuardExpiry pan s
  | .lowerDeadlineExpiry pan => Sys2Proof.Machine.execLowerDeadlineExpiry pan s
  | .panLower seq pans => Sys2Proof.Machine.execPanLower seq pans s
  | .clearPanFault seq pan => Sys2Proof.Machine.execClearPanFault seq pan s
  | .moveDeadlineExpiry dev => Sys2Proof.Machine.execMoveDeadlineExpiry dev s
  | .inputRawChange line level => Sys2Proof.Machine.execInputRawChange line level s
  | .filterDeadlineExpiry line => Sys2Proof.Machine.execFilterDeadlineExpiry line s
  | .inputArm seq line => Sys2Proof.Machine.execInputArm seq line s
  | .inputClear seq line => Sys2Proof.Machine.execInputClear seq line s
  | .headCommand seq role payload => Sys2Proof.Machine.execHeadCommand seq role payload s
  | .holdDeadlineExpiry role => Sys2Proof.Machine.execHoldDeadlineExpiry role s
  | .position position speed quality => Sys2Proof.Machine.execPosition position speed quality s
  | .staleDeadlineExpiry => Sys2Proof.Machine.execStaleDeadlineExpiry s
  | .queueAppend seq entries => Sys2Proof.Machine.execQueueAppend seq entries s
  | .triggerTimerExpiry => Sys2Proof.Machine.execTriggerTimerExpiry s
  | .markerLoad seq list actions => Sys2Proof.Machine.execMarkerLoad seq list actions s
  | .queueFlush seq => Sys2Proof.Machine.execQueueFlush seq s
  | .markerFlush seq list => Sys2Proof.Machine.execMarkerFlush seq list s
  | .changeoverStart seq target raisePosition => Sys2Proof.Machine.execChangeoverStart seq target raisePosition s
  | .raiseTimerExpiry => Sys2Proof.Machine.execRaiseTimerExpiry s
  | .changeoverProceed seq => Sys2Proof.Machine.execChangeoverProceed seq s
  | .verifyDeadlineExpiry => Sys2Proof.Machine.execVerifyDeadlineExpiry s
  | .changeoverAbort seq => Sys2Proof.Machine.execChangeoverAbort seq s
  | .iceMode seq setting => Sys2Proof.Machine.execIceMode seq setting s
  | .vlLightAppears => Sys2Proof.Machine.execVlLightAppears s
  | .vlLockAchieved => Sys2Proof.Machine.execVlLockAchieved s
  | .vlLockLost => Sys2Proof.Machine.execVlLockLost s
  | .vlLightLost => Sys2Proof.Machine.execVlLightLost s
  | .vlBadFrame => Sys2Proof.Machine.execVlBadFrame s
  | .vlSilenceExpiry => Sys2Proof.Machine.execVlSilenceExpiry s
  | .mgmtRequestDiscarded => Sys2Proof.Machine.execMgmtRequestDiscarded s
  | .loadTableFirst seq table records => Sys2Proof.Machine.execLoadTableFirst seq table records s
  | .loadTableMiddle seq table records => Sys2Proof.Machine.execLoadTableMiddle seq table records s
  | .loadTableLast seq table records => Sys2Proof.Machine.execLoadTableLast seq table records s
  | .loadTableOnly seq table records => Sys2Proof.Machine.execLoadTableOnly seq table records s
  | .readTable seq table start => Sys2Proof.Machine.execReadTable seq table start s
  | .readRecord seq record => Sys2Proof.Machine.execReadRecord seq record s
  | .setModeRun seq => Sys2Proof.Machine.execSetModeRun seq s
  | .setModeStandby seq => Sys2Proof.Machine.execSetModeStandby seq s
  | .restart seq => Sys2Proof.Machine.execRestart seq s
  | .clearCounters seq => Sys2Proof.Machine.execClearCounters seq s
  | .statusTimerExpiry => Sys2Proof.Machine.execStatusTimerExpiry s
  | .transmitterFree => Sys2Proof.Machine.execTransmitterFree s
  | .unknownRequest seq code => Sys2Proof.Machine.execUnknownRequest seq code s
  | .powerLoss => Sys2Proof.Machine.execPowerLoss s

end Sys2Proof.Machine
end

