-- ==== Sys2Proof/Safety.lean ====
section
/-! DEFINITION. What counts as a safe state and a safe run: the promises that the manual's prose makes about the whole part,
each as a property of a state, in the terms that the statements use. -/

namespace Sys2Proof.Machine

/-! ## Bounds -/

/-- R17, R35, R126, R118, R185, R191: every queue, ring and list lies within its capacity. -/
def WithinCapacities (s : State) : Prop :=
  s.vl.replies.length ≤ replyCapacity ∧ s.lm.digests.length ≤ digestCapacity ∧ s.lm.arcs.length ≤ arcCapacity
    ∧ s.ru.telemetry.length ≤ telemetryCapacity ∧ s.pr.queue.length ≤ queueCapacity
    ∧ s.pr.m0.length ≤ markerCapacity ∧ s.pr.m1.length ≤ markerCapacity

/-- R3, R117, R159, R175, R183, R188, R203: the counts that stop at 65535, the bad runs that never stand at 8, the up sequence
of one byte, and the ice score. -/
def CountsInRange (s : State) : Prop :=
  s.lm.gapCount ≤ 65535 ∧ s.lm.windowSequence ≤ 65535 ∧ s.pr.position.jumps ≤ 65535 ∧ s.vl.badFrames ≤ 65535
    ∧ s.vl.badRun < 8 ∧ (∀ port : Fin 8, s.ports[port].badFrames ≤ 65535 ∧ s.ports[port].badRun < 8)
    ∧ (∀ role : Role, (roleOf s role).undelivered ≤ 65535) ∧ (∀ line : Fin 12, s.inputs[line].bounce ≤ 65535)
    ∧ s.ru.upSequence < 256 ∧ s.ice.score ≤ 100

/-! ## Head links -/

/-- R174: the counts of a port that is not LOCKED are 0, and a port in DOWN or ACQUIRING holds no announcement. -/
def PortsInOrder (s : State) : Prop :=
  ∀ port : Fin 8,
    (s.ports[port].link ≠ .locked → s.ports[port].badFrames = 0 ∧ s.ports[port].badRun = 0)
      ∧ (s.ports[port].link = .down ∨ s.ports[port].link = .acquiring →
          s.ports[port].kind = none ∧ s.ports[port].serial = none)

/-- 10, Role presence; R181: a silence deadline runs while, and only while, the role is PRESENT, and a role that is not
PRESENT has no last forwarded payload. -/
def RolesInOrder (s : State) : Prop :=
  ∀ role : Role,
    ((roleOf s role).silenceDeadline.isSome ↔ (roleOf s role).presence = .present)
      ∧ ((roleOf s role).presence ≠ .present → (roleOf s role).lastForwarded = none)

/-! ## Route plan -/

/-- The number of actions that the queue and the Marker Lists hold. -/
def actionsPresent (r : Route) : Nat := r.queue.length + r.m0.length + r.m1.length

/-- R124: the actions appended are those fired, those flushed and those present, and the appended count keeps its range. -/
def QueueBalanced (s : State) : Prop :=
  s.pr.appended = s.pr.fired + s.pr.flushed + actionsPresent s.pr ∧ s.pr.appended ≤ max32

/-- R118: no Marker List m is non-empty while the queue holds an entry triggered on marker m. -/
def MarkersExclusive (s : State) : Prop :=
  ∀ m : Fin 2, s.pr.marker m = [] ∨ queueUsesMarker s.pr m = false

/-! ## Pantographs -/

/-- 03, The Pan Records: which fields are present in which state. -/
def PanRecord.InOrder (r : PanRecord) : Prop :=
  (r.role.isSome ↔ r.raised) ∧ (r.profile.isSome ↔ r.raised) ∧ (r.raiseOrigin.isSome ↔ r.raised)
    ∧ (r.stage.isSome ↔ r.state = .raising) ∧ (r.raiseDeadline.isSome ↔ r.state = .raising)
    ∧ (r.stageDeadline.isSome → r.state = .raising)
    ∧ (r.primary.isSome ↔ r.state = .lowering) ∧ (r.phase.isSome ↔ r.state = .lowering)
    ∧ (r.state ≠ .lowering → r.causes = [] ∧ r.lowerDeadline = none)
    ∧ (r.ventGuard.isSome ↔ r.phase = some .awaitMb) ∧ (r.latch.isSome ↔ r.state = .fault)

/-- Both Pan Records are in order. -/
def PansInOrder (s : State) : Prop := ∀ p : Pan, (panOf s p).InOrder

/-- R45: at most one pantograph is RAISING or UP with role COLLECT. -/
def OneCollector (s : State) : Prop :=
  ¬ ((s.pans.a.raised ∧ s.pans.a.role = some .collect) ∧ (s.pans.b.raised ∧ s.pans.b.role = some .collect))

/-- R65: in STANDBY no pantograph is RAISING or UP. -/
def StandbyLowered (s : State) : Prop := s.vl.mode = .standby → ∀ p : Pan, (panOf s p).raised = false

/-! ## Records of other blocks -/

/-- 04, The Switchgear Record: a device that is MOVING has a target. -/
def DevicesInOrder (s : State) : Prop := ∀ d : Dev, (devOf s d).move.isSome → (devOf s d).target.isSome

/-- 08, The Changeover Record: what is present in which step. -/
def ChangeoverInOrder (s : State) : Prop :=
  (s.co.verifyDeadline.isSome → s.co.step = .verifying) ∧ (s.co.raiseTimer.isSome → s.co.step = .awaitRaise)
    ∧ (s.co.usable.isSome ↔ inProgress s) ∧ (s.co.step = .idle → s.co.requested = [] ∧ s.co.awaited = [])

/-- 07, The Position Record: the fields of the last frame are present together, and a stale deadline runs while FRESH. -/
def PositionInOrder (s : State) : Prop :=
  (s.pr.position.last.isSome ↔ s.pr.position.frameTime.isSome)
    ∧ (s.pr.position.last.isSome ↔ s.pr.position.frameStale.isSome)
    ∧ (s.pr.position.staleDeadline.isSome ↔ s.pr.position.fresh)
    ∧ (s.pr.triggerTimer.isSome → s.vl.mode = .run ∧ s.pr.position.fresh)

/-- 09, The Ice Record: scrape pan and phase are present in SCRAPE. -/
def IceInOrder (s : State) : Prop :=
  (s.ice.scrapePan.isSome ↔ s.ice.state = .scrape) ∧ (s.ice.phase.isSome ↔ s.ice.state = .scrape)

/-- R105, R98: a slot holds a vehicle command of its own role, of a kind that is not always admitted; LINE and CLIMATE have no
slot. -/
def HoldsInOrder (s : State) : Prop :=
  holdOf s .line = none ∧ holdOf s .climate = none
    ∧ ∀ role : Role, ∀ h ∈ holdOf s role,
        h.command.role = role ∧ h.command.origin = .vehicle ∧ h.command.content.alwaysAdmitted = false

/-- R190: a silence deadline of the Vehicle Link runs while, and only while, the silence is ACTIVE. -/
def SilenceInOrder (s : State) : Prop := s.vl.silenceDeadline.isSome ↔ s.vl.active

/-! ## Whole promises of the Command Gate -/

/-- R99: what the manual says must stand for a main-breaker close to be admitted. -/
def CloseAllowed (s : State) : Prop :=
  s.vl.mode = .run
    ∧ (∃ c r, s.lm.confirmed = .system c ∧ systemRecord s c = some r
        ∧ ∃ sel, r.selector = .named sel ∧ s.sg.ss.reported = selectorPos sel ∧ s.sg.ss.idle)
    ∧ s.sg.es.reported = .opened ∧ oneCollecting s

/-! ## Where a command finds the part -/

/-- R189 to R192: a management request is taken by its owner. -/
def Ready (s : State) : Prop :=
  s.powered = true ∧ s.vl.link = .locked ∧ s.vl.replies.length < replyCapacity ∧ s.vl.restartPending = false

/-- R203: the transmitter is sending, so that nothing leaves a queue, a slot or the FIFO in this act. -/
def Sending (s : State) : Prop := s.ru.sending.isSome = true

/-- R188, R190: the part after a valid down frame has ended the bad run and restarted silence, before the frame is handed on. -/
def framed (s : State) : State :=
  { s with
    vl := { s.vl with badRun := 0, active := true, silenceDeadline := some (s.now + (settings s).vlSilence) } }

/-- R191, R192: the part with a reply more at the tail of the Reply Queue. -/
def State.replied (s : State) (seq code : Nat) (result : Result) (data : List Byte := []) (clamped : Nat := 0) : State :=
  { s with vl := { s.vl with replies := s.vl.replies ++ [{ seq, code, result, clamped, data }] } }

/-- R201: the part with a report placed in its slot. -/
def State.reported (s : State) (r : Report) : State :=
  { s with ru := { s.ru with slots := updAt s.ru.slots (slotOf r) (Slot.place r) } }

/-- R183: the part with a COMMAND frame more sent. -/
def State.sentOn (s : State) (port : Nat) (payload : List Byte) : State := { s with sent := s.sent ++ [{ port, payload }] }

/-- R44 to R46: a raise of a pantograph is accepted: its checks and interlocks pass, the gate admits the first RAMP, and the head
is there to take it. -/
def RaiseReady (s : State) (p : Pan) (role : PanRole) (pr : ProfileRecord) (first : Stage) (o : Origin) (d : DirectoryRecord) :
    Prop :=
  s.vl.mode = .run ∧ profileRecord s pr.number = some pr ∧ pr.stages.head? = some first ∧ rolePresent s (panRole p) = true
    ∧ directoryOfRole s (panRole p) = some d ∧ (panOf s p).state = .down
    ∧ functionActive s .roofAccess = false ∧ s.sg.es.reported = .opened
    ∧ (role = .collect → ¬ ((panOf s (otherPan p)).raised ∧ (panOf s (otherPan p)).role = some .collect))
    ∧ (devOf s (isoOf p)).reported = (if role = .collect then .closed else .opened)
    ∧ judge s (rampCommand p first.target first.rate o) = none

/-- R46: the Pan Record of a raise taken at a time. -/
def raisedRecord (r : PanRecord) (role : PanRole) (pr : ProfileRecord) (first : Stage) (o : Origin) (now : Nat) : PanRecord :=
  { r with
    state := .raising, role := some role, profile := some pr.number, raiseOrigin := some o, stage := some 0,
    stageDeadline := some (now + stageDuration 0 first), raiseDeadline := some (now + pr.timeout), lastHold := none }

/-- R53: the Pan Record of a lowering begun by a cause at a time, in a phase. -/
def loweringRecord (r : PanRecord) (cause : LowerCause) (deadline : Nat) (phase : LowerPhase) (guard : Option Nat) (vent : Bool) :
    PanRecord :=
  { r with
    state := .lowering, causes := [cause], primary := some cause, role := none, profile := none, raiseOrigin := none,
    stage := none, stageDeadline := none, raiseDeadline := none, lowerDeadline := some deadline, phase := some phase,
    ventGuard := guard, vent := vent }

/-- 11, Request and reply envelope: the sequence and the request code of a management request. -/
def managementCode : Instr → Option (Nat × Nat)
  | .loadTableFirst seq _ _ => some (seq, 0x01)
  | .loadTableMiddle seq _ _ => some (seq, 0x01)
  | .loadTableLast seq _ _ => some (seq, 0x01)
  | .loadTableOnly seq _ _ => some (seq, 0x01)
  | .readTable seq _ _ => some (seq, 0x02)
  | .readRecord seq _ => some (seq, 0x03)
  | .setModeRun seq => some (seq, 0x04)
  | .setModeStandby seq => some (seq, 0x04)
  | .restart seq => some (seq, 0x05)
  | .clearCounters seq => some (seq, 0x06)
  | .panRaise seq _ _ _ => some (seq, 0x10)
  | .panLower seq _ => some (seq, 0x11)
  | .clearPanFault seq _ => some (seq, 0x12)
  | .changeoverStart seq _ _ => some (seq, 0x20)
  | .changeoverProceed seq => some (seq, 0x21)
  | .changeoverAbort seq => some (seq, 0x22)
  | .queueAppend seq _ => some (seq, 0x30)
  | .queueFlush seq => some (seq, 0x31)
  | .markerLoad seq _ _ => some (seq, 0x32)
  | .markerFlush seq _ => some (seq, 0x33)
  | .iceMode seq _ => some (seq, 0x40)
  | .inputArm seq _ => some (seq, 0x50)
  | .inputClear seq _ => some (seq, 0x51)
  | .unknownRequest seq code => some (seq, code)
  | _ => none

end Sys2Proof.Machine
end

