-- ==== Sys2Proof/WellFormed.lean ====
section
/-! DEFINITION. Which commands a frame can carry: each operand lies in the range its field of Frame layouts
(11_vehicle_link_tables_and_requests.md) can hold. -/

namespace Sys2Proof

/-- A field of one byte. -/
def fits8 (n : Nat) : Bool := decide (n < 256)

/-- A field of two bytes. -/
def fits16 (n : Nat) : Bool := decide (n < 65536)

/-- A field of four bytes. -/
def fits32 (n : Nat) : Bool := decide (n < 4294967296)

/-- A voltage sample of a CELL frame: sixteen signed bits. -/
def fitsSample (v : Int) : Bool := decide (-32768 ≤ v ∧ v ≤ 32767)

/-- A payload, with `used` bytes of it taken by fields already placed, holds at most 240 bytes. -/
def fitsPayload (used : Nat) (bytes : List Byte) : Bool := decide (used + bytes.length ≤ 240)

/-- The fields of an action fit their bytes. -/
def Action.wf : Action → Bool
  | .changeover target none => fits8 target
  | .changeover target (some p) => fits8 target && fits32 p
  | .lowerAll => true
  | .scrapeInhibit _ => true
  | .reportMark tag => fits8 tag

/-- The fields of a trigger fit their bytes. -/
def Trigger.wf : Trigger → Bool
  | .atPosition p => fits32 p
  | .onMarker m => fits8 m

/-- The fields of a queue entry fit their bytes. -/
def QueueEntry.wf (e : QueueEntry) : Bool := e.action.wf && e.trigger.wf

/-- The command's operands are ones that its frame or event can carry; others run as well (assumption log 35). -/
def Instr.wf : Instr → Bool
  | .powerOnReset _ => true
  | .headLinkLightAppears _ => true
  | .headLinkLockAchieved _ => true
  | .headLinkLockLost _ => true
  | .headLinkLightLost _ => true
  | .headBadFrame _ => true
  | .announce _ kind serial => fits8 kind && fits32 serial
  | .headStatus _ payload => decide (payload.length ≤ 237)
  | .cell _ sequence _ samples current =>
    fits8 sequence && decide (samples.length = 16) && samples.all fitsSample && fits16 current
  | .roleSilenceExpiry _ => true
  | .panRaise seq _ _ profile => fits8 seq && fits8 profile
  | .stageDeadlineExpiry _ => true
  | .raiseDeadlineExpiry _ => true
  | .ventGuardExpiry _ => true
  | .lowerDeadlineExpiry _ => true
  | .panLower seq _ => fits8 seq
  | .clearPanFault seq _ => fits8 seq
  | .moveDeadlineExpiry _ => true
  | .inputRawChange _ _ => true
  | .filterDeadlineExpiry _ => true
  | .inputArm seq line => fits8 seq && fits8 line
  | .inputClear seq line => fits8 seq && fits8 line
  | .headCommand seq _ payload => fits8 seq && decide (1 ≤ payload.length) && fitsPayload 1 payload
  | .holdDeadlineExpiry _ => true
  | .position pos speed quality => fits32 pos && fits16 speed && fits8 quality
  | .staleDeadlineExpiry => true
  | .queueAppend seq entries => fits8 seq && fits8 entries.length && entries.all QueueEntry.wf
  | .triggerTimerExpiry => true
  | .markerLoad seq list actions => fits8 seq && fits8 list && fits8 actions.length && actions.all Action.wf
  | .queueFlush seq => fits8 seq
  | .markerFlush seq list => fits8 seq && fits8 list
  | .changeoverStart seq target none => fits8 seq && fits8 target
  | .changeoverStart seq target (some p) => fits8 seq && fits8 target && fits32 p
  | .raiseTimerExpiry => true
  | .changeoverProceed seq => fits8 seq
  | .verifyDeadlineExpiry => true
  | .changeoverAbort seq => fits8 seq
  | .iceMode seq setting => fits8 seq && fits8 setting
  | .vlLightAppears => true
  | .vlLockAchieved => true
  | .vlLockLost => true
  | .vlLightLost => true
  | .vlBadFrame => true
  | .vlSilenceExpiry => true
  | .mgmtRequestDiscarded => true
  | .loadTableFirst seq table records => fits8 seq && fits8 table && fitsPayload 2 records
  | .loadTableMiddle seq table records => fits8 seq && fits8 table && fitsPayload 2 records
  | .loadTableLast seq table records => fits8 seq && fits8 table && fitsPayload 2 records
  | .loadTableOnly seq table records => fits8 seq && fits8 table && fitsPayload 2 records
  | .readTable seq table start => fits8 seq && fits8 table && fits8 start
  | .readRecord seq record => fits8 seq && fits8 record
  | .setModeRun seq => fits8 seq
  | .setModeStandby seq => fits8 seq
  | .restart seq => fits8 seq
  | .clearCounters seq => fits8 seq
  | .statusTimerExpiry => true
  | .transmitterFree => true
  | .unknownRequest seq code => fits8 seq && fits8 code
  | .powerLoss => true

end Sys2Proof
end

