-- ==== Sys2Proof/Certificates/Slice0/Obligations.lean ====
section
/-! DEFINITION. The statements about the model, for the provers. In them `Sending s` says that the transmitter is busy, so that
an act ends without a take (R203); what a take does is stated on its own (`TransmitterTakesInItsOrder`). Where an act tells
other blocks, the statement gives the act before they are told, and `complete` is their part; what their part leaves alone is
stated once (`CommandsLeaveOtherBlocksAlone`). -/

open Sys2Proof Sys2Proof.Machine

/-! ## The machine as a whole -/

/-- A step takes the command at the front of the queue, with the queue's rest. -/
def Obligations.StepRunsTheFrontCommand : Prop :=
  ∀ (s : State) (c : Instr) (rest : List Instr), s.pending = c :: rest → step s = exec c { s with pending := rest }

/-- The model's clock (assumption logs 1, 4): a step on an empty queue lets a millisecond pass where no deadline has come, and
otherwise posts the expiry of an earliest deadline that has; an unpowered part does nothing. R180, R82, R54, R73, R108, R116,
R121, R142, R146, R190, assumption log 2: a deadline that does not run does not expire; its expiry changes nothing. -/
def Obligations.ClockRunsAndAbsentDeadlinesStand : Prop :=
  (
  ∀ s : State, s.pending = [] →
    (s.powered = false → step s = .next s)
      ∧ (s.powered = true → dueNow s = [] → step s = .next { s with now := s.now + 1 })
      ∧ (s.powered = true → dueNow s ≠ [] →
          ∃ t c cs, (t, c) ∈ dueNow s ∧ step s = .next { s with pending := [c], choices := cs })
      ∧ ∀ t c, (t, c) ∈ dueNow s ↔ ((t, c) ∈ deadlines s ∧ t ≤ s.now ∧ ∀ y ∈ deadlines s, t ≤ y.1)
  ) ∧ (
  ∀ s : State, Sending s →
    (∀ role, (roleOf s role).silenceDeadline = none → exec (.roleSilenceExpiry role) s = .next s)
      ∧ (∀ p, (panOf s p).stageDeadline = none → exec (.stageDeadlineExpiry p) s = .next s)
      ∧ (∀ p, (panOf s p).raiseDeadline = none → exec (.raiseDeadlineExpiry p) s = .next s)
      ∧ (∀ p, (panOf s p).ventGuard = none → exec (.ventGuardExpiry p) s = .next s)
      ∧ (∀ p, (panOf s p).lowerDeadline = none → exec (.lowerDeadlineExpiry p) s = .next s)
      ∧ (∀ d, (devOf s d).move = none → exec (.moveDeadlineExpiry d) s = .next s)
      ∧ (∀ line : Fin 12, s.inputs[line].deadline = none → exec (.filterDeadlineExpiry line) s = .next s)
      ∧ (∀ role, holdOf s role = none → exec (.holdDeadlineExpiry role) s = .next s)
      ∧ (s.pr.position.staleDeadline = none → exec .staleDeadlineExpiry s = .next s)
      ∧ (s.pr.triggerTimer = none → exec .triggerTimerExpiry s = .next s)
      ∧ (s.co.raiseTimer = none → exec .raiseTimerExpiry s = .next s)
      ∧ (s.co.verifyDeadline = none → exec .verifyDeadlineExpiry s = .next s)
      ∧ (s.vl.silenceDeadline = none → exec .vlSilenceExpiry s = .next s)
  )

/-- R200: power-on reset gives the Link Record its values, the mode STANDBY, every table EMPTY and an empty Reply Queue; every
default is in force, and RUN entry fails at HEAD_DIRECTORY while that table is not VALID. -/
def Obligations.PowerOnResetGivesTheLinkRecord : Prop :=
  (∀ (levels : LineLevels) (s : State), ∃ t, exec (.powerOnReset levels) s = .next t
    ∧ t.vl.link = .acquiring ∧ t.vl.active = false ∧ t.vl.silenceDeadline = none ∧ t.vl.badFrames = 0 ∧ t.vl.badRun = 0
    ∧ t.vl.replyOverrun = false ∧ t.vl.restartPending = false ∧ linkOk t = false ∧ contactClosed t 3 = false
    ∧ t.vl.mode = .standby ∧ (∀ id, loadOf t.vl.tables id = .empty) ∧ settings t = defaultSettings
    ∧ failedEntryCheck t = some 0 ∧ t.vl.replies = [])
  ∧ ∀ u : State, u.vl.tables.directory.load ≠ .valid → failedEntryCheck u = some 0

/-- R21, R39, R66, R79, R93, R112, R131, R155, R172, R187, R208: power-on reset puts the other blocks in their reset state, the
raw levels as read; the model's own fields are as assumption log 11 says. -/
def Obligations.PowerOnResetGivesEveryBlock : Prop :=
  ∀ (levels : LineLevels) (s : State), ∃ t, exec (.powerOnReset levels) s = .next t
    ∧ t.powered = true
    ∧ t.lm = { acc := {}, expected := none, confirmed := .noSense, candidate := none, last := none, windowSequence := 0,
               gapCount := 0, deadRun := 0, confirmedSince := none, runStart := none, arcs := [], digests := [],
               overflow := false }
    ∧ (∀ p, panOf t p = { state := .lowering, role := none, profile := none, raiseOrigin := none, stage := none,
                           stageDeadline := none, raiseDeadline := none, causes := [.protect], primary := some .protect,
                           phase := some .venting, ventGuard := none, lowerDeadline := none, latch := none, lastHold := none,
                           measured := none, headFault := false, vent := true })
    ∧ (∀ d, devOf t d = { reported := .unknown, target := none, move := none, mark := none }) ∧ t.sg.mbTrip = true
    ∧ (∀ line : Fin 12, t.inputs[line] = { raw := if levels.getLsbD line.val then .high else .low, filtered := .unsettled,
                                            deadline := some (t.now + 64), bounce := 0, latch := .disarmed })
    ∧ (∀ role, holdOf t role = none)
    ∧ t.pr.position = { last := none, speed := 0, good := true, frameTime := none, frameStale := none, fresh := false,
                        staleDeadline := none, jumps := 0 }
    ∧ t.pr.queue = [] ∧ t.pr.m0 = [] ∧ t.pr.m1 = [] ∧ t.pr.appended = 0 ∧ t.pr.fired = 0 ∧ t.pr.flushed = 0
    ∧ t.pr.triggerTimer = none
    ∧ t.co = { step := .idle, target := none, origin := none, raisePosition := none, usable := none, oldSystem := none,
               newPan := none, kept := false, requested := [], awaited := [], verifyDeadline := none, raiseTimer := none,
               abortReason := none, lastResult := none, detail := none, abortStep := none }
    ∧ t.ice = { setting := .off, state := .inactive, score := 0, base := 0, arcCount := 0, climate := none, inhibit := false,
                holdOff := false, scrapePan := none, phase := none, headroom := 0, budget := 0, allocated := 0,
                commanded := none, actual := none }
    ∧ (∀ port : Fin 8, t.ports[port] = { link := .acquiring, kind := none, serial := none, badFrames := 0, badRun := 0 })
    ∧ (∀ role, roleOf t role = { presence := .absent, silenceDeadline := none, lastForwarded := none, undelivered := 0 })
    ∧ (∀ i : Fin 44, t.ru.slots[i] = { report := none, overrun := false }) ∧ t.ru.telemetry = [] ∧ t.ru.statusDue = false
    ∧ t.ru.statusTimer = t.now + 100 ∧ t.ru.upSequence = 0 ∧ t.ru.sending = none ∧ t.ru.dropped = false
    ∧ t.now = 0 ∧ t.sent = s.sent ∧ t.choices = s.choices ∧ t.pending = s.pending

/-- R91, assumption log 10: without the supply every output contact is open, whatever the state holds, and until the next
power-on reset no command changes anything. R91, R188: with it, a vent or trip output is asserted, and its contact open, as its
record says, and the contact of LINK_OK is closed where the Vehicle Link is LOCKED and ACTIVE. -/
def Obligations.PowerLossOpensEveryContact : Prop :=
  ∀ s : State, exec .powerLoss s = .next { s with powered := false }
    ∧ (∀ output : Fin 4, contactClosed { s with powered := false } output = false)
    ∧ (s.powered = true →
        (let up : Prop := s.vl.link = .locked ∧ s.vl.active = true
         (∀ p, ventAsserted s p = (panOf s p).vent) ∧ tripAsserted s = s.sg.mbTrip ∧ (linkOk s = true ↔ up)
          ∧ contactClosed s 0 = !s.pans.a.vent ∧ contactClosed s 1 = !s.pans.b.vent ∧ contactClosed s 2 = !s.sg.mbTrip
          ∧ (contactClosed s 3 = true ↔ up)))
    ∧ ∀ c : Instr, s.powered = false → (∀ levels, c ≠ .powerOnReset levels) → exec c s = .next s

/-- Every invariant stated here holds of the part right after a power-on reset. -/
def Obligations.ResetMeetsTheInvariants : Prop :=
  WithinCapacities State.reset ∧ CountsInRange State.reset ∧ PortsInOrder State.reset ∧ RolesInOrder State.reset
    ∧ SilenceInOrder State.reset ∧ QueueBalanced State.reset ∧ MarkersExclusive State.reset ∧ PositionInOrder State.reset
    ∧ PansInOrder State.reset ∧ OneCollector State.reset ∧ StandbyLowered State.reset ∧ DevicesInOrder State.reset
    ∧ ChangeoverInOrder State.reset ∧ IceInOrder State.reset ∧ HoldsInOrder State.reset

/-- R17, R35, R118, R126, R185, R191 and the ranges of the counts: every step keeps each queue within its capacity and each count
within its range. R118, R124: every step keeps the balance of the queue counters, and keeps the queue's marker triggers and the
Marker Lists apart. -/
def Obligations.StepsKeepQueuesAndCounters : Prop :=
  (
  ∀ s t : State, WithinCapacities s → CountsInRange s → step s = .next t → WithinCapacities t ∧ CountsInRange t
  ) ∧ (
  ∀ s t : State, QueueBalanced s → MarkersExclusive s → step s = .next t → QueueBalanced t ∧ MarkersExclusive t
  )

/-- R45, R65 and the Pan Records of 03: every step keeps both Pan Records in order, at most one pantograph raised to collect,
and none raised in STANDBY. -/
def Obligations.StepsKeepThePantographsInOrder : Prop :=
  ∀ s t : State, PansInOrder s → OneCollector s → StandbyLowered s → step s = .next t →
    PansInOrder t ∧ OneCollector t ∧ StandbyLowered t

/-- R174, R181, R190: every step keeps the records of the head ports, of the roles and of the Vehicle Link's silence in order. -/
def Obligations.StepsKeepTheLinksInOrder : Prop :=
  ∀ s t : State, PortsInOrder s → RolesInOrder s → SilenceInOrder s → step s = .next t →
    PortsInOrder t ∧ RolesInOrder t ∧ SilenceInOrder t

/-- 04, 06, 07, 08, 09: every step keeps the Switchgear Record, the hold slots, the Position Record, the Changeover Record and
the Ice Record in order. -/
def Obligations.StepsKeepTheRecordsInOrder : Prop :=
  ∀ s t : State, DevicesInOrder s → HoldsInOrder s → PositionInOrder s → ChangeoverInOrder s → IceInOrder s →
    step s = .next t → DevicesInOrder t ∧ HoldsInOrder t ∧ PositionInOrder t ∧ ChangeoverInOrder t ∧ IceInOrder t

/-- What a command leaves alone, whichever blocks its change reaches (R181, R183, R188, R189 and the ownership of each record by
one block): the commands of the heads and of the roof's deadlines leave the Vehicle Link with its tables, its mode and its
queue, the input lines, the Position Record and the transmitter; those of the input lines leave the Port Records and the
presence of every role too; the vehicle's requests to the roof leave the ports, the presences, the input lines and the
tables. A POSITION frame and the stale deadline leave the ports, the presences, the input lines, and of the Vehicle Link the
link, the mode, the tables and the replies; SET_MODE all that but the mode and its reply, and the Position Record; a block of a
table load the Position Record, the mode and the link, what each line reads, and the ports and presences unless it is of
HEAD_DIRECTORY; the receiver's events of the Vehicle Link all but the Link Record; its silence the ports, the presences, the
input lines, the mode, the tables and the replies; INPUT_ARM and INPUT_CLEAR all but the latch of their line and the reply;
CLEAR_COUNTERS all but the records that hold the counts. -/
def Obligations.CommandsLeaveOtherBlocksAlone : Prop :=
  (
  ∀ (s : State) (c : Instr) (port : Fin 8) (line : Fin 12) (role : Role) (pan : Pan) (dev : Dev) (level : Level)
    (kind serial current n : Nat) (payload : List Byte) (fault : Bool) (samples : List Int), s.powered = true → Sending s →
    (let transmitter (t : State) : Prop := t.ru.sending = s.ru.sending ∧ t.ru.upSequence = s.ru.upSequence
        ∧ t.ru.statusDue = s.ru.statusDue ∧ t.ru.statusTimer = s.ru.statusTimer
     let kept (t : State) : Prop := t.powered = true ∧ t.pending = s.pending ∧ t.pr.position = s.pr.position ∧ transmitter t
     let presences (t : State) : Prop := ∀ role, (roleOf t role).presence = (roleOf s role).presence
        ∧ (roleOf t role).silenceDeadline = (roleOf s role).silenceDeadline
        ∧ (roleOf t role).lastForwarded = (roleOf s role).lastForwarded
     (c ∈ [Instr.headLinkLightAppears port, .headLinkLockAchieved port, .headLinkLockLost port, .headLinkLightLost port,
          .headBadFrame port, .announce port kind serial, .headStatus port payload, .cell port n fault samples current,
          .roleSilenceExpiry role] →
        ∃ t, exec c s = .next t ∧ kept t ∧ t.vl = s.vl ∧ t.inputs = s.inputs)
      ∧ (c ∈ [Instr.stageDeadlineExpiry pan, .raiseDeadlineExpiry pan, .ventGuardExpiry pan, .lowerDeadlineExpiry pan,
            .moveDeadlineExpiry dev, .holdDeadlineExpiry role, .triggerTimerExpiry, .raiseTimerExpiry, .verifyDeadlineExpiry] →
          ∃ t, exec c s = .next t ∧ kept t ∧ t.vl = s.vl ∧ t.inputs = s.inputs ∧ t.ports = s.ports ∧ presences t)
      ∧ (c ∈ [Instr.inputRawChange line level, .filterDeadlineExpiry line] →
          ∃ t, exec c s = .next t ∧ kept t ∧ t.vl = s.vl ∧ t.ports = s.ports ∧ presences t
            ∧ ∀ other : Fin 12, other ≠ line → t.inputs[other] = s.inputs[other])
      ∧ (∀ (seq : Nat) (panRole : PanRole) (pans : PanChoice) (entries : List QueueEntry) (actions : List Action)
            (at' : Option Nat),
          c ∈ [Instr.panRaise seq pan panRole n, .panLower seq pans, .clearPanFault seq pan,
            .queueAppend seq entries, .markerLoad seq n actions, .queueFlush seq, .markerFlush seq n,
            .changeoverStart seq n at', .changeoverProceed seq, .changeoverAbort seq, .iceMode seq n]
            ∨ payload ≠ [] ∧ c = .headCommand seq role payload →
          ∃ t, exec c s = .next t ∧ kept t ∧ t.ports = s.ports ∧ t.inputs = s.inputs ∧ t.now = s.now ∧ presences t
            ∧ t.vl.tables = s.vl.tables ∧ t.vl.mode = s.vl.mode ∧ t.vl.link = s.vl.link
            ∧ (∃ new, t.vl.replies = s.vl.replies ++ new)))
  ) ∧ (
  ∀ (s : State) (c : Instr) (line : Fin 12) (seq id position speed quality : Nat) (bytes : List Byte), s.powered = true →
    Sending s →
    (let kept (t : State) : Prop := t.powered = true ∧ t.pending = s.pending ∧ t.ru.sending = s.ru.sending
        ∧ t.ru.upSequence = s.ru.upSequence ∧ t.ru.statusDue = s.ru.statusDue ∧ t.ru.statusTimer = s.ru.statusTimer
     let heads (t : State) : Prop := t.ports = s.ports ∧ ∀ role, (roleOf t role).presence = (roleOf s role).presence
        ∧ (roleOf t role).silenceDeadline = (roleOf s role).silenceDeadline
        ∧ (roleOf t role).lastForwarded = (roleOf s role).lastForwarded
     let link (t : State) : Prop := t.vl.link = s.vl.link ∧ t.vl.tables = s.vl.tables
     let replies (t : State) : Prop := ∃ new, t.vl.replies = s.vl.replies ++ new
     let reads (t : State) : Prop := ∀ line : Fin 12, t.inputs[line].raw = s.inputs[line].raw
        ∧ t.inputs[line].filtered = s.inputs[line].filtered ∧ t.inputs[line].deadline = s.inputs[line].deadline
        ∧ t.inputs[line].bounce = s.inputs[line].bounce
     (c ∈ [Instr.position position speed quality, .staleDeadlineExpiry] →
        ∃ t, exec c s = .next t ∧ kept t ∧ heads t ∧ t.inputs = s.inputs ∧ link t ∧ t.vl.mode = s.vl.mode
          ∧ t.vl.replies = s.vl.replies)
      ∧ (c ∈ [Instr.setModeRun seq, .setModeStandby seq] →
          ∃ t, exec c s = .next t ∧ kept t ∧ heads t ∧ t.inputs = s.inputs ∧ link t ∧ t.pr.position = s.pr.position
            ∧ t.now = s.now ∧ replies t)
      ∧ (c ∈ [Instr.loadTableFirst seq id bytes, .loadTableMiddle seq id bytes, .loadTableLast seq id bytes,
            .loadTableOnly seq id bytes] →
          ∃ t, exec c s = .next t ∧ kept t ∧ t.pr.position = s.pr.position ∧ t.now = s.now ∧ t.vl.mode = s.vl.mode
            ∧ t.vl.link = s.vl.link ∧ reads t ∧ replies t ∧ (id ≠ 0 → heads t) ∧ (id ≠ 4 → t.inputs = s.inputs))
      ∧ (c ∈ [Instr.vlLightAppears, .vlLockAchieved, .vlLockLost, .vlLightLost, .vlBadFrame] →
          ∃ t, exec c s = .next t ∧ t = { s with vl := t.vl } ∧ t.vl.tables = s.vl.tables ∧ t.vl.mode = s.vl.mode
            ∧ t.vl.replies = s.vl.replies ∧ t.vl.restartPending = s.vl.restartPending)
      ∧ (c = .vlSilenceExpiry →
          ∃ t, exec c s = .next t ∧ kept t ∧ heads t ∧ t.inputs = s.inputs ∧ link t ∧ t.vl.mode = s.vl.mode
            ∧ t.vl.replies = s.vl.replies ∧ t.pr.position = s.pr.position)
      ∧ (c ∈ [Instr.inputArm seq line.val, .inputClear seq line.val] →
          ∃ t, exec c s = .next t ∧ t = { s with vl := t.vl, inputs := t.inputs } ∧ link t ∧ t.vl.mode = s.vl.mode ∧ reads t
            ∧ replies t ∧ ∀ other : Fin 12, other ≠ line → t.inputs[other] = s.inputs[other])
      ∧ (c = .clearCounters seq →
          ∃ t, exec c s = .next t ∧ heads { t with ports := s.ports } ∧ link t ∧ t.vl.mode = s.vl.mode ∧ replies t
            ∧ t = { s with vl := t.vl, lm := t.lm, inputs := t.inputs, ports := t.ports, roles := t.roles, pr := t.pr }
            ∧ ∀ port : Fin 8, t.ports[port].link = s.ports[port].link ∧ t.ports[port].kind = s.ports[port].kind))
  )

/-! ## Head links (10) -/

/-- R174, R175: what the events of a head port's receiver make of its Port Record, where no PRESENT role is mapped to the port;
nothing else changes. A bad frame at a
port that is not LOCKED is none and changes nothing (assumption log 8). -/
def Obligations.ReceiverEventsMoveThePort : Prop :=
  ∀ (s : State) (port : Fin 8), s.powered = true → Sending s →
    (∀ role, roleOfPort s port = some role → rolePresent s role = false) →
    (let put (r : PortRecord) : State := { s with ports := updAt s.ports port fun _ => r }
     let was := s.ports[port]
     exec (.headLinkLightAppears port) s = .next (if was.link = .down then put { link := .acquiring } else s)
      ∧ exec (.headLinkLockAchieved port) s =
          .next (if was.link = .acquiring then put { was with link := .locked, kind := none, serial := none } else s)
      ∧ exec (.headLinkLockLost port) s =
          .next (if was.link = .locked ∨ was.link = .barred then put { link := .acquiring } else s)
      ∧ exec (.headLinkLightLost port) s = .next (if was.link = .down then s else put { link := .down })
      ∧ exec (.headBadFrame port) s =
          .next (if was.link = .locked then
              if was.badRun + 1 < 8 then put { was with badFrames := bump16 was.badFrames, badRun := was.badRun + 1 }
              else put { link := .acquiring }
            else s))

/-- R174, R175, R180, R181: a PRESENT role becomes LOST at its silence deadline, and when its port loses lock or light or takes
its eighth bad frame in a row: its silence deadline and its last forwarded payload go, and no other role's presence,
deadline or payload changes. R182: each makes a HEAD_STATE report, with the cause SILENCE or LINK, the role's port with its link
state, announced kind and serial as they stand, PRESENT before and LOST after; R181: the change reaches the blocks of its table,
and the gate (R109). A role that is not PRESENT stays as it is. The clock is that of assumption log 2; without a directory record
the port of the report and its record are absent (assumption log 32). -/
def Obligations.PresentRoleIsLost : Prop :=
  (
  ∀ (s : State) (role : Role), s.powered = true → rolePresent s role = true →
    (let lost (t : State) : Prop :=
      (roleOf t role).presence = .lost ∧ (roleOf t role).silenceDeadline = none ∧ (roleOf t role).lastForwarded = none
        ∧ ∀ other, other ≠ role → (roleOf t other).presence = (roleOf s other).presence
            ∧ (roleOf t other).silenceDeadline = (roleOf s other).silenceDeadline
            ∧ (roleOf t other).lastForwarded = (roleOf s other).lastForwarded
     (∀ d, (roleOf s role).silenceDeadline = some d →
        ∃ t, exec (.roleSilenceExpiry role) s = .next t ∧ lost t ∧ t.now = max s.now d ∧ t.ports = s.ports)
      ∧ ∀ port : Fin 8, roleOfPort s port = some role →
          (s.ports[port].link = .locked ∨ s.ports[port].link = .barred →
            ∃ t, exec (.headLinkLockLost port) s = .next t ∧ lost t
              ∧ t.ports = updAt s.ports port fun _ => { link := .acquiring })
          ∧ (s.ports[port].link ≠ .down →
            ∃ t, exec (.headLinkLightLost port) s = .next t ∧ lost t ∧ t.ports = updAt s.ports port fun _ => { link := .down })
          ∧ (s.ports[port].link = .locked → 8 ≤ s.ports[port].badRun + 1 →
            ∃ t, exec (.headBadFrame port) s = .next t ∧ lost t
              ∧ t.ports = updAt s.ports port fun _ => { link := .acquiring }))
  ) ∧ (
  ∀ (s : State) (role : Role), s.powered = true →
    (let unlocked (port : Fin 8) (link : PortLink) : Act := { s := { s with ports := updAt s.ports port fun _ => { link } } }
     let loss (x : Act) (cause : HeadCause) : Host.Outcome State Fault Refusal := .next (complete (loseRole role cause x)).s
     (∀ d, (roleOf s role).silenceDeadline = some d →
        exec (.roleSilenceExpiry role) s = loss { s := { s with now := max s.now d } } .silence)
      ∧ ∀ port : Fin 8, roleOfPort s port = some role →
          (s.ports[port].link = .locked ∨ s.ports[port].link = .barred →
            exec (.headLinkLockLost port) s = loss (unlocked port .acquiring) .link)
          ∧ (s.ports[port].link ≠ .down → exec (.headLinkLightLost port) s = loss (unlocked port .down) .link)
          ∧ (s.ports[port].link = .locked → 8 ≤ s.ports[port].badRun + 1 →
            exec (.headBadFrame port) s = loss (unlocked port .acquiring) .link))
  ) ∧ (
  ∀ (a : Act) (role : Role) (cause : HeadCause),
    (let port := (directoryOfRole a.s role).map fun d => d.port
     let held : Option PortRecord := port.bind fun p => a.s.ports[p]?
     let readers : List Note :=
      match role with
      | .line => [.lineLost, .coRole .line false, .gateRoleLost .line]
      | .panA => [.panHeadLost .a, .gateRoleLost .panA]
      | .panB => [.panHeadLost .b, .gateRoleLost .panB]
      | .switchgear => [.switchgearLost, .coRole .switchgear false, .gateRoleLost .switchgear]
      | .heater => [.heaterLost, .gateRoleLost .heater]
      | .climate => [.climateLost, .gateRoleLost .climate]
      | .aux1 => [.gateRoleLost .aux1]
      | .aux2 => [.gateRoleLost .aux2]
     (rolePresent a.s role = false → loseRole role cause a = a)
      ∧ (rolePresent a.s role = true → loseRole role cause a =
          { s := ({ a.s with
              roles := updAt a.s.roles (roleIndex role) fun r =>
                { r with
                  presence := .lost
                  silenceDeadline := none
                  lastForwarded := none } }).reported
              (.headState role port .present .lost cause (held.map PortRecord.link) (held.bind PortRecord.kind)
                (held.bind PortRecord.serial) none none)
            notes := a.notes ++ readers }))
  )

/-- R176: the first announcement since lock is held; one whose kind is not that of the port's HEAD_DIRECTORY record bars the
port; a repeat changes nothing more; a different one is held, checked, and loses the port's PRESENT role with the cause
HEAD_CHANGED. R176, R182: a port that is barred is told by a HEAD_STATE report of its role with the cause BARRED, the port, the
announced and the expected kind and the role's presence, which stands; no other block is told. -/
def Obligations.AnnouncementIsHeldAndChecked : Prop :=
  (
  ∀ (s : State) (port : Fin 8) (kind serial : Nat), s.powered = true → s.ports[port].link = .locked →
    ∃ t, exec (.announce port kind serial) s = .next t
      ∧ (let fits : Prop := ∀ d, directoryOfPort s port = some d → d.kind = kind
         let repeated : Prop := s.ports[port].kind = some kind ∧ s.ports[port].serial = some serial
         (repeated → t.ports = updAt s.ports port fun r => { r with badRun := 0 })
          ∧ (¬ repeated → fits →
              t.ports = updAt s.ports port fun r => { r with badRun := 0, kind := some kind, serial := some serial })
          ∧ (¬ repeated → ¬ fits →
              t.ports = updAt s.ports port fun _ =>
                { link := .barred, kind := some kind, serial := some serial, badFrames := 0, badRun := 0 })
          ∧ ∀ role, (roleOf t role).presence =
              if roleOfPort s port = some role ∧ rolePresent s role ∧ s.ports[port].kind ≠ none ∧ ¬ repeated then .lost
              else (roleOf s role).presence)
  ) ∧ (
  ∀ (s : State) (port : Fin 8) (kind serial : Nat), s.powered = true → s.ports[port].link = .locked →
    (let valid := validFrame port { s }
     let hold (x : Act) : Act := x.modPort port fun r => { r with kind := some kind, serial := some serial }
     let repeated : Prop := s.ports[port].kind = some kind ∧ s.ports[port].serial = some serial
     (s.ports[port].kind = none → exec (.announce port kind serial) s = .next (complete (checkKind port (hold valid))).s)
      ∧ (repeated → exec (.announce port kind serial) s = .next (complete valid).s)
      ∧ (s.ports[port].kind ≠ none → ¬ repeated →
          (roleOfPort s port = none → exec (.announce port kind serial) s = .next (complete (checkKind port (hold valid))).s)
          ∧ ∀ role, roleOfPort s port = some role → exec (.announce port kind serial) s =
              .next (complete (checkKind port (hold (loseRole role .headChanged valid)))).s))
  ) ∧ (
  ∀ (a : Act) (port : Fin 8) (d : DirectoryRecord) (role : Role) (kind : Nat),
    directoryOfPort a.s port = some d → d.role = .named role → directoryOfRole a.s role = some d →
    a.s.ports[port].kind = some kind →
    (let barred : State :=
      { a.s with
        ports := updAt a.s.ports port fun r =>
          { r with
            link := .barred
            badFrames := 0
            badRun := 0 } }
     let presence := (roleOf a.s role).presence
     (kind = d.kind → checkKind port a = a)
      ∧ (kind ≠ d.kind → checkKind port a =
          { a with
            s := barred.reported (.headState role (some port.val) presence presence .barred (some .barred) (some kind)
              a.s.ports[port].serial (some d.kind) none) }))
  ) ∧ (
  ∀ (a : Act) (port : Fin 8), directoryOfPort a.s port = none ∨ a.s.ports[port].kind = none → checkKind port a = a
  )

/-- R179, R180: a STATUS from a port whose announced kind is that of its HEAD_DIRECTORY record makes the port's role PRESENT and
sets its silence deadline afresh; one whose length its role does not allow is a bad frame (R175). R179, R182: a role that
becomes PRESENT makes a HEAD_STATE report with the cause PRESENT and its presence before and after, and tells the readers of its
return (R181). The frame is then handed to the block of R179's table, and last offered for forwarding; a return of the HEATER
role reallocates after that (assumption log 47). Without a directory record the port of the report and its record are absent
(assumption log 32). R175: the length that each role allows, at most 237 bytes, and a port's role by its record. -/
def Obligations.StatusMakesTheRolePresent : Prop :=
  (
  ∀ (s : State) (port : Fin 8) (payload : List Byte),
    (statusFits (roleOfPort s port) payload = false → exec (.headStatus port payload) s = exec (.headBadFrame port) s)
      ∧ ∀ d role, s.powered = true → s.ports[port].link = .locked → statusFits (roleOfPort s port) payload = true →
          directoryOfPort s port = some d → d.role = .named role → s.ports[port].kind = some d.kind →
          ∃ t, exec (.headStatus port payload) s = .next t
            ∧ (roleOf t role).presence = .present ∧ (roleOf t role).silenceDeadline = some (s.now + d.silence)
            ∧ t.ports = (updAt s.ports port fun r => { r with badRun := 0 }) ∧ t.now = s.now
            ∧ ∀ other, other ≠ role → (roleOf t other).presence = (roleOf s other).presence
  ) ∧ (
  ∀ (s : State) (port : Fin 8) (payload : List Byte) (d : DirectoryRecord) (role : Role),
    s.powered = true → s.ports[port].link = .locked → statusFits (roleOfPort s port) payload = true →
    directoryOfPort s port = some d → d.role = .named role → s.ports[port].kind = some d.kind →
    (let handed (x : Act) : Act :=
      match role with
      | .switchgear => switchgearStatus payload x
      | .panA => panStatus .a payload x
      | .panB => panStatus .b payload x
      | .heater => heaterStatus payload x
      | .climate => climateStatus payload x
      | .line => x
      | .aux1 => x
      | .aux2 => x
     exec (.headStatus port payload) s = .next
      (complete (forward d role payload (handed (becomePresent role d.silence (validFrame port { s }))))).s)
  ) ∧ (
  ∀ (a : Act) (role : Role) (silence : Nat),
    (let port := (directoryOfRole a.s role).map fun d => d.port
     let held : Option PortRecord := port.bind fun p => a.s.ports[p]?
     let before := (roleOf a.s role).presence
     let readers : List Note :=
      match role with
      | .line => [.coRole .line true]
      | .switchgear => [.coRole .switchgear true]
      | .heater => [.iceAllocate]
      | .panA => []
      | .panB => []
      | .climate => []
      | .aux1 => []
      | .aux2 => []
     (before = .present → becomePresent role silence a = a)
      ∧ (before ≠ .present → becomePresent role silence a =
          { s := ({ a.s with
              roles := updAt a.s.roles (roleIndex role) fun r =>
                { r with
                  presence := .present
                  silenceDeadline := some (a.s.now + silence) } }).reported
              (.headState role port before .present .present (held.map PortRecord.link) (held.bind PortRecord.kind)
                (held.bind PortRecord.serial) none none)
            notes := a.notes ++ readers }))
  ) ∧ (
  ∀ (s : State) (port : Fin 8),
    (let counted : State := { s with ports := updAt s.ports port fun r => { r with badRun := 0 } }
     ((∀ d role, directoryOfPort s port = some d → d.role = .named role → rolePresent s role = false) →
        validFrame port { s } = { s := counted })
      ∧ ∀ d role, directoryOfPort s port = some d → d.role = .named role → rolePresent s role = true →
          validFrame port { s } =
            { s := { counted with
              roles := updAt s.roles (roleIndex role) fun r => { r with silenceDeadline := some (s.now + d.silence) } } })
  ) ∧ (
  (∀ (role : Option Role) (payload : List Byte),
    (let least : Nat := match role with
      | some .switchgear => 5
      | some .panA => 3
      | some .panB => 3
      | some .heater => 1
      | some .climate => 7
      | some .line => 0
      | some .aux1 => 0
      | some .aux2 => 0
      | none => 0
     statusFits role payload = true ↔ least ≤ payload.length ∧ payload.length ≤ 237))
  ∧ ∀ (s : State) (port : Fin 8) (role : Role),
      roleOfPort s port = some role ↔ ∃ d, directoryOfPort s port = some d ∧ d.role = .named role
  )

/-! ## Line Monitor (01, 02) -/

/-- R2, R7, R8, R10, R34, R179: a cell of the expected sequence from the LINE role's port, live, joins the window in progress,
where the dead run is 0 and the cell does not complete the window; the LINE role's silence deadline is set afresh; nothing else
changes. R3, R4: a cell out of order, and a cell with DIVIDER_FAULT, discard the partial window, count one gap, which stays at
65535, and end the dead run without an entry; the cell with the fault joins no window, and either sets the expected sequence.
The run-start record goes with the dead run (assumption log 37). R6: every usable cell, dead or live, goes through the fast dead
path first and then joins the window, at once where that path has told no block, and otherwise once the blocks told, and all
that were told before, have acted (R31; assumption log 51); the cell that completes the window closes it (R12). R12: what the
close leaves: the next window sequence, the result as the last window, one persistence step with its class, its digest entry, an
empty accumulator, and Ice Control told. R6: how a sample is conditioned, and the peak of a cell, the greatest magnitude of its
samples. -/
def Obligations.CellsJoinBreakOrCompleteTheWindow : Prop :=
  (
  (∀ v : Int, conditionSample v = if v = -32768 then -32767 else v)
  ∧ ∀ samples : List Int, (∀ v ∈ samples, v.natAbs ≤ peakOf samples)
      ∧ (samples ≠ [] → ∃ v ∈ samples, peakOf samples = v.natAbs)
  ) ∧ (
  ∀ (s : State) (port : Fin 8) (n : Nat) (samples : List Int) (current : Nat) (d : DirectoryRecord),
    s.powered = true → Sending s → s.ports[port].link = .locked → directoryOfPort s port = some d → d.role = .named .line →
    rolePresent s .line = true → samples.length = 16 → (s.lm.expected = some n ∨ s.lm.expected = none) →
    (settings s).deadThreshold ≤ peakOf (samples.map conditionSample) → s.lm.deadRun = 0 →
    s.lm.acc.cells + 1 < (settings s).windowLength →
    exec (.cell port n false samples current) s = .next
      { s with
        ports := updAt s.ports port fun r => { r with badRun := 0 }
        roles := updAt s.roles (roleIndex .line) fun r => { r with silenceDeadline := some (s.now + d.silence) }
        lm := { s.lm with
          expected := some ((n + 1) % 256), runStart := none
          acc := addCell (settings s).hysteresis (samples.map conditionSample) (min 4095 current) s.lm.acc } }
  ) ∧ (
  ∀ (a : Act) (n : Nat) (samples : List Int) (current : Nat),
    (let gone : LineMonitor :=
      { a.s.lm with
        acc := {}, deadRun := 0, runStart := none, expected := some ((n + 1) % 256)
        gapCount := if a.s.lm.gapCount < 65535 then a.s.lm.gapCount + 1 else a.s.lm.gapCount }
     takeCell n true samples current a = a.modLm (fun _ => gone)
      ∧ ∀ e, a.s.lm.expected = some e → e ≠ n →
          takeCell n false samples current a = useCell samples current (a.modLm fun _ => gone))
  ) ∧ (
  ∀ (s : State) (port : Fin 8) (n : Nat) (fault : Bool) (samples : List Int) (current : Nat) (d : DirectoryRecord),
    s.powered = true → s.ports[port].link = .locked → directoryOfPort s port = some d → d.role = .named .line →
    rolePresent s .line = true → samples.length = 16 →
    exec (.cell port n fault samples current) s = .next (complete (takeCell n fault samples current
      { s := { s with
          ports := updAt s.ports port fun r => { r with badRun := 0 }
          roles := updAt s.roles (roleIndex .line) fun r => { r with silenceDeadline := some (s.now + d.silence) } } })).s
  ) ∧ (
  ∀ (a b : Act) (n : Nat) (samples : List Int) (current : Nat), a.s.lm.expected = some n ∨ a.s.lm.expected = none →
    (let volts := samples.map conditionSample
     let next := a.modLm fun l => { l with expected := some ((n + 1) % 256) }
     (peakOf volts < (settings a.s).deadThreshold → b = deadCell next) →
     ((settings a.s).deadThreshold ≤ peakOf volts → b = liveCell next) →
     (b.notes = [] → takeCell n false samples current a = takeNote (.lineJoin volts current) b)
      ∧ (b.notes ≠ [] → takeCell n false samples current a = { b with notes := b.notes ++ [.lineJoin volts current] }))
  ) ∧ (
  ∀ (a : Act) (volts : List Int) (current : Nat),
    (let joined := a.modLm fun l => { l with acc := addCell (settings a.s).hysteresis volts (min 4095 current) l.acc }
     (a.s.lm.acc.cells + 1 < (settings a.s).windowLength → takeNote (.lineJoin volts current) a = joined)
      ∧ ((settings a.s).windowLength ≤ a.s.lm.acc.cells + 1 → takeNote (.lineJoin volts current) a = closeWindow joined))
  ) ∧ (
  ∀ (a : Act) (first : Note) (rest : List Note), a.notes = first :: rest →
    (let join (n : Note) : Prop := ∃ volts current, n = .lineJoin volts current
     ¬ join first → ∃ (next : Note) (others : List Note) (choices : List Nat),
        ¬ join next ∧ (next :: others).Perm a.notes
          ∧ takeNext a = takeNote next { s := { a.s with choices }, notes := others })
  ) ∧ (
  ∀ a : Act,
    (let l := a.s.lm
     let w := windowResult (settings a.s).windowLength l.acc
     let cls := classify a.s w
     let sequence := (l.windowSequence + 1) % 65536
     let step := persist cls (a.modLm fun l => { l with windowSequence := sequence, last := some w })
     let entry : DigestEntry := { sequence, m := w.m, vac := w.vac, f := w.f, cls, sat := w.sat, iw := w.iw }
     let t := closeWindow a
     t.s = { step.s with lm := t.s.lm } ∧ t.notes = step.notes ++ [.iceAllocate]
      ∧ t.s.lm.windowSequence = sequence ∧ t.s.lm.last = some w ∧ t.s.lm.acc = {}
      ∧ t.s.lm.confirmed = step.s.lm.confirmed ∧ t.s.lm.candidate = step.s.lm.candidate
      ∧ t.s.lm.confirmedSince = step.s.lm.confirmedSince ∧ t.s.lm.expected = l.expected ∧ t.s.lm.gapCount = l.gapCount
      ∧ t.s.lm.deadRun = l.deadRun ∧ t.s.lm.runStart = l.runStart ∧ t.s.lm.arcs = l.arcs
      ∧ (l.digests.length < 64 → t.s.lm.digests = l.digests ++ [entry] ∧ t.s.lm.overflow = l.overflow)
      ∧ (64 ≤ l.digests.length → t.s.lm.digests = l.digests.drop 1 ++ [entry] ∧ t.s.lm.overflow = true))
  )

/-- R13, R16: the mean of a window of L cells is S1 divided by 16 L, truncated toward zero; for sums that samples of at most 32767
can make, the mean and its magnitude lie in their ranges, the mean square S2 divided by 16 L is at most 32767², the truncated
mean lies nearer zero than the exact one by less than one count, and its square is at most the square of the exact mean. The
window current is the current sum divided by the window length, floored; for means of at most 4095 it lies in 0..4095. R14: the AC
RMS voltage is the largest number whose square does not exceed Q minus M², or 0 where that is negative; it lies in 0..32767, and
1.5 times it in 0..49150.5; a window of constant samples gives 0; a DC window whose mean is not whole leaves the residue of the
second worked example. R15: the frequency estimate in centihertz, from a crossing record as R9 makes it in a window of n samples,
and 0 where the window has no crossing or at most two. -/
def Obligations.WindowResultFromTheAccumulator : Prop :=
  (
  ∀ (length : Nat) (c : Accumulator), 0 < length → c.s1.natAbs ≤ 16 * length * 32767 →
    c.s2 ≤ 16 * length * (32767 * 32767) →
    (let n : Int := 16 * length
     let m := (windowResult length c).m
     m = c.s1.tdiv n ∧ -32767 ≤ m ∧ m ≤ 32767 ∧ m.natAbs ≤ 32767
      ∧ c.s2 / (16 * length) ≤ 1073676289
      ∧ (0 ≤ c.s1 → 0 ≤ m ∧ n * m ≤ c.s1 ∧ c.s1 < n * (m + 1))
      ∧ (c.s1 ≤ 0 → m ≤ 0 ∧ c.s1 ≤ n * m ∧ n * (m - 1) < c.s1)
      ∧ (n * m) * (n * m) ≤ c.s1 * c.s1)
  ) ∧ (
  ∀ (length : Nat) (c : Accumulator), 0 < length →
    (windowResult length c).iw = c.currentSum / length
      ∧ (c.currentSum ≤ length * 4095 → (windowResult length c).iw ≤ 4095)
  ) ∧ (
  (∀ (length : Nat) (c : Accumulator), 0 < length → c.s2 ≤ 16 * length * (32767 * 32767) →
    (let w := windowResult length c
     let q : Int := c.s2 / (16 * length : Nat)
     let square := max 0 (q - w.m * w.m)
     (w.vac * w.vac : Int) ≤ square ∧ square < (w.vac + 1) * (w.vac + 1) ∧ w.vac ≤ 32767 ∧ w.vac * 15 ≤ 491505))
  ∧ (∀ (length : Nat) (v : Int) (c : Accumulator), 0 < length → c.s1 = 16 * length * v → c.s2 = 16 * length * (v.natAbs * v.natAbs) →
      (windowResult length c).m = v ∧ (windowResult length c).vac = 0)
  ∧ (windowResult 50 { s1 := 1599999, s2 := 3199996001 }).m = 1999
  ∧ (windowResult 50 { s1 := 1599999, s2 := 3199996001 }).vac = 63
  ) ∧ (
  ∀ (length : Nat) (c : Accumulator), 0 < length → length ≤ 250 →
    (let f := (windowResult length c).f
     (c.count ≤ 2 → f = 0)
      ∧ ∀ first last : Nat, c.first = some first → c.last = some last → c.count - 1 ≤ last - first → first ≤ last →
          last < 16 * length → 3 ≤ c.count →
          f = (c.count - 1) * 200000 / (last - first) ∧ 2 ≤ last - first ∧ 100 ≤ f ∧ f ≤ 200000)
  )

/-- R8, R9: what any list of conditioned samples makes of an empty accumulator: the sample index, the two sums and their bounds,
the SAT mark, and a crossing record whose indices lie in the list, with the count at most one less than the number of samples
and the span at least one less than the count. R9: what one sample does to the crossing state, and when it records a crossing: it
reaches one side of the band while the state stands at the other, and the crossing is recorded at its index. -/
def Obligations.SamplesMakeSumsAndCrossings : Prop :=
  (
  ∀ (h : Int) (samples : List Int), 0 ≤ h → (∀ v ∈ samples, v.natAbs ≤ 32767) →
    (let c := samples.foldl (addSample h) {}
     c.index = samples.length ∧ c.s1 = samples.sum ∧ c.s2 = (samples.map fun v => v.natAbs * v.natAbs).sum
      ∧ c.s1.natAbs ≤ samples.length * 32767 ∧ c.s2 ≤ samples.length * (32767 * 32767)
      ∧ (c.sat = true ↔ ∃ v ∈ samples, v.natAbs = 32767)
      ∧ (c.count = 0 ↔ c.first = none) ∧ (c.first = none ↔ c.last = none) ∧ c.count ≤ samples.length - 1
      ∧ ∀ first last, c.first = some first → c.last = some last →
          first ≤ last ∧ last < samples.length ∧ c.count - 1 ≤ last - first)
  ) ∧ (
  ∀ (h v : Int) (c : Accumulator), 0 ≤ h →
    (let d := addSample h c v
     let both : Prop := h ≤ v ∧ v ≤ -h
     let crosses : Prop := ¬ both ∧ (h ≤ v ∧ c.crossing = .below ∨ v ≤ -h ∧ c.crossing = .above)
     (both → d.crossing = c.crossing) ∧ (¬ both → h ≤ v → d.crossing = .above) ∧ (¬ both → v ≤ -h → d.crossing = .below)
      ∧ (-h < v → v < h → d.crossing = c.crossing)
      ∧ (crosses → d.count = c.count + 1 ∧ d.last = some c.index
          ∧ (c.first = none → d.first = some c.index) ∧ (c.first ≠ none → d.first = c.first))
      ∧ (¬ crosses → d.count = c.count ∧ d.last = c.last ∧ d.first = c.first)
      ∧ d.index = c.index + 1 ∧ d.s1 = c.s1 + v ∧ d.s2 = c.s2 + v.natAbs * v.natAbs
      ∧ (d.sat = true ↔ c.sat = true ∨ v.natAbs = 32767) ∧ d.cells = c.cells ∧ d.currentSum = c.currentSum)
  )

/-- R23, R24: the class of a window: OVER by SAT, DEAD below the dead threshold, the code of the first SYSTEM record in table
order whose bands hold its three figures, and otherwise UNKNOWN. R29, R30, R31: one persistence step: a class that is the
confirmed state clears the candidate; another counts on or begins a candidate; at P(w) the confirmed state becomes the class,
with a LINE report of the cause WINDOW. -/
def Obligations.WindowClassIsFoundAndConfirmed : Prop :=
  (
  ∀ (s : State) (w : WindowResult),
    (let t := (settings s).deadThreshold
     let fits (r : SystemRecord) : Prop :=
      r.vacLo ≤ w.vac ∧ w.vac ≤ r.vacHi ∧ r.dcLo ≤ w.m.natAbs ∧ w.m.natAbs ≤ r.dcHi ∧ r.fLo ≤ w.f ∧ w.f ≤ r.fHi
     (w.sat = true → classify s w = .over)
      ∧ (w.sat = false → w.vac < t → w.m.natAbs < t → classify s w = .dead)
      ∧ (w.sat = false → ¬ (w.vac < t ∧ w.m.natAbs < t) →
          (∀ before r after, validRecords s.vl.tables.system = before ++ r :: after → (∀ e ∈ before, ¬ fits e) → fits r →
              classify s w = .system r.code)
          ∧ ((∀ r ∈ validRecords s.vl.tables.system, ¬ fits r) → classify s w = .unknown)))
  ) ∧ (
  ∀ (a : Act) (w : WindowClass),
    (let l := a.s.lm
     let count := match l.candidate with
      | some c => if c.cls = w then c.count + 1 else 1
      | none => 1
     let wanted := match w with
      | .system c => (systemRecord a.s c).elim 15 (·.persistence)
      | .unknown => (settings a.s).unknownPersistence
      | .dead => 1
      | .over => 1
     (l.confirmed = classState w → (persist w a).s = { a.s with lm := { l with candidate := none } })
      ∧ (l.confirmed ≠ classState w → count < wanted →
          (persist w a).s = { a.s with lm := { l with candidate := some { cls := w, count } } })
      ∧ (l.confirmed ≠ classState w → wanted ≤ count →
          (persist w a).s.lm = { l with candidate := none, confirmed := classState w, confirmedSince := estimate a.s }
          ∧ (persist w a).s.ru.slots[(14 : Fin 44)].report =
              some (.line (classState w) l.confirmed .window l.windowSequence (estimate a.s))))
  )

/-- R33, R34, R35: the dead run and the contact loss that a live cell ends it with: its entry, its CONTACT_LOSS report, and Ice
Control told; the run-start record goes with the run (assumption log 37). R31: a new confirmed state, its LINE report, its
readers, and its protective demand, which the model always raises before a reader acts (assumption log 53). R36, R37, R75: the
condition that a new confirmed state meets, and what its demand does: the PROTECTIVE_TRIP report, MB_TRIP for OVER alone, and
the MB open request. R5, R32: the loss of the LINE role discards the partial window, the dead run and the candidate, and
confirms NO_SENSE. R33: a dead run may be one of arcs where a pantograph is UP in role COLLECT with its isolating switch
reported CLOSED. -/
def Obligations.DeadRunsContactLossesAndDemands : Prop :=
  (
  ∀ s : State,
    arcEligible s = true ↔ s.pans.a.state = .up ∧ s.pans.a.role = some .collect ∧ s.sg.isoA.reported = .closed
      ∨ s.pans.b.state = .up ∧ s.pans.b.role = some .collect ∧ s.sg.isoB.reported = .closed
  ) ∧ (
  ∀ a : Act,
    (let l := a.s.lm
     let confirm := (settings a.s).deadConfirm
     (l.deadRun = 0 → deadCell a = a.modLm fun l =>
        { l with deadRun := 1
                 runStart := some { eligible := arcEligible a.s, position := estimate a.s, state := l.confirmed } })
      ∧ (0 < l.deadRun → l.deadRun + 1 < confirm → deadCell a = a.modLm fun l => { l with deadRun := l.deadRun + 1 })
      ∧ (0 < l.deadRun → l.deadRun + 1 = confirm →
          (deadCell a).s.lm.confirmed = .dead ∧ (deadCell a).s.lm.candidate = none ∧ (deadCell a).s.lm.deadRun = confirm
          ∧ deadCell a = setConfirmed .dead .fastDead (a.modLm fun l => { l with deadRun := confirm, candidate := none }))
      ∧ (0 < l.deadRun → confirm ≤ l.deadRun → deadCell a = a)
      ∧ (liveCell a).s.lm.deadRun = 0 ∧ (liveCell a).s.lm.runStart = none
      ∧ (∀ r, l.runStart = some r → 0 < l.deadRun → l.deadRun < confirm → r.eligible = true →
          (let entry : ArcEntry := { position := r.position, length := l.deadRun, state := r.state }
           let ring := (if l.arcs.length < 32 then l.arcs else l.arcs.drop 1) ++ [entry]
           liveCell a =
            { s := ({ a.s with lm := { l with deadRun := 0, runStart := none, arcs := ring } }).reported
                (.contactLoss entry ring.length)
              notes := a.notes ++ [.iceArc] }))
      ∧ ((∀ r, l.runStart = some r → r.eligible = true → l.deadRun = 0 ∨ confirm ≤ l.deadRun) →
          liveCell a = a.modLm fun l => { l with deadRun := 0, runStart := none }))
  ) ∧ (
  ∀ (new : LineState) (cause : LineCause) (a : Act),
    (let l := a.s.lm
     let told : Act :=
      { s := ({ a.s with lm := { l with confirmed := new, confirmedSince := estimate a.s } }).reported
          (.line new l.confirmed cause l.windowSequence (estimate a.s))
        notes := a.notes ++ [.tripRelease, .coLine, .iceEvaluate .other, .iceAllocate, .gateReview] }
     (l.confirmed = new → setConfirmed new cause a = a)
      ∧ (l.confirmed ≠ new → tripCause a.s new = none → setConfirmed new cause a = told)
      ∧ ∀ c, l.confirmed ≠ new → tripCause a.s new = some c → setConfirmed new cause a = raiseDemand c told)
  ) ∧ (
  ∀ a : Act,
    (let gone : LineMonitor := { a.s.lm with acc := {}, expected := none, deadRun := 0, runStart := none, candidate := none }
     let t := (takeNote .lineLost a).s
     (a.s.lm.confirmed = .noSense → takeNote .lineLost a = a.modLm fun _ => gone)
      ∧ (a.s.lm.confirmed ≠ .noSense →
          t.lm = { gone with confirmed := .noSense, confirmedSince := estimate a.s }
          ∧ t.ru.slots[(14 : Fin 44)].report =
              some (.line .noSense a.s.lm.confirmed .lineLost a.s.lm.windowSequence (estimate a.s))))
  ) ∧ (
  (∀ (s : State) (new : LineState),
    (let engaged : Prop := s.sg.mb.reported = .closed ∨ (s.sg.mb.move.isSome ∧ s.sg.mb.target = some .closed)
     (tripCause s new = some .over ↔ new = .over)
      ∧ (tripCause s new = some .dead ↔ new = .dead ∧ engaged)
      ∧ (tripCause s new = some .noSense ↔ new = .noSense ∧ engaged)
      ∧ (tripCause s new = some .wrongSelector ↔ ∃ c, new = .system c ∧ engaged
          ∧ ¬ ∃ r sel, systemRecord s c = some r ∧ r.selector = .named sel ∧ s.sg.ss.reported = selectorPos sel)))
  ∧ ∀ (cause : TripCause) (a : Act),
      (let placed := a.s.reported
          (.protectiveTrip cause a.s.lm.confirmed a.s.sg.mb.reported a.s.sg.mb.move.isSome a.s.lm.windowSequence)
       raiseDemand cause a = (moveRequest .mb .opened .protection
          { a with s := { placed with sg := { a.s.sg with mbTrip := a.s.sg.mbTrip || cause == .over } } }).1)
  )

/-- R17, R18: an entry joins the tail of the Window Digest FIFO; at 64 entries the oldest leaves first and OVERFLOW is set.
R201: a report takes its slot, and sets the slot's OVERRUN mark where it replaces a pending report; the other slots stand. R184,
R185: which STATUS payloads are offered to the Telemetry Forward Queue, and what an offer does at a queue with room and at a
full one. -/
def Obligations.QueuesAndSlotsTakeTheirItems : Prop :=
  (
  ∀ (e : DigestEntry) (l : LineMonitor),
    (l.digests.length < 64 → appendDigest e l = { l with digests := l.digests ++ [e] })
      ∧ ∀ oldest rest, l.digests = oldest :: rest → l.digests.length = 64 →
          appendDigest e l = { l with digests := rest ++ [e], overflow := true } ∧ (appendDigest e l).digests.length = 64
  ) ∧ (
  ∀ (r : Report) (a : Act) (i : Fin 44),
    (let before := a.s.ru.slots[slotOf r]
     (placeReport r a).s.ru.slots[slotOf r] = { report := some r, overrun := before.overrun || before.report.isSome }
      ∧ (i ≠ slotOf r → (placeReport r a).s.ru.slots[i] = a.s.ru.slots[i]) ∧ (placeReport r a).notes = a.notes)
  ) ∧ (
  ∀ (d : DirectoryRecord) (role : Role) (payload : List Byte) (a : Act),
    (let item : TelemetryItem := { role, port := d.port, kind := d.kind, payload }
     let wanted : Prop := d.forwarding = .named .all
        ∨ d.forwarding = .named .changes ∧ (roleOf a.s role).lastForwarded ≠ some payload
     (¬ wanted → forward d role payload a = a)
      ∧ (wanted → a.s.ru.telemetry.length < 16 →
          (forward d role payload a).s.ru = { a.s.ru with telemetry := a.s.ru.telemetry ++ [item] }
            ∧ (roleOf (forward d role payload a).s role) = { roleOf a.s role with lastForwarded := some payload })
      ∧ (wanted → 16 ≤ a.s.ru.telemetry.length →
          forward d role payload a = { a with s := { a.s with ru := { a.s.ru with dropped := true } } }))
  )

/-! ## Pantographs (03) -/

/-- R44, R45: what refuses a PAN_RAISE, in the order of the checks and of the raise interlocks, and a stage-0 RAMP that the gate
refuses; the Pan Record stays as it is. R46, R47: one that passes every check is taken: the record is RAISING with its stage and
raise deadlines, the first RAMP has left, a PAN_STATE report is placed, the reply is ACCEPTED, and the readers are told; where
the strip switch is active, the cause STRIP begins a lowering in the same act, and the reply is ACCEPTED all the same. Which
states pass the first four checks and the raise interlocks, and the function of the strip switch, are said first. -/
def Obligations.RaiseIsRefusedOrTaken : Prop :=
  (
  ∀ (s : State) (p : Pan) (role : PanRole) (profile : Nat),
    (let other := panOf s (otherPan p)
     (raiseRefusal s p role profile = none ↔ s.vl.mode = .run ∧ profileRecord s profile ≠ none
        ∧ rolePresent s (panRole p) = true ∧ (panOf s p).state = .down)
      ∧ (firstFailed (raiseClauses s p role) = none ↔ functionActive s .roofAccess = false ∧ s.sg.es.reported = .opened
          ∧ ¬ (role = .collect ∧ (other.state = .raising ∨ other.state = .up) ∧ other.role = some .collect)
          ∧ (devOf s (isoOf p)).reported = (if role = .collect then .closed else .opened))
      ∧ stripActive s p = functionActive s (if p = .a then .stripA else .stripB))
  ) ∧ (
  ∀ (s : State) (seq profile : Nat) (p : Pan) (role : PanRole), Ready s → Sending s →
    (let answered (r : Result) (data : List Byte) : Prop :=
      exec (.panRaise seq p role profile) s = .next ((framed s).replied seq 0x10 r data)
     let r := panOf s p
     let other := panOf s (otherPan p)
     (s.vl.mode = .standby → answered .mode [])
      ∧ (s.vl.mode = .run → profileRecord s profile = none → answered .range [])
      ∧ ∀ pr, s.vl.mode = .run → profileRecord s profile = some pr →
          (rolePresent s (panRole p) = false → answered .headAbsent [])
          ∧ (rolePresent s (panRole p) = true →
              (r.state = .fault → answered .fault [])
              ∧ (r.state = .lowering → answered .busy [])
              ∧ ((r.state = .raising ∨ r.state = .up) → answered (if r.role = some role then .already else .busy) [])
              ∧ (r.state = .down →
                  (functionActive s .roofAccess = true → answered .interlock (putFailed .raiseRoofAccess))
                  ∧ (functionActive s .roofAccess = false →
                      (s.sg.es.reported ≠ .opened → answered .interlock (putFailed .raiseEs))
                      ∧ (s.sg.es.reported = .opened →
                          (role = .collect → (other.state = .raising ∨ other.state = .up) → other.role = some .collect →
                            answered .interlock (putFailed .raiseOther))
                          ∧ (¬ (role = .collect ∧ (other.state = .raising ∨ other.state = .up) ∧ other.role = some .collect) →
                              (devOf s (isoOf p)).reported ≠ (if role = .collect then .closed else .opened) →
                              answered .interlock (putFailed .raiseIso))))))
          ∧ ∀ first rest f, pr.stages = first :: rest → raiseRefusal s p role profile = none →
              firstFailed (raiseClauses s p role) = none → judge s (rampCommand p first.target first.rate .pan) = some f →
              exec (.panRaise seq p role profile) s = .next
                (((framed s).reported
                  (.gate (panRole p) (some .ramp) .pan none .refused (some f) none false)).replied seq 0x10 .interlock
                  (putFailed f)))
  ) ∧ (
  ∀ (s : State) (seq : Nat) (p : Pan) (role : PanRole) (pr : ProfileRecord) (first : Stage) (d : DirectoryRecord),
    Ready s → RaiseReady s p role pr first .pan d →
    (let raised : Act :=
      { s := (({ framed s with pans := s.pans.set p (raisedRecord (panOf s p) role pr first .pan s.now) }).sentOn d.port
                (rampCommand p first.target first.rate .pan).payload).reported
              (.panState p .raising .down (some role) none (panOf s p).latch)
        notes := [.coPan p .raising none, .iceEvaluate .other, .gateReview] }
     let accepted (a : Act) : Prop :=
      exec (.panRaise seq p role pr.number) s = .next (complete (reply seq 0x10 { result := .accepted } a)).s
     (stripActive s p = false → accepted raised)
      ∧ (stripActive s p = true → accepted (beginLowering p .strip .immediate false raised)))
  )

/-- R47, R54: the stage deadline leaves the last stage without one, or plays the next stage where the gate admits its RAMP; R48:
a RAMP that the gate refuses lowers the pantograph with the cause PROTECT, immediate. The vent guard ends AWAIT_MB with the VENT
command, and a DOWN contact that is active ends the lowering then (assumption log 18). R54: AWAIT_MB is entered with the vent
guard and the MB open request, and ends in the same way where MB is reported OPEN and is not engaged, tested at the entry and at
each change of the Switchgear Record, the guard being cancelled; in any other phase, or where MB is not so reported, the change
leaves the Pan Record alone. The clock is that of assumption log 2. R49, R51: the UP contact makes a RAISING pantograph UP and
presents the hold pressure, which is the hold base plus the gain times the speed in m/s, floored and at most the max pressure; a
HOLD is due when none has been sent or it differs by 20 mbar or more. R51 at a position frame: a pantograph that is not UP, or
whose hold pressure is less than 20 mbar from the last one, presents nothing; a HOLD that is due is presented with the origin
PAN, becomes the last hold pressure where the gate admits it, and leaves the last hold pressure where the gate refuses it, which
its GATE report tells. That a RAMP or a HOLD which is admitted and cannot be delivered sets the stage deadline or becomes the
last hold pressure too is the model's reading (assumption log 33). R183: a VENT for a head that is away is counted and reported
as undelivered, and AWAIT_MB ends as with the head there. Also: the duration of a stage, rounded up to whole milliseconds, and
the bytes of RAMP, HOLD and VENT. -/
def Obligations.StagesVentGuardAndHold : Prop :=
  (
  (∀ (start : Nat) (st : Stage), 0 < st.rate →
    (let way := (if st.target < start then start - st.target else st.target - start) * 1000
     way ≤ stageDuration start st * st.rate ∧ stageDuration start st * st.rate < way + st.rate))
  ∧ (∀ s : State, downActive s .a = functionActive s .panADown ∧ downActive s .b = functionActive s .panBDown)
  ∧ ∀ (p : Pan) (target rate pressure : Nat) (o : Origin),
      (let role : Role := if p = .a then .panA else .panB
       let two (n : Nat) : List Byte := [BitVec.ofNat 8 (n / 256), BitVec.ofNat 8 n]
       rampCommand p target rate o =
          { role, content := .ramp target rate, payload := 1 :: (two target ++ two rate), origin := o, seq := none }
        ∧ holdCommand p pressure =
            { role, content := .hold pressure, payload := 2 :: two pressure, origin := .pan, seq := none }
        ∧ ventCommand p = { role, content := .vent, payload := [3], origin := .pan, seq := none })
  ) ∧ (
  ∀ (s : State) (p : Pan) (t : Nat), s.powered = true → Sending s →
    (let now := max s.now t
     let r := panOf s p
     (∀ n k pr, r.stageDeadline = some t → r.state = .raising → r.stage = some k → r.profile = some n →
        profileRecord s n = some pr →
        (pr.stages[k + 1]? = none → exec (.stageDeadlineExpiry p) s = .next
          { s with now, pans := s.pans.set p { r with stage := some (k + 1), stageDeadline := none } })
        ∧ (∀ st o f, pr.stages[k + 1]? = some st → r.raiseOrigin = some o →
            judge s (rampCommand p st.target st.rate o) = some f →
            exec (.stageDeadlineExpiry p) s = .next (complete (beginLowering p .protect .immediate false
              { s := ({ s with now, pans := s.pans.set p { r with stage := some (k + 1), stageDeadline := none } }).reported
                  (.gate (panRole p) (some .ramp) o none .refused (some f) none false) })).s)
        ∧ ∀ was st o d, pr.stages[k]? = some was → pr.stages[k + 1]? = some st → r.raiseOrigin = some o →
            judge s (rampCommand p st.target st.rate o) = none → rolePresent s (panRole p) = true →
            directoryOfRole s (panRole p) = some d →
            exec (.stageDeadlineExpiry p) s = .next
              (({ s with
                  now
                  pans := s.pans.set p { r with
                    stage := some (k + 1), stageDeadline := some (now + stageDuration was.target st) } }).sentOn d.port
                (rampCommand p st.target st.rate o).payload))
      ∧ (∀ n k pr was st o, r.stageDeadline = some t → r.state = .raising → r.stage = some k → r.profile = some n →
          profileRecord s n = some pr → pr.stages[k]? = some was → pr.stages[k + 1]? = some st → r.raiseOrigin = some o →
          judge s (rampCommand p st.target st.rate o) = none → rolePresent s (panRole p) = false →
          exec (.stageDeadlineExpiry p) s = .next (deliver (rampCommand p st.target st.rate o)
            { s := { s with
                now
                pans := s.pans.set p { r with
                  stage := some (k + 1), stageDeadline := some (now + stageDuration was.target st) } } }).1.s)
      ∧ (r.ventGuard = some t → r.phase = some .awaitMb →
          (let venting : State := { s with now, pans := s.pans.set p { r with phase := some .venting, ventGuard := none } }
           let ends (vented : State) : Prop :=
            (downActive s p = false → exec (.ventGuardExpiry p) s = .next vented)
              ∧ (downActive s p = true → exec (.ventGuardExpiry p) s = .next
                  (complete (finishLowering p (latchOf r.primary r.causes) false false { s := vented })).s)
           (∀ d, rolePresent s (panRole p) = true → directoryOfRole s (panRole p) = some d →
              ends (venting.sentOn d.port (ventCommand p).payload))
            ∧ (rolePresent s (panRole p) = false → ends (deliver (ventCommand p) { s := venting }).1.s))))
  ) ∧ (
  ∀ (a : Act) (p : Pan),
    (let r := panOf a.s p
     let mb := a.s.sg.mb
     let opened : Prop := mb.reported = .opened ∧ (mb.move = none ∨ mb.target ≠ some .closed)
     let venting : Act := { a with s := { a.s with pans := a.s.pans.set p { r with phase := some .venting, ventGuard := none } } }
     let ends (vented : Act) : Prop :=
      (r.phase = some .awaitMb → opened → downActive a.s p = false → takeNote (.panMb p) a = vented)
        ∧ (r.phase = some .awaitMb → opened → downActive a.s p = true →
            takeNote (.panMb p) a = finishLowering p (latchOf r.primary r.causes) false false vented)
     (r.phase ≠ some .awaitMb ∨ ¬ opened → takeNote (.panMb p) a = a)
      ∧ (∀ d, rolePresent a.s (panRole p) = true → directoryOfRole a.s (panRole p) = some d →
          ends { venting with s := venting.s.sentOn d.port (ventCommand p).payload })
      ∧ (rolePresent a.s (panRole p) = false → ends (deliver (ventCommand p) venting).1)
      ∧ enterAwaitMb p false a = takeNote (.panMb p) (moveRequest .mb .opened .pan
          { a with
            s := { a.s with
              pans := a.s.pans.set p
                { r with
                  phase := some .awaitMb
                  ventGuard := some (a.s.now + (settings a.s).ventGuard) } } }).1)
  ) ∧ (
  (∀ (a : Act) (p : Pan) (n : Nat) (pr : ProfileRecord) (d : DirectoryRecord), (panOf a.s p).state = .raising →
    (panOf a.s p).profile = some n → profileRecord a.s n = some pr → rolePresent a.s (panRole p) = true →
    directoryOfRole a.s (panRole p) = some d →
    (let pressure := min pr.maxPressure (pr.holdBase + pr.gain * speed a.s / 100)
     gateRecord a.s (panRole p) .hold = none →
     upContactOn p a =
      { s := ({ a.s with pans := a.s.pans.set p { panOf a.s p with
                state := .up, stage := none, stageDeadline := none, raiseDeadline := none, lastHold := some pressure } }.reported
              (.panState p .up .raising (panOf a.s p).role none (panOf a.s p).latch)).sentOn d.port
                (holdCommand p pressure).payload
        notes := a.notes ++ [.coPan p .up none, .iceEvaluate .other, .gateReview] }))
  ∧ (∀ (a : Act) (p : Pan),
      (let r := panOf a.s p
       let record (hold : Option Nat) : PanRecord :=
        { r with state := .up, stage := none, stageDeadline := none, raiseDeadline := none, lastHold := hold }
       let up : Act :=
        { s := ({ a.s with pans := a.s.pans.set p (record r.lastHold) }).reported (.panState p .up .raising r.role none r.latch)
          notes := a.notes ++ [.coPan p .up none, .iceEvaluate .other, .gateReview] }
       (r.state ≠ .raising → upContactOn p a = a)
        ∧ ∀ n pr, r.state = .raising → r.profile = some n → profileRecord a.s n = some pr →
            (let pressure := min pr.maxPressure (pr.holdBase + pr.gain * speed a.s / 100)
             let c := holdCommand p pressure
             let held (x : Act) : Act := { x with s := { x.s with pans := a.s.pans.set p (record (some pressure)) } }
             (∀ f, judge a.s c = some f → upContactOn p a =
                { up with s := up.s.reported (.gate (panRole p) (some .hold) .pan none .refused (some f) none false) })
              ∧ (∀ d, judge a.s c = none → rolePresent a.s (panRole p) = true → directoryOfRole a.s (panRole p) = some d →
                  upContactOn p a = held { up with s := up.s.sentOn d.port c.payload })
              ∧ (judge a.s c = none → rolePresent a.s (panRole p) = false → upContactOn p a = held (deliver c up).1))))
  ∧ ∀ last pressure : Nat, holdDue none pressure = true
      ∧ (holdDue (some last) pressure = true ↔ last + 20 ≤ pressure ∨ pressure + 20 ≤ last)
  ) ∧ (
  ∀ (a : Act) (p : Pan),
    (let r := panOf a.s p
     (r.state ≠ .up → takeNote (.panHold p) a = a)
      ∧ ∀ n pr, r.state = .up → r.profile = some n → profileRecord a.s n = some pr →
          (let pressure := min pr.maxPressure (pr.holdBase + pr.gain * speed a.s / 100)
           let near : Prop := ∃ last, r.lastHold = some last ∧ pressure < last + 20 ∧ last < pressure + 20
           let c := holdCommand p pressure
           let held (x : Act) : Act :=
            { x with
              s := { x.s with
                pans := a.s.pans.set p
                  { r with
                    lastHold := some pressure } } }
           (near → takeNote (.panHold p) a = a)
            ∧ (∀ f, ¬ near → judge a.s c = some f → takeNote (.panHold p) a =
                { a with
                  s := a.s.reported (.gate (panRole p) (some .hold) .pan none .refused (some f) none false) })
            ∧ (∀ d, ¬ near → judge a.s c = none → rolePresent a.s (panRole p) = true → directoryOfRole a.s (panRole p) = some d →
                takeNote (.panHold p) a = held { a with s := a.s.sentOn d.port c.payload })
            ∧ (¬ near → judge a.s c = none → rolePresent a.s (panRole p) = false →
                takeNote (.panHold p) a = held (deliver c a).1)))
  )

/-- R52, R53, R55: the first lower cause begins a lowering. With MB engaged and the role COLLECT, an orderly cause enters
AWAIT_MB and asks for MB open; otherwise the phase is VENTING at once, and an immediate cause asserts the vent output, asks for
MB open where MB is engaged and the role was COLLECT, and ends the lowering at once where the DOWN contact is active; an orderly
cause leaves it in VENTING there (assumption log 18). AWAIT_MB is tested at its entry (R54). R61, R183: with the head away, as
it always is at the cause HEAD_LOST, the lowering begins in the same way, the VENT is admitted and not sent, the role's
undelivered count goes up by one, stopping at 65535, and a HEAD_STATE report with the cause UNDELIVERED is placed, without a port
and its record where the role has no directory record (assumption log 32). R57: what such an end leaves. MB is engaged where it
is reported CLOSED or has a move to CLOSED in flight. -/
def Obligations.LoweringBegins : Prop :=
  (
  ∀ s : State, mbEngaged s = true ↔ s.sg.mb.reported = .closed ∨ s.sg.mb.move ≠ none ∧ s.sg.mb.target = some .closed
  ) ∧ (
  ∀ (a : Act) (p : Pan) (cause : LowerCause),
    (let r := panOf a.s p
     let deadline := a.s.now + (settings a.s).lowerTimeout
     let awaits : Prop := r.role = some .collect ∧ mbEngaged a.s = true
     let told (phase : LowerPhase) (guard : Option Nat) (vent : Bool) : State :=
      ({ a.s with pans := a.s.pans.set p (loweringRecord r cause deadline phase guard vent) }).reported
        (.panState p .lowering r.state none (some (cause, [cause])) r.latch)
     let notes := a.notes ++ [.coPan p .lowering (some cause), .iceEvaluate .other, .gateReview]
     let immediate (x : Act) : Prop :=
      (downActive a.s p = false → beginLowering p cause .immediate false a = x)
        ∧ (downActive a.s p = true →
            beginLowering p cause .immediate false a = finishLowering p (latchOf (some cause) [cause]) false false x)
     let awaiting : Act := requestMbOpen .pan { s := told .awaitMb (some (a.s.now + (settings a.s).ventGuard)) r.vent, notes }
     let begins (presented : State → State) : Prop :=
      (let vented (vent : Bool) : Act := { s := presented (told .venting none vent), notes }
       (¬ awaits → beginLowering p cause .orderly false a = vented r.vent)
        ∧ (¬ awaits → immediate (vented true))
        ∧ (awaits → immediate (requestMbOpen .pan (vented true))))
     let role := panRole p
     let port := (directoryOfRole a.s role).map fun d => d.port
     let head : Option PortRecord := port.bind fun n => a.s.ports[n]?
     let presence := (roleOf a.s role).presence
     let undelivered (x : State) : State :=
      ({ x with
          roles := updAt x.roles (roleIndex role) fun r =>
            { r with undelivered := if r.undelivered < 65535 then r.undelivered + 1 else r.undelivered } }).reported
        (.headState role port presence presence .undelivered (head.map PortRecord.link) (head.bind PortRecord.kind)
          (head.bind PortRecord.serial) none (some (some .vent, .pan, none)))
     (awaits → a.s.sg.mb.reported ≠ .opened → beginLowering p cause .orderly false a = awaiting)
      ∧ (awaits → beginLowering p cause .orderly false a = takeNote (.panMb p) awaiting)
      ∧ (∀ d, rolePresent a.s role = true → directoryOfRole a.s role = some d →
          begins fun x => x.sentOn d.port (ventCommand p).payload)
      ∧ (rolePresent a.s role = false → begins undelivered)
      ∧ ∀ (latch : Option FaultLatch) (vent : Bool) (x : Act), panOf (finishLowering p latch vent false x).s p =
          { panOf x.s p with
            state := if latch.isSome then .fault else .down
            latch, vent, causes := [], primary := none, phase := none, ventGuard := none, lowerDeadline := none })
  )

/-- R52, R56, R63: PAN_LOWER begins a lowering with the cause VEHICLE and answers ACCEPTED; while the pantograph is LOWERING the
cause joins the set, and in DOWN and FAULT nothing changes, and the answer is ALREADY. BOTH is taken for each, and ACCEPTED
where either began; that PAN_A takes it first is the model's choice (assumption log 66). R64: CLEAR_PAN_FAULT: NOT_ACTIVE
outside FAULT, FAULT while the DOWN contact is inactive, and otherwise DOWN with the latch and the vent output cleared, a
PAN_STATE report, and DONE. -/
def Obligations.PanLowerAndClearFaultRequests : Prop :=
  (
  ∀ (s : State) (seq : Nat) (p : Pan), Ready s →
    (let r := panOf s p
     let raised (p : Pan) : Prop := (panOf s p).state = .raising ∨ (panOf s p).state = .up
     (raised p → exec (.panLower seq (.one p)) s = .next (complete
        (reply seq 0x11 { result := .accepted } (beginLowering p .vehicle .orderly false { s := framed s }))).s)
      ∧ (r.state = .lowering → Sending s → exec (.panLower seq (.one p)) s = .next
          (({ framed s with pans := s.pans.set p { r with
              causes := if LowerCause.vehicle ∈ r.causes then r.causes else r.causes ++ [LowerCause.vehicle] } }).replied seq 0x11 .already))
      ∧ (r.state = .down ∨ r.state = .fault → Sending s →
          exec (.panLower seq (.one p)) s = .next ((framed s).replied seq 0x11 .already))
      ∧ (∃ a : Act, a = (lowerPan .b .vehicle .orderly false (lowerPan .a .vehicle .orderly false { s := framed s }).1).1
          ∧ (raised .a ∨ raised .b → exec (.panLower seq .both) s = .next (complete (reply seq 0x11 { result := .accepted } a)).s)
          ∧ (¬ raised .a → ¬ raised .b →
              exec (.panLower seq .both) s = .next (complete (reply seq 0x11 { result := .already } a)).s)))
  ) ∧ (
  ∀ (s : State) (seq : Nat) (p : Pan), Ready s →
    (let r := panOf s p
     (r.state ≠ .fault → Sending s → exec (.clearPanFault seq p) s = .next ((framed s).replied seq 0x12 .notActive))
      ∧ (r.state = .fault → downActive s p = false → Sending s →
          exec (.clearPanFault seq p) s = .next ((framed s).replied seq 0x12 .fault))
      ∧ (r.state = .fault → downActive s p = true → exec (.clearPanFault seq p) s = .next (complete
          { s := (({ framed s with pans := s.pans.set p { r with state := .down, latch := none, vent := false } }).reported
                  (.panState p .down .fault r.role none none)).replied seq 0x12 .done
            notes := [.coPan p .down none, .iceEvaluate .other, .gateReview] }).s))
  )

/-- R50, R55: the raise deadline begins the lowering RAISE_TIMEOUT. R58: the lower deadline ends a lowering with the fault latch
LOWER_TIMEOUT and the vent output asserted, and both reports are placed; in AWAIT_MB the VENT command is presented first, in
VENTING it has gone already. R57: which fault latch a lowering that its DOWN contact ends leaves, and the Pan Record after it:
FAULT with the latch or DOWN, the vent output released, with the PAN_STATE report and, where there is a latch, the PAN_FAULT
report; in AWAIT_MB the DOWN contact sends the VENT too. A VENT for a head that is away is counted and reported like any command
that cannot be delivered (R183), and the lowering goes on as with the head there. The clock is that of assumption log 2. R56: a
cause that reaches a pantograph already LOWERING joins its set, and an immediate one escalates AWAIT_MB (an active DOWN contact
there: assumption log 18). R59, R60, R61: the causes of the UP contact,
of the head's STATUS and of its loss. -/
def Obligations.LoweringsBeginAtDeadlinesAndEnd : Prop :=
  (
  ∀ (s : State) (p : Pan) (t : Nat), s.powered = true →
    (let r := panOf s p
     (r.raiseDeadline = some t → r.state = .raising → exec (.raiseDeadlineExpiry p) s = .next
        (complete (beginLowering p .raiseTimeout .immediate false { s := { s with now := max s.now t } })).s)
      ∧ ∀ primary, r.lowerDeadline = some t → r.state = .lowering → r.phase = some .venting → r.primary = some primary →
          exec (.lowerDeadlineExpiry p) s = .next (complete
            { s := (({ s with
                      now := max s.now t
                      pans := s.pans.set p { r with
                        state := .fault, latch := some .lowerTimeout, vent := true, causes := [], primary := none, phase := none,
                        ventGuard := none, lowerDeadline := none } }).reported
                    (.panState p .fault .lowering r.role (some (primary, r.causes)) (some .lowerTimeout))).reported
                    (.panFault p .lowerTimeout r.causes r.measured)
              notes := [.coPan p .fault none, .iceEvaluate .other, .gateReview] }).s)
  ) ∧ (
  (∀ (s : State) (p : Pan) (t : Nat) (primary : LowerCause), s.powered = true →
    (let r := panOf s p
     let later : State := { s with now := max s.now t }
     r.lowerDeadline = some t → r.state = .lowering → r.phase = some .awaitMb → r.primary = some primary →
     ∀ vented : State,
      (∃ d, rolePresent s (panRole p) = true ∧ directoryOfRole s (panRole p) = some d
          ∧ vented = later.sentOn d.port (ventCommand p).payload)
        ∨ rolePresent s (panRole p) = false ∧ vented = (deliver (ventCommand p) { s := later }).1.s →
      exec (.lowerDeadlineExpiry p) s = .next (complete
        { s := (({ vented with
                  pans := s.pans.set p
                    { r with
                      state := .fault
                      latch := some .lowerTimeout
                      vent := true
                      causes := []
                      primary := none
                      phase := none
                      ventGuard := none
                      lowerDeadline := none } }).reported
                (.panState p .fault .lowering r.role (some (primary, r.causes)) (some .lowerTimeout))).reported
                (.panFault p .lowerTimeout r.causes r.measured)
          notes := [.coPan p .fault none, .iceEvaluate .other, .gateReview] }).s))
  ∧ ∀ (a : Act) (p : Pan) (primary : LowerCause), (panOf a.s p).state = .lowering → (panOf a.s p).primary = some primary →
    (let r := panOf a.s p
     let latch := latchOf r.primary r.causes
     let new : PanState := if latch.isSome then .fault else .down
     let off (x : Act) : Act :=
      { s := ({ x.s with
          pans := x.s.pans.set p
            { r with
              state := new
              latch
              vent := false
              causes := []
              primary := none
              phase := none
              ventGuard := none
              lowerDeadline := none } }).reported (.panState p new .lowering r.role (some (primary, r.causes)) latch)
        notes := x.notes ++ [.coPan p new none, .iceEvaluate .other, .gateReview] }
     let ended (x : Act) : Act :=
      match latch with
      | none => off x
      | some l => { off x with s := (off x).s.reported (.panFault p l r.causes r.measured) }
     (r.phase ≠ some .awaitMb → downContactOn p a = ended a)
      ∧ (∀ d, r.phase = some .awaitMb → rolePresent a.s (panRole p) = true → directoryOfRole a.s (panRole p) = some d →
          downContactOn p a = ended { a with s := a.s.sentOn d.port (ventCommand p).payload })
      ∧ (r.phase = some .awaitMb → rolePresent a.s (panRole p) = false →
          downContactOn p a = ended (deliver (ventCommand p) a).1))
  ) ∧ (
  ∀ (a : Act) (p : Pan),
    (let r := panOf a.s p
     let has (c : LowerCause) : Prop := c ∈ r.causes
     let latch := latchOf r.primary r.causes
     (r.primary = some .strip → latch = some .strip) ∧ (r.primary = some .drop → latch = some .drop)
      ∧ (r.primary = some .raiseTimeout → latch = some .raiseTimeout)
      ∧ (∀ c, r.primary = some c → c ≠ .strip → c ≠ .drop → c ≠ .raiseTimeout →
          (has .strip → latch = some .strip) ∧ (¬ has .strip → has .drop → latch = some .drop)
          ∧ (¬ has .strip → ¬ has .drop → has .raiseTimeout → latch = some .raiseTimeout)
          ∧ (¬ has .strip → ¬ has .drop → ¬ has .raiseTimeout → latch = none))
      ∧ (r.state = .lowering → panOf (downContactOn p a).s p =
          { r with
            state := if latch.isSome then .fault else .down
            latch, vent := false, causes := [], primary := none, phase := none, ventGuard := none, lowerDeadline := none })
      ∧ (r.state ≠ .lowering → downContactOn p a = a))
  )
  ∧ (
  ∀ (a : Act) (p : Pan) (cause : LowerCause) (payload : List Byte),
    (let r := panOf a.s p
     let put (r : PanRecord) : Act := { a with s := { a.s with pans := a.s.pans.set p r } }
     let joined : PanRecord := { r with causes := if cause ∈ r.causes then r.causes else r.causes ++ [cause] }
     let venting : Act := put { joined with phase := some .venting, ventGuard := none, vent := true }
     let escalates (escalated : Act) : Prop :=
      (downActive a.s p = false → lowerPan p cause .immediate false a = (escalated, false))
        ∧ (downActive a.s p = true → lowerPan p cause .immediate false a =
            (finishLowering p (latchOf r.primary joined.causes) false false escalated, false))
     let pressure := min 6000 ((byteAt payload 0).toNat * 256 + (byteAt payload 1).toNat)
     let fault := (byteAt payload 2).getLsbD 0
     let measured : Act := put { r with measured := some pressure, headFault := fault }
     (r.state = .raising ∨ r.state = .up → ∀ kind, lowerPan p cause kind false a = (beginLowering p cause kind false a, true))
      ∧ (r.state = .down ∨ r.state = .fault → ∀ kind, lowerPan p cause kind false a = (a, false))
      ∧ (r.state = .lowering → lowerPan p cause .orderly false a = (put joined, false))
      ∧ (r.state = .lowering → r.phase ≠ some .awaitMb →
          lowerPan p cause .immediate false a = (put { joined with vent := true }, false))
      ∧ (∀ d, r.state = .lowering → r.phase = some .awaitMb → rolePresent a.s (panRole p) = true →
          directoryOfRole a.s (panRole p) = some d →
          escalates { venting with s := venting.s.sentOn d.port (ventCommand p).payload })
      ∧ (r.state = .lowering → r.phase = some .awaitMb → rolePresent a.s (panRole p) = false →
          escalates (deliver (ventCommand p) venting).1)
      ∧ (fault = true → r.headFault = false → panStatus p payload a = (lowerPan p .protect .immediate false measured).1)
      ∧ (fault = false ∨ r.headFault = true → panStatus p payload a = measured)
      ∧ takeNote (.panHeadLost p) a =
          (lowerPan p .headLost .immediate false (put { r with measured := none, headFault := false })).1
      ∧ (r.state = .up → upContactOff p a = (lowerPan p .drop .immediate false a).1)
      ∧ (r.state ≠ .up → upContactOff p a = a))
  )

/-! ## Switchgear (04) -/

/-- R70, R71, R72: a move request is checked for its target, the move in flight, the gate and the head, in this order; a request
that passes is sent and becomes the move in flight with its deadline, and the readers are told; that a change of the Switchgear
Record reaches PAN_A before PAN_B is the model's choice (assumption log 68). R183, R182: a command that the gate admits and
whose role is not PRESENT is not sent: the role's undelivered count goes up by one, stopping at 65535, and a HEAD_STATE report
with the cause UNDELIVERED carries the role's presence, its port with its record (both absent without a directory record:
assumption log 32), and the command's kind, origin and sequence; nothing else changes. R72: the two positions that may be a
target, the timeout of each device and target, and the command with its bytes. -/
def Obligations.MoveRequestIsCheckedInOrder : Prop :=
  (
  ∀ (st : Settings) (d : Dev) (target : Pos) (o : Origin),
    (let list : List Pos := match d with
      | .mb => [.opened, .closed, .unknown]
      | .ss => [.ac, .dc, .mid, .unknown]
      | .isoA => [.opened, .closed, .unknown]
      | .isoB => [.opened, .closed, .unknown]
      | .es => [.opened, .earthed, .unknown]
     (target ∈ devTargets d ↔ target ∈ list.take 2)
      ∧ moveTimeout st d target =
          (match d with
            | .mb => if target = .opened then st.mbOpen else st.mbClose
            | .ss => st.ss
            | .isoA => st.iso
            | .isoB => st.iso
            | .es => st.es)
      ∧ moveCommand d target o =
          { role := .switchgear, content := .move d target, origin := o, seq := none
            payload := [0, BitVec.ofNat 8 ([Dev.mb, .ss, .isoA, .isoB, .es].idxOf d), BitVec.ofNat 8 (list.idxOf target)] })
  ) ∧ (
  ∀ (a : Act) (d : Dev) (target : Pos) (o : Origin),
    (let e := devOf a.s d
     let commandable : Prop := target ∈ devTargets d
     let reversal : Prop := d = .mb ∧ e.target = some .closed ∧ target = .opened
     let free : Prop := e.move = none ∨ e.target ≠ some target ∧ reversal
     (¬ commandable → moveRequest d target o a = (a, .range))
      ∧ (commandable → e.move.isSome → e.target = some target → moveRequest d target o a = (a, .already))
      ∧ (commandable → e.move.isSome → e.target ≠ some target → ¬ reversal → moveRequest d target o a = (a, .busy))
      ∧ (∀ f, commandable → free → judge a.s (moveCommand d target o) = some f →
          (moveRequest d target o a).2 = .interlock f ∧ (moveRequest d target o a).1.s.sg = a.s.sg)
      ∧ (commandable → free → judge a.s (moveCommand d target o) = none → rolePresent a.s .switchgear = false →
          moveRequest d target o a = ((deliver (moveCommand d target o) a).1, .headAbsent)
          ∧ (moveRequest d target o a).1.s.sg = a.s.sg)
      ∧ ∀ r, commandable → free → judge a.s (moveCommand d target o) = none → rolePresent a.s .switchgear = true →
          directoryOfRole a.s .switchgear = some r →
          (let timeout := moveTimeout (settings a.s) d target
           moveRequest d target o a =
            ({ s := { a.s.sentOn r.port (moveCommand d target o).payload with
                      sg := a.s.sg.set d { e with
                        target := some target, move := some { origin := o, deadline := a.s.now + timeout, timeout } } }
               notes := a.notes ++ [.panMb .a, .panMb .b, .coSwitch, .iceEvaluate .other, .gateReview] }, .accepted)))
  ) ∧ (
  ∀ (c : Command) (a : Act), rolePresent a.s c.role = false →
    (let port := (directoryOfRole a.s c.role).map fun d => d.port
     let held : Option PortRecord := port.bind fun p => a.s.ports[p]?
     let presence := (roleOf a.s c.role).presence
     deliver c a =
      ({ a with
          s := ({ a.s with
              roles := updAt a.s.roles (roleIndex c.role) fun r =>
                { r with undelivered := if r.undelivered < 65535 then r.undelivered + 1 else r.undelivered } }).reported
            (.headState c.role port presence presence .undelivered (held.map PortRecord.link) (held.bind PortRecord.kind)
              (held.bind PortRecord.serial) none (some (c.content.kind, c.origin, c.seq))) }, false))
  )

/-- R68, R69: what a STATUS of the switchgear head does to each device: the reported position is taken; a move ends where it is
the target, which clears the fault mark and keeps the target; otherwise the move goes on. R73, R76: the move deadline gives the
move up: the device is IDLE with the fault mark of the target, a SWITCHGEAR_FAULT report is placed, a breaker open asserts
MB_TRIP, and the readers are told; that a change of the Switchgear Record reaches PAN_A before PAN_B is the model's choice
(assumption log 68). The clock is that of log 2. -/
def Obligations.MovesEndOrAreGivenUp : Prop :=
  (
  ∀ (payload : List Byte) (g : Switchgear) (d : Dev),
    (let e := g.get d
     let value := devPositionOf d (byteAt payload (placeIn devsInOrder d))
     let after := (takePositions payload g).get d
     (e.move.isSome → e.target = some value → after = { reported := value, target := some value, move := none, mark := none })
      ∧ ((e.move = none ∨ e.target ≠ some value) → after = { e with reported := value })
      ∧ (takePositions payload g).mbTrip = g.mbTrip
      ∧ (judgeDevice e value).2 =
          (if e.move.isSome ∧ e.target = some value then some .ended
           else if e.reported = value then none
           else if e.move.isSome then some .during else some .uncommanded))
  ) ∧ (
  ∀ (s : State) (d : Dev) (m : Move) (target : Pos), s.powered = true → (devOf s d).move = some m →
    (devOf s d).target = some target →
    (let g := s.sg.set d { devOf s d with move := none, mark := some target }
     exec (.moveDeadlineExpiry d) s = .next (complete
      { s := ({ s with
                now := max s.now m.deadline
                sg := { g with mbTrip := if d = Dev.mb ∧ target = Pos.opened then true else s.sg.mbTrip } }).reported
              (.switchgearFault d target m.origin (devOf s d).reported m.timeout)
        notes := [.coGaveUp d target, .panMb .a, .panMb .b, .coSwitch, .iceEvaluate .other, .gateReview] }).s)
  )

/-- R68, R74, R76: what a STATUS of the switchgear head does as a whole: a frame that changes nothing and ends no move does
nothing; another takes the positions, makes its report, evaluates the release of MB_TRIP where MB moved or its fault mark was
cleared, tells the readers, and asks for MB open where MB became CLOSED, IDLE, with the fault mark CLOSED. R76: MB_TRIP is
released where MB is reported OPEN, the confirmed state is not OVER and MB has no fault mark, and stands otherwise. R77: the
loss of the head makes every device UNKNOWN and IDLE with no target; fault marks and MB_TRIP stand, and one report tells it (its
marks: assumption log 36). That a change of the Switchgear Record reaches PAN_A before PAN_B is the model's choice (assumption
log 68). -/
def Obligations.StatusReleasesTheTripAndLossClearsTheRecord : Prop :=
  (
  ∀ (payload : List Byte) (a : Act),
    (let before := a.s.sg.mb
     let marks := devsInOrder.filterMap fun d =>
      (judgeDevice (devOf a.s d) (devPositionOf d (byteAt payload (placeIn devsInOrder d)))).2.map fun m => (d, m)
     let g := takePositions payload a.s.sg
     let after := g.mb
     let moved : Prop := before.reported ≠ after.reported
     let late : Prop := moved ∧ after.reported = .closed ∧ before.move = none ∧ after.mark = some .closed
     let b : Act :=
      { s := ({ a.s with sg := g }).reported
          (.switchgearState g.mb.reported g.ss.reported g.isoA.reported g.isoB.reported g.es.reported marks)
        notes := a.notes }
     let told (more : List Note) (x : Act) : Act :=
      x.notify ([.panMb .a, .panMb .b, .coSwitch, .iceEvaluate .other] ++ more ++ [.gateReview])
     (marks = [] → switchgearStatus payload a = a)
      ∧ (marks ≠ [] → ¬ moved → (before.mark ≠ none ∧ after.mark = none) →
          switchgearStatus payload a = told [] (evaluateTrip b))
      ∧ (marks ≠ [] → ¬ moved → ¬ (before.mark ≠ none ∧ after.mark = none) → switchgearStatus payload a = told [] b)
      ∧ (marks ≠ [] → moved → ¬ late → switchgearStatus payload a = told [.iceAllocate] (evaluateTrip b))
      ∧ (late → switchgearStatus payload a = requestMbOpen .protection (told [.iceAllocate] (evaluateTrip b))))
  ) ∧ (
  ∀ a : Act,
    (let release : Prop := a.s.sg.mb.reported = .opened ∧ a.s.lm.confirmed ≠ .over ∧ a.s.sg.mb.mark = none
     (release → evaluateTrip a = a.modSg fun g => { g with mbTrip := false }) ∧ (¬ release → evaluateTrip a = a)
      ∧ takeNote .tripRelease a = evaluateTrip a ∧ takeNote .switchgearLost a = switchgearLost a)
  ) ∧ (
  ∀ a : Act,
    (let t := switchgearLost a
     let lost (e : Device) : Device := { e with reported := .unknown, target := none, move := none }
     let mark (d : Dev) : Option ChangeMark :=
      if (devOf a.s d).reported = .unknown then none else if (devOf a.s d).move.isSome then some .during else some .uncommanded
     (∀ d, devOf t.s d = lost (devOf a.s d)) ∧ t.s.sg.mbTrip = a.s.sg.mbTrip
      ∧ t.s = ({ a.s with sg := t.s.sg }).reported (.switchgearState .unknown .unknown .unknown .unknown .unknown
          (devsInOrder.filterMap fun d => (mark d).map fun m => (d, m)))
      ∧ t.notes = a.notes ++ [.panMb .a, .panMb .b, .coSwitch, .iceEvaluate .other]
          ++ (if a.s.sg.mb.reported = .unknown then [] else [.iceAllocate]) ++ [.gateReview])
  )

/-! ## Discrete lines (05) -/

/-- R81, R83: a change of a line's raw level begins, restarts or cancels the filter wait, and counts a bounce where it cancels
or restarts one; a level that is there already is no change. R82, R84, R86, R88: the filter deadline gives the filtered level
the raw level; on an armed GENERAL line whose event sense selects the edge, the latch takes the edge with the position estimate
and an INPUT_EVENT report is placed. On a line with another function a change of activity is handed to the function's block
(ROOF_ACCESS lowers PAN_A first, the model's choice: assumption log 66), and a selected edge then reaches the latch and, from a
marker line, the Position and Route Unit. R125: a marker edge fires the oldest action of its Marker List, or a queue head
triggered on it, and is otherwise, and in STANDBY, unused with a MARKER_UNUSED report; that the series which such a head begins
fires whole before the other blocks act is the model's choice (assumption log 69); that the ACTION_FIRED report of a Marker
List's action says its trigger is absent is the model's reading (assumption log 44). The clock is that of assumption log 2. R83,
R84, R86: the filter durations, when a line and a function are active, and which edges a sense selects. -/
def Obligations.LinesAreFilteredAndSettle : Prop :=
  (
  (∀ (s : State) (line : Fin 12),
    (inputMapRecord s line = none → filterDuration s line = 64
      ∧ (lineActive s line = true ↔ s.inputs[line].filtered = .high))
    ∧ ∀ m, inputMapRecord s line = some m →
        (m.filter = 0 → filterDuration s line = 1) ∧ (m.filter = 1 → filterDuration s line = 4)
        ∧ (m.filter = 2 → filterDuration s line = 16) ∧ (m.filter = 3 → filterDuration s line = 64)
        ∧ ∀ level, m.active = .named level → (lineActive s line = true ↔ filteredLevel s.inputs[line].filtered = some level))
  ∧ (∀ (s : State) (f : InputFunction), functionActive s f = true ↔
      ∃ (line : Fin 12) (m : InputMapRecord) (level : Level), inputMapRecord s line = some m ∧ m.function = .named f
        ∧ m.active = .named level ∧ filteredLevel s.inputs[line].filtered = some level)
  ∧ (filteredLevel .high = some .high ∧ filteredLevel .low = some .low ∧ filteredLevel .unsettled = none)
  ∧ ∀ (sense : Sense) (e : Edge), senseSelects sense e = true ↔
      sense = .both ∨ sense = .toActive ∧ e = .toActive ∨ sense = .toInactive ∧ e = .toInactive
  ) ∧ (
  ∀ (s : State) (line : Fin 12) (level : Level), s.powered = true → Sending s →
    (let r := s.inputs[line]
     let wait := some (s.now + filterDuration s line)
     let became (r : InputRecord) : Prop :=
      exec (.inputRawChange line level) s = .next { s with inputs := updAt s.inputs line fun _ => r }
     (r.raw = level → exec (.inputRawChange line level) s = .next s)
      ∧ (r.raw ≠ level → r.filtered = .unsettled →
          became { r with raw := level, deadline := wait, bounce := bump16 r.bounce })
      ∧ (r.raw ≠ level → r.filtered ≠ .unsettled → filteredLevel r.filtered = some level →
          became { r with raw := level, deadline := none, bounce := bump16 r.bounce })
      ∧ (r.raw ≠ level → r.filtered ≠ .unsettled → filteredLevel r.filtered ≠ some level →
          became { r with raw := level, deadline := wait }))
  ) ∧ (
  ∀ (s : State) (line : Fin 12) (t : Nat), s.powered = true → Sending s → s.inputs[line].deadline = some t →
    (let r := s.inputs[line]
     let settled : Filtered := match r.raw with
      | .high => .high
      | .low => .low
     let now := max s.now t
     (inputMapRecord s line = none → exec (.filterDeadlineExpiry line) s = .next
        { s with now, inputs := updAt s.inputs line fun r => { r with filtered := settled, deadline := none } })
      ∧ ∀ m active sense, inputMapRecord s line = some m → m.function = .named .general → m.active = .named active →
          m.sense = .named sense →
          (let before := decide (filteredLevel r.filtered = some active)
           let after := decide (r.raw = active)
           let edge : Option Edge := if before = after then none else if after then some .toActive else some .toInactive
           let at' := s.pr.position.estimate now
           (∀ e, edge = some e → senseSelects sense e = true → r.latch = .armed →
              exec (.filterDeadlineExpiry line) s = .next
                (({ s with now, inputs := updAt s.inputs line fun r =>
                      { r with filtered := settled, deadline := none, latch := .latched e at' } }).reported
                  (.inputEvent line (some .general) e at')))
            ∧ ((∀ e, edge = some e → senseSelects sense e = false ∨ r.latch ≠ .armed) →
                exec (.filterDeadlineExpiry line) s = .next
                  { s with now, inputs := updAt s.inputs line fun r => { r with filtered := settled, deadline := none } })))
  ) ∧ (
  ∀ (s : State) (line : Fin 12) (t : Nat) (m : InputMapRecord) (f : InputFunction) (active : Level) (sense : Sense),
    s.powered = true → s.inputs[line].deadline = some t → inputMapRecord s line = some m → m.function = .named f →
    m.active = .named active → m.sense = .named sense →
    (let r := s.inputs[line]
     let settled : Filtered := match r.raw with
      | .high => .high
      | .low => .low
     let now := max s.now t
     let before := decide (filteredLevel r.filtered = some active)
     let after := decide (r.raw = active)
     let edge : Option Edge := if before = after then none else if after then some .toActive else some .toInactive
     let at' := s.pr.position.estimate now
     let b : Act := { s := { s with now, inputs := updAt s.inputs line fun r => { r with filtered := settled, deadline := none } } }
     let hand (f : InputFunction) (active : Bool) (a : Act) : Act := match f, active with
      | .panAUp, true => upContactOn .a a
      | .panAUp, false => upContactOff .a a
      | .panBUp, true => upContactOn .b a
      | .panBUp, false => upContactOff .b a
      | .panADown, true => downContactOn .a a
      | .panBDown, true => downContactOn .b a
      | .stripA, true => (lowerPan .a .strip .immediate false a).1
      | .stripB, true => (lowerPan .b .strip .immediate false a).1
      | .roofAccess, true => (lowerBoth .roofAccess .immediate a).1.notify [.gateReview]
      | .roofAccess, false => a.notify [.gateReview]
      | _, _ => a
     let handed := if before = after then b else hand f after b
     let latched (e : Edge) : Act :=
      if r.latch = .armed then
        { s := ({ handed.s with inputs := updAt handed.s.inputs line fun r => { r with latch := .latched e at' } }).reported
            (.inputEvent line (some f) e at')
          notes := handed.notes }
      else handed
     let done (a : Act) : Prop := exec (.filterDeadlineExpiry line) s = .next (complete a).s
     ((∀ e, edge = some e → senseSelects sense e = false) → done handed)
      ∧ ∀ e, edge = some e → senseSelects sense e = true →
          (f = .marker0 → done (markerEdge 0 (latched e))) ∧ (f = .marker1 → done (markerEdge 1 (latched e)))
          ∧ (f ≠ .marker0 → f ≠ .marker1 → done (latched e)))
  ) ∧ (
  ∀ (a : Act) (m : Fin 2),
    (let r := a.s.pr
     let unused : Act :=
      { s := a.s.reported
          (.markerUnused m.val a.s.vl.mode (estimate a.s) r.queue.length (r.queue.head?.map (·.trigger)))
        notes := a.notes }
     (a.s.vl.mode = .standby → markerEdge m a = unused)
      ∧ (a.s.vl.mode = .run →
          (∀ action rest, r.marker m = action :: rest →
              markerEdge m a = (fire (markerSource m) action none (a.modPr fun r => r.setMarker m rest)).1)
          ∧ (r.marker m = [] → (∀ e rest, r.queue = e :: rest → e.trigger ≠ .onMarker m.val) → markerEdge m a = unused)
          ∧ ∀ action rest, r.marker m = [] → r.queue = { action, trigger := .onMarker m.val } :: rest →
              (let fired := fire .queue action (some (.onMarker m.val))
                (a.modPr fun r => { r with queue := rest, triggerTimer := none })
               (fired.2 = true → markerEdge m a = evaluateQueue fired.1) ∧ (fired.2 = false → markerEdge m a = fired.1))))
  )

/-- R89, R90: INPUT_ARM and INPUT_CLEAR: what they answer, and what they make of the line's event latch. The bytes of the
replies are those of Frame layouts, with the edge behind a presence byte as assumption logs 31 and 40 have it. R86: a line's
event sense is that of its record, NONE without one. -/
def Obligations.LatchesAreArmedAndCleared : Prop :=
  (
  ∀ (s : State) (line : Fin 12), (inputMapRecord s line = none → lineSense s line = .none)
    ∧ ∀ m sense, inputMapRecord s line = some m → m.sense = .named sense → lineSense s line = sense
  ) ∧ (
  ∀ (s : State) (seq : Nat), Ready s → Sending s →
    (let arm (n : Nat) (r : Result) : Prop := exec (.inputArm seq n) s = .next ((framed s).replied seq 0x50 r)
     let latched (line : Fin 12) (l : Latch) : State :=
      { framed s with inputs := updAt s.inputs line fun r => { r with latch := l } }
     (∀ n, 12 ≤ n → arm n .range ∧ exec (.inputClear seq n) s = .next ((framed s).replied seq 0x51 .range))
      ∧ ∀ line : Fin 12,
          (s.vl.tables.inputs.load ≠ .valid → arm line.val .tableInvalid)
          ∧ (s.vl.tables.inputs.load = .valid →
              (lineSense s line = .none → arm line.val .range)
              ∧ (lineSense s line ≠ .none →
                  (s.inputs[line].latch = .disarmed → exec (.inputArm seq line.val) s =
                    .next ((latched line .armed).replied seq 0x50 .done))
                  ∧ (s.inputs[line].latch = .armed → arm line.val .already)
                  ∧ (∀ e p, s.inputs[line].latch = .latched e p → arm line.val .notCleared)))
          ∧ (s.inputs[line].latch = .disarmed →
              exec (.inputClear seq line.val) s = .next ((framed s).replied seq 0x51 .already))
          ∧ (s.inputs[line].latch = .armed →
              exec (.inputClear seq line.val) s = .next ((latched line .disarmed).replied seq 0x51 .done [0]))
          ∧ (∀ e p, s.inputs[line].latch = .latched e p →
              exec (.inputClear seq line.val) s = .next
                ((latched line .disarmed).replied seq 0x51 .done (1 :: (putPlace edges e ++ putPosition p)))))
  )

/-! ## Command Gate (06) -/

/-- R99: a main-breaker close is judged against the clauses of H1 in their order, then against the GATE table; it is never
admitted unless what the rule says stands. -/
def Obligations.BreakerCloseNeedsEveryClauseOfH1 : Prop :=
  ∀ (s : State) (c : Command), c.content = .move .mb .closed →
    (let ss := s.sg.ss
     let matching : Prop := ∃ code r sel, s.lm.confirmed = .system code ∧ systemRecord s code = some r
        ∧ r.selector = .named sel ∧ selectorPos sel = ss.reported
     let collects (p q : Pan) : Prop := (panOf s p).state = .up ∧ (panOf s p).role = some .collect
        ∧ ¬ ((panOf s q).state = .up ∧ (panOf s q).role = some .collect) ∧ (devOf s (isoOf p)).reported = .closed
     let clauses : List (Failed × Prop) :=
      [(.h11, s.vl.mode = .run), (.h12, s.sg.es.reported = .opened),
       (.h13, ss.move = none ∧ (ss.reported = .ac ∨ ss.reported = .dc)), (.h14, s.sg.mb.mark = none),
       (.h15, s.lm.confirmed ≠ .over), (.h16, matching), (.h17, collects .a .b ∨ collects .b .a)]
     (∀ before f p after, clauses = before ++ (f, p) :: after → (∀ x ∈ before, x.2) → ¬ p → judge s c = some f)
      ∧ ((∀ x ∈ clauses, x.2) → judge s c = (gateRecord s c.role .mbClose).bind fun r => tableFailure s r c.origin)
      ∧ (judge s c = none → CloseAllowed s))

/-- R100: H2, H3 and H4: the switchgear moves other than the breaker's, each refused with its clause, and otherwise left to the
GATE table; no mode is read. R98: MB_OPEN, VENT, ES_OPEN and an empty SET_GROUPS are admitted in every state, whatever the GATE
table and the origin. R101: a RAMP needs the mode RUN, ES OPEN and ROOF_ACCESS inactive, in this order, whatever its origin. -/
def Obligations.OtherInterlocksAndTheAlwaysAdmitted : Prop :=
  (
  ∀ (s : State) (c : Command) (target : Pos),
    (let table (k : Kind) : Option Failed := (gateRecord s c.role k).bind fun r => tableFailure s r c.origin
     let mbOpen : Prop := s.sg.mb.reported = .opened
     (c.content = .move .ss target → (¬ mbOpen → judge s c = some .h2) ∧ (mbOpen → judge s c = table .ssMove))
      ∧ (c.content = .move .isoA target →
          (s.pans.a.state ≠ .down → judge s c = some .h3) ∧ (s.pans.a.state = .down → judge s c = table .isoAMove))
      ∧ (c.content = .move .isoB target →
          (s.pans.b.state ≠ .down → judge s c = some .h3) ∧ (s.pans.b.state = .down → judge s c = table .isoBMove))
      ∧ (c.content = .move .es .earthed →
          (¬ mbOpen → judge s c = some .h41)
          ∧ (mbOpen → ¬ (s.pans.a.state = .down ∧ s.pans.b.state = .down) → judge s c = some .h42)
          ∧ (mbOpen → s.pans.a.state = .down → s.pans.b.state = .down → judge s c = table .esEarth)))
  ) ∧ (
  ∀ (s : State) (c : Command),
    ((c.content = .move .mb .opened ∨ c.content = .vent ∨ c.content = .move .es .opened ∨ c.content = .setGroups 0) →
        judge s c = none)
      ∧ ∀ target rate, c.content = .ramp target rate →
          (s.vl.mode = .standby → judge s c = some .h51)
          ∧ (s.vl.mode = .run → s.sg.es.reported ≠ .opened → judge s c = some .h52)
          ∧ (s.vl.mode = .run → s.sg.es.reported = .opened → functionActive s .roofAccess = true → judge s c = some .h53)
          ∧ (s.vl.mode = .run → s.sg.es.reported = .opened → functionActive s .roofAccess = false →
              judge s c = (gateRecord s c.role .ramp).bind fun r => tableFailure s r c.origin)
  )

/-- R102: the GATE table: a record whose origin mask lacks the origin refuses with ORIGIN; otherwise the first of the record's
conditions, in the table's order, that does not hold refuses, and none admits. The mask's bit of an origin is its place, with
PROTECTION at bit 8, which no mask of four bits holds. -/
def Obligations.GateTableTestsItsConditionsInOrder : Prop :=
  ∀ (s : State) (r : GateRecord) (o : Origin),
    (let conditions : List (Failed × Prop) :=
      [(.mbOpen, s.sg.mb.reported = .opened), (.mbClosed, s.sg.mb.reported = .closed), (.ssAc, s.sg.ss.reported = .ac),
       (.ssDc, s.sg.ss.reported = .dc), (.lineSystem, ∃ c, s.lm.confirmed = .system c), (.lineDead, s.lm.confirmed = .dead),
       (.positionFresh, s.pr.position.fresh = true), (.noChangeover, s.co.step = .idle ∨ o = .sequencer),
       (.belowSpeed, (if s.pr.position.last = none then 0 else s.pr.position.speed) < r.speedLimit.getD 0)]
     let holds (k : Nat) (p : Prop) : Prop := r.conditions.getLsbD k = true → p
     let place : Nat := match o with
      | .vehicle => 0
      | .sequencer => 1
      | .pan => 2
      | .ice => 3
      | .protection => 8
     (inMask r o = r.origins.getLsbD place)
      ∧ (inMask r o = false → tableFailure s r o = some .origin)
      ∧ (inMask r o = true →
          (∀ before f p after, conditions = before ++ (f, p) :: after → (∀ x ∈ before.zipIdx, holds x.2 x.1.2) →
              ¬ holds before.length p → tableFailure s r o = some f)
          ∧ ((∀ x ∈ conditions.zipIdx, holds x.2 x.1.2) → tableFailure s r o = none)))

/-- R95, R97, R98, R105, R106, R110: a HEAD_COMMAND other than a MOVE: RAMP, HOLD, VENT and SET_GROUPS as Frame layouts spells
them, and the vehicle's own bytes for AUX1 and AUX2. A command that the role's head does not take is refused with KIND, and that
the report then has the kind of the command alone is the model's choice (assumption log 52); content that names no command, or is
shorter than its command's layout, is refused with KIND likewise, of no kind (assumption log 26). Then it is BUSY while its slot
is taken, unless it is always admitted; MASKED under READ_ONLY; sent where the gate admits it; held where its GATE record lets it
and its role is PRESENT; and otherwise refused, each with its GATE report. R183: admitted while its role is not PRESENT, it is
not sent, the undelivered count goes up by one, stopping at 65535, and a HEAD_STATE report with the cause UNDELIVERED carries its
kind, origin and sequence, without a port where the role has no HEAD_DIRECTORY record (assumption log 32); no reply and no GATE
report is made. A SET_GROUPS reads the six groups (assumption log 27). -/
def Obligations.VehicleCommandIsSentHeldOrRefused : Prop :=
  (
  ∀ (s : State) (seq : Nat) (role : Role) (b1 b2 b3 b4 : Byte) (rest : List Byte), s.powered = true →
    s.vl.link = .locked → Sending s →
    (let word (high low : Byte) : Nat := high.toNat * 256 + low.toNat
     let pans : List Role := [.panA, .panB]
     let own : List Role := [.aux1, .aux2]
     let spelled : List (List Byte × Content × Kind × List Role) :=
      [(1 :: b1 :: b2 :: b3 :: b4 :: rest, .ramp (word b1 b2) (word b3 b4), .ramp, pans),
       (2 :: b1 :: b2 :: rest, .hold (word b1 b2), .hold, pans),
       (3 :: rest, .vent, .vent, pans),
       (4 :: b1 :: rest, .setGroups (b1.setWidth 6), .setGroups, [.heater])]
     let forms : List (List Byte × Content × Kind × List Role) := if role ∈ own then [(b1 :: rest, .aux, .aux, own)] else spelled
     ∀ payload content kind heads, (payload, content, kind, heads) ∈ forms →
      (let c : Command := { role, content, payload, origin := .vehicle, seq := some seq }
       let took (t : State) : Prop := exec (.headCommand seq role payload) s = .next t
       let told (outcome : GateOutcome) (f : Failed) (t : State) : State :=
        t.reported (.gate role (some kind) .vehicle (some seq) outcome (some f) none false)
       let always : Prop := content = .vent ∨ content = .setGroups 0
       let free : Prop := always ∨ holdOf s role = none
       let heard : Prop := role ∈ heads ∧ free ∧ ∀ d, directoryOfRole s role = some d → d.access ≠ .named .readOnly
       let lets (f : Failed) (r : GateRecord) : Prop := gateRecord s role kind = some r ∧ f ≠ .origin ∧ 0 < r.holdTime
        ∧ inMask r .vehicle = true ∧ rolePresent s role = true
       let away (port : Option Nat) (link : Option PortLink) (head serial : Option Nat) : State :=
        ({ framed s with
            roles := updAt s.roles (roleIndex role) fun r =>
              { r with undelivered := if r.undelivered < 65535 then r.undelivered + 1 else r.undelivered } }).reported
          (.headState role port (roleOf s role).presence (roleOf s role).presence .undelivered link head serial none
            (some (some kind, .vehicle, some seq)))
       (role ∉ heads → took (told .refused .kind (framed s)))
        ∧ (role ∈ heads → ¬ free → took (told .refused .busy (framed s)))
        ∧ (∀ d, role ∈ heads → free → directoryOfRole s role = some d → d.access = .named .readOnly →
            took (told .refused .masked (framed s)))
        ∧ (always → judge s c = none)
        ∧ (∀ d, heard → judge s c = none → rolePresent s role = true → directoryOfRole s role = some d →
            took ((framed s).sentOn d.port payload))
        ∧ (∀ d (port : Fin 8), heard → judge s c = none → rolePresent s role = false → directoryOfRole s role = some d →
            d.port = port.val →
            took (away (some port.val) (some s.ports[port].link) s.ports[port].kind s.ports[port].serial))
        ∧ (heard → judge s c = none → directoryOfRole s role = none → took (away none none none none))
        ∧ ∀ f, heard → judge s c = some f →
            (∀ r, lets f r →
              (let h : Held := { command := c, seq, deadline := s.now + r.holdTime, failed := f }
               took (told .held f { framed s with holds := updAt s.holds (roleIndex role) fun _ => some h })))
            ∧ ((¬ ∃ r, lets f r) → took (told .refused f (framed s)))))
  ) ∧ (
  ∀ (s : State) (seq : Nat) (role : Role) (code : Byte) (rest : List Byte), s.powered = true → s.vl.link = .locked →
    Sending s → role ≠ .aux1 → role ≠ .aux2 →
    (let nameless : Prop := 4 < code.toNat ∨ code = 0 ∧ rest.length < 2 ∨ code = 0 ∧ (∃ b more, rest = b :: more ∧ 5 ≤ b.toNat)
        ∨ code = 1 ∧ rest.length < 4 ∨ code = 2 ∧ rest.length < 2 ∨ code = 4 ∧ rest = []
     nameless → exec (.headCommand seq role (code :: rest)) s = .next
      ((framed s).reported (.gate role none .vehicle (some seq) .refused (some .kind) none false)))
  )

/-- R95, R96, R71: a HEAD_COMMAND to move the switchgear: a role whose head takes no such command is refused with KIND, and that
the report then has the kind of the command alone is the model's choice (assumption log 52); an occupied slot is BUSY (R106), a
READ_ONLY head MASKED; a target that is no position to command (assumption log 42 for the kind reported), and a move in flight
elsewhere are refused, a close of MB in flight is reversed by an open; an admitted move is sent and becomes the move in flight;
one that the gate refuses is held where its GATE record lets it, and refused otherwise (R105). An open of MB is always admitted
(R98), and no held command stands against it (R106). R183: a move that is admitted while the head is away is not sent and is no
move in flight; it is counted and reported as undelivered. That a change of the Switchgear Record reaches PAN_A before PAN_B is the
model's choice (assumption log 68). -/
def Obligations.VehicleMoveIsCheckedThenSent : Prop :=
  (
  ∀ (s : State) (seq : Nat) (dev : Dev) (target : Pos) (d : DirectoryRecord), Ready s → Sending s →
    target ∈ devPositions dev → holdOf s .switchgear = none → rolePresent s .switchgear = true →
    directoryOfRole s .switchgear = some d → d.access ≠ .named .readOnly →
    (let payload := put8 0 ++ putPlace devsInOrder dev ++ [devPositionByte dev target]
     let c : Command := { role := .switchgear, content := .move dev target, payload, origin := .vehicle, seq := some seq }
     let told (f : Failed) : State :=
      (framed s).reported (.gate .switchgear c.content.kind .vehicle (some seq) .refused (some f) none false)
     let e := devOf s dev
     let timeout := moveTimeout (settings s) dev target
     (∀ role, role ∈ [Role.line, .panA, .panB, .heater, .climate] → exec (.headCommand seq role payload) s = .next
        ((framed s).reported (.gate role c.content.kind .vehicle (some seq) .refused (some .kind) none false)))
      ∧ (target ∉ devTargets dev → exec (.headCommand seq .switchgear payload) s = .next (told .range))
      ∧ (target ∈ devTargets dev → e.move.isSome → e.target = some target →
          exec (.headCommand seq .switchgear payload) s = .next (framed s))
      ∧ (target ∈ devTargets dev → e.move.isSome → e.target ≠ some target →
          ¬ (dev = .mb ∧ e.target = some .closed ∧ target = .opened) →
          exec (.headCommand seq .switchgear payload) s = .next (told .deviceMoving))
      ∧ (target ∈ devTargets dev → e.move = none → judge s c = none →
          exec (.headCommand seq .switchgear payload) s = .next (complete
            { s := { (framed s).sentOn d.port payload with
                      sg := s.sg.set dev { e with
                        target := some target, move := some { origin := .vehicle, deadline := s.now + timeout, timeout } } }
              notes := [.panMb .a, .panMb .b, .coSwitch, .iceEvaluate .other, .gateReview] }).s))
  ) ∧ (
  ∀ (s : State) (seq : Nat) (dev : Dev) (target : Pos) (d : DirectoryRecord), Ready s → Sending s → target ∈ devTargets dev →
    directoryOfRole s .switchgear = some d →
    (let payload := put8 0 ++ putPlace devsInOrder dev ++ [devPositionByte dev target]
     let c : Command := { role := .switchgear, content := .move dev target, payload, origin := .vehicle, seq := some seq }
     let told (outcome : GateOutcome) (f : Failed) (x : State) : State :=
      x.reported (.gate .switchgear c.content.kind .vehicle (some seq) outcome (some f) none false)
     let took (t : State) : Prop := exec (.headCommand seq .switchgear payload) s = .next t
     let e := devOf s dev
     let always : Prop := dev = .mb ∧ target = .opened ∨ dev = .es ∧ target = .opened
     let free : Prop := e.move = none ∨ dev = .mb ∧ e.target = some .closed ∧ target = .opened
     let heard : Prop := (always ∨ holdOf s .switchgear = none) ∧ d.access ≠ .named .readOnly
     (¬ always → holdOf s .switchgear ≠ none → took (told .refused .busy (framed s)))
      ∧ (always ∨ holdOf s .switchgear = none → d.access = .named .readOnly → took (told .refused .masked (framed s)))
      ∧ (always → judge s c = none)
      ∧ (heard → free → judge s c = none → rolePresent s .switchgear = true →
          (let timeout := moveTimeout (settings s) dev target
           took (complete
            { s := { (framed s).sentOn d.port payload with
                sg := s.sg.set dev
                  { e with
                    target := some target
                    move := some { origin := .vehicle, deadline := s.now + timeout, timeout } } }
              notes := [.panMb .a, .panMb .b, .coSwitch, .iceEvaluate .other, .gateReview] }).s))
      ∧ ∀ f, heard → free → judge s c = some f →
          ((∀ k r, c.content.kind = some k → gateRecord s .switchgear k = some r → f ≠ .origin → 0 < r.holdTime →
              inMask r .vehicle = true → rolePresent s .switchgear = true →
              (let h : Held := { command := c, seq, deadline := s.now + r.holdTime, failed := f }
               took (told .held f { framed s with holds := updAt s.holds (roleIndex .switchgear) fun _ => some h })))
            ∧ ((∀ k r, c.content.kind = some k → gateRecord s .switchgear k = some r →
                  f = .origin ∨ r.holdTime = 0 ∨ inMask r .vehicle = false ∨ rolePresent s .switchgear = false) →
                took (told .refused f (framed s)))))
  ) ∧ (
  ∀ (s : State) (seq : Nat) (dev : Dev) (target : Pos), s.powered = true → s.vl.link = .locked → Sending s →
    target ∈ devTargets dev → rolePresent s .switchgear = false →
    (let payload := put8 0 ++ putPlace devsInOrder dev ++ [devPositionByte dev target]
     let c : Command := { role := .switchgear, content := .move dev target, payload, origin := .vehicle, seq := some seq }
     let e := devOf s dev
     let always : Prop := dev = .mb ∧ target = .opened ∨ dev = .es ∧ target = .opened
     always ∨ holdOf s .switchgear = none → (∀ d, directoryOfRole s .switchgear = some d → d.access ≠ .named .readOnly) →
     e.move = none ∨ dev = .mb ∧ e.target = some .closed ∧ target = .opened → judge s c = none →
     exec (.headCommand seq .switchgear payload) s = .next (deliver c { s := framed s }).1.s)
  )

/-- R107: a review goes through every slot, in role order, which is the model's choice, as is that a change of the Switchgear
Record reaches PAN_A before PAN_B (assumption log 68); an empty slot is left as it is. R107: a held command that every interlock
and condition now admits leaves its slot with a GATE report ADMITTED and is sent; one that still fails keeps its slot with the
condition it now fails on; a held MOVE is checked against the move in flight again: it becomes the move, joins it unsent, or is
refused with DEVICE_MOVING. R108: the hold deadline empties the slot, and a GATE report says REFUSED with EXPIRED and the
condition last failed on; the command is not sent. R109: the loss of the role refuses the held command with HEAD_LOST; that a
review does not judge a command of a role that is not PRESENT is the model's reading (assumption log 34). The clock is that of
assumption log 2. -/
def Obligations.HeldCommandIsAdmittedOrExpires : Prop :=
  (
  ∀ (a : Act) (role : Role) (h : Held) (d : DirectoryRecord), holdOf a.s role = some h → rolePresent a.s role = true →
    h.command.role = role → directoryOfRole a.s role = some d →
    (let c := h.command
     (∀ f, judge a.s c = some f → reviewSlot a role = a.setHold role (some { h with failed := f }))
      ∧ (judge a.s c = none → (∀ dev t, c.content ≠ .move dev t) → reviewSlot a role =
          { a with s := (({ a.s with holds := updAt a.s.holds (roleIndex role) fun _ => none }).reported
              (.gate role c.content.kind c.origin c.seq .admitted none none false)).sentOn d.port c.payload }))
  ) ∧ (
  ∀ (s : State) (role : Role) (h : Held), s.powered = true → Sending s → holdOf s role = some h →
    exec (.holdDeadlineExpiry role) s = .next
      (({ s with now := max s.now h.deadline, holds := updAt s.holds (roleIndex role) fun _ => none }).reported
        (.gate h.command.role h.command.content.kind h.command.origin h.command.seq .refused (some .expired) (some h.failed)
          false))
  ) ∧ (
  ∀ (a : Act) (h : Held) (d : DirectoryRecord) (dev : Dev) (target : Pos), holdOf a.s .switchgear = some h →
    h.command.role = .switchgear → h.command.content = .move dev target → rolePresent a.s .switchgear = true →
    directoryOfRole a.s .switchgear = some d → judge a.s h.command = none →
    (let c := h.command
     let e := devOf a.s dev
     let report (outcome : GateOutcome) (f : Option Failed) (joined : Bool) : State :=
      ({ a.s with holds := updAt a.s.holds (roleIndex .switchgear) fun _ => none }).reported
        (.gate .switchgear c.content.kind c.origin c.seq outcome f none joined)
     let reversal : Prop := dev = .mb ∧ e.target = some .closed ∧ target = .opened
     let timeout := moveTimeout (settings a.s) dev target
     (e.move = none ∨ e.target ≠ some target ∧ reversal → reviewSlot a .switchgear =
        { s := { (report .admitted none false).sentOn d.port c.payload with
                  sg := a.s.sg.set dev { e with
                    target := some target, move := some { origin := .vehicle, deadline := a.s.now + timeout, timeout } } }
          notes := a.notes ++ [.panMb .a, .panMb .b, .coSwitch, .iceEvaluate .other, .gateReview] })
      ∧ (e.move ≠ none → e.target = some target → reviewSlot a .switchgear = { a with s := report .admitted none true })
      ∧ (e.move ≠ none → e.target ≠ some target → ¬ reversal →
          reviewSlot a .switchgear = { a with s := report .refused (some .deviceMoving) false }))
  ) ∧ (
  ∀ (a : Act) (role : Role) (h : Held), holdOf a.s role = some h →
    holdHeadLost role a =
        { s := ({ a.s with holds := updAt a.s.holds (roleIndex role) fun _ => none }).reported
            (.gate h.command.role h.command.content.kind h.command.origin h.command.seq .refused (some .headLost) none false)
          notes := a.notes }
      ∧ takeNote (.gateRoleLost role) a = holdHeadLost role a
      ∧ (rolePresent a.s role = false → reviewSlot a role = a)
      ∧ (∀ cause, rolePresent a.s role = true → (loseRole role cause a).notes = a.notes ++ leavingNotes role)
      ∧ .gateRoleLost role ∈ leavingNotes role
  ) ∧ (
  ∀ a : Act,
    takeNote .gateReview a = [Role.switchgear, .panA, .panB, .heater, .aux1, .aux2].foldl reviewSlot a
      ∧ ∀ role, holdOf a.s role = none → reviewSlot a role = a
  )

/-! ## Position and route (07) -/

/-- R115: the estimate, with its cap, its bound, and the worked figures. -/
def Obligations.EstimateAdvancesWithTheSpeed : Prop :=
  (∀ (r : PositionRecord) (now : Nat), r.last = none → r.estimate now = none)
  ∧ (∀ (r : PositionRecord) (now p t limit : Nat), r.last = some p → r.frameTime = some t → r.frameStale = some limit →
      r.estimate now = some (min 4294967295 (p + r.speed * min (now - t) limit / 10000))
        ∧ (r.speed = 0 → p ≤ 4294967295 → r.estimate now = some p)
        ∧ (t + limit ≤ now → r.estimate now = r.estimate (t + limit))
        ∧ (r.speed ≤ 12000 → limit ≤ 5000 → r.speed * min (now - t) limit ≤ 60000000
            ∧ ∀ e, r.estimate now = some e → e ≤ p + 6000)
        ∧ ∀ e, r.estimate now = some e → e ≤ 4294967295)
  ∧ (∀ fresh good : Bool,
      (let r : PositionRecord := { last := some 1234000, speed := 8333, frameTime := some 0, frameStale := some 1000, fresh, good }
       r.estimate 240 = some 1234199
        ∧ ∀ now, 500 ≤ now → ({ r with frameStale := some 500 } : PositionRecord).estimate now = some 1234416))

/-- R114, R117: a POSITION frame is adopted; it is a jump where its position lies outside the band about the estimate before it,
which counts one jump. R117, R143: a jump flushes the queue, cancels its timer, counts the entries flushed, places a
QUEUE_FLUSHED report, and makes the raise position of a changeover in progress unusable. R114, R119: any other frame is adopted,
then the head of the queue is evaluated in RUN alone, and the readers are told, with no QUEUE_FLUSHED report. R119 to R121: an
evaluation leaves no timer for an empty queue or a head that waits for a marker, sets it afresh for a head not reached, and
fires a head reached, after which the next head is evaluated if the firing was accepted; that it is before the other blocks act
on the firing is the model's choice (assumption log 69). R116: the stale deadline makes the record STALE and cancels the trigger
timer; what the record held stays, and the readers see the change. That PAN_A takes a frame before PAN_B is the model's choice
(assumption log 68; R51). The clock is that of log 2. -/
def Obligations.PositionIsAdoptedJumpsAndGoesStale : Prop :=
  (
  ∀ (s : State) (p speed quality : Nat), s.powered = true → s.vl.link = .locked →
    ∃ t, exec (.position p speed quality) s = .next t
      ∧ (let st := settings s
         let limit := if quality = 0 then st.staleLimit else st.staleLimit / 2
         let adopted : PositionRecord :=
          { last := some p, speed := min 12000 speed, good := decide (quality = 0), frameTime := some s.now,
            frameStale := some limit, fresh := true, staleDeadline := some (s.now + limit), jumps := s.pr.position.jumps }
         (∀ e, estimate s = some e → (p < e - st.jumpBack ∨ min 4294967295 (e + st.jumpForward) < p) →
            t.pr.position = { adopted with jumps := bump16 s.pr.position.jumps })
          ∧ ((∀ e, estimate s = some e → e - st.jumpBack ≤ p ∧ p ≤ min 4294967295 (e + st.jumpForward)) →
              t.pr.position = adopted))
  ) ∧ (
  ∀ (s : State) (p speed quality : Nat), s.powered = true → s.vl.link = .locked →
    (∀ e, estimate s = some e → e - (settings s).jumpBack ≤ p ∧ p ≤ min 4294967295 (e + (settings s).jumpForward)) →
    (let limit := if quality = 0 then (settings s).staleLimit else (settings s).staleLimit / 2
     let adopted : PositionRecord :=
      { last := some p, speed := min 12000 speed, good := decide (quality = 0), frameTime := some s.now,
        frameStale := some limit, fresh := true, staleDeadline := some (s.now + limit), jumps := s.pr.position.jumps }
     let taken : Act := { s := { framed s with pr := { s.pr with position := adopted } } }
     let told (x : Act) : State :=
      (complete { x with notes := x.notes ++ [.panHold .a, .panHold .b, .coPosition, .iceEvaluate .other, .gateReview] }).s
     (s.vl.mode = .standby → exec (.position p speed quality) s = .next (told taken))
      ∧ (s.vl.mode = .run → exec (.position p speed quality) s = .next (told (evaluateQueue taken))))
  ) ∧ (
  ∀ a : Act,
    (let queue := a.s.pr.queue
     let timer (t : Option Nat) : Act := a.modPr fun r => { r with triggerTimer := t }
     (a.s.vl.mode = .standby → evaluateQueue a = a)
      ∧ (a.s.vl.mode = .run → queue = [] → evaluateQueue a = timer none)
      ∧ ∀ (head : QueueEntry) (rest : List QueueEntry), a.s.vl.mode = .run → queue = head :: rest →
          (∀ m, head.trigger = .onMarker m → evaluateQueue a = timer none)
          ∧ ∀ p, head.trigger = .atPosition p →
              (let reached : Prop := a.s.pr.position.fresh = true ∧ ∃ e, estimate a.s = some e ∧ p ≤ e
               (¬ reached → evaluateQueue a = timer (reachTime a.s.pr.position p))
                ∧ ∀ b, reached →
                    (let firing := fire .queue head.action (some (.atPosition p))
                        (a.modPr fun r =>
                          { r with
                            queue := rest
                            triggerTimer := none })
                     (firing = (b, false) → evaluateQueue a = b)
                      ∧ (firing = (b, true) → b.s.pr.queue = rest → b.s.vl.mode = .run → evaluateQueue a = evaluateQueue b))))
  ) ∧ (
  ∀ (s : State) (p speed quality e : Nat), s.powered = true → s.vl.link = .locked → estimate s = some e →
    p < e - (settings s).jumpBack ∨ min 4294967295 (e + (settings s).jumpForward) < p →
    exec (.position p speed quality) s = .next (complete
      { s := ({ framed s with
                pr := { s.pr with
                  queue := [], triggerTimer := none, flushed := s.pr.flushed + s.pr.queue.length
                  position := { adopt (settings s) s.now p speed quality s.pr.position with
                    jumps := bump16 s.pr.position.jumps } }
                co := if inProgress s then { s.co with usable := some false, raiseTimer := none } else s.co }).reported
              (.queueFlushed (.jump s.pr.queue.length e p))
        notes := [.panHold .a, .panHold .b, .coPosition, .iceEvaluate .other, .gateReview] }).s
  ) ∧ (
  ∀ (s : State) (t : Nat), s.powered = true → s.pr.position.staleDeadline = some t →
    exec .staleDeadlineExpiry s = .next (complete
      { s := { s with
                now := max s.now t
                pr := { s.pr with
                  position := { s.pr.position with fresh := false, staleDeadline := none }, triggerTimer := none } }
        notes := [.coStale, .gateReview] }).s
  )

/-- R121: the time at which the trigger timer expires is the first whole millisecond at which the estimate has reached the
position, where the stale limit does not stop it first. R119 to R122, R207: at its expiry a REPORT_MARK head whose position the
estimate has reached fires: it leaves the queue, is counted, and its two reports are placed; a head not reached stays, with the
timer set afresh. R122, R123: an action that fires is counted, handed to its owner and reported with the owner's answer; one
that is refused flushes the collection it came from, with a QUEUE_FLUSHED report. R122: CHANGEOVER starts a changeover with the
target and the raise position, the origin ROUTE from the queue and MARKER from a Marker List, whose answer is the owner's;
LOWER_ALL asks each pantograph to lower with the cause VEHICLE, orderly, PAN_A first by the model's choice (assumption log 66),
and is answered ACCEPTED where one began to lower and ALREADY otherwise; REPORT_MARK places its report and is answered DONE.
R164: SCRAPE_INHIBIT is answered DONE, and a change of the inhibit is an event of Ice Control, evaluated at once (assumption log
51). The clock is that of assumption log 2. The time is given exactly, and there is one where the record is FRESH, the speed
above 0 and the position ahead. -/
def Obligations.TriggerTimerFiresAtItsTime : Prop :=
  (
  ∀ (r : PositionRecord) (p last t limit : Nat), r.last = some last → r.frameTime = some t → r.frameStale = some limit →
    r.fresh = true → 0 < r.speed → last < p → p ≤ 4294967295 →
    ∃ at', reachTime r p = some at' ∧ t < at'
      ∧ (at' ≤ t + limit → ∃ e, r.estimate at' = some e ∧ p ≤ e)
      ∧ (∀ now, t ≤ now → now < at' → ∀ e, r.estimate now = some e → e < p)
      ∧ (p - last) * 10000 ≤ (at' - t) * r.speed ∧ (at' - t) * r.speed < (p - last) * 10000 + r.speed
  ) ∧ (
  ∀ (r : PositionRecord) (p : Nat), reachTime r p ≠ none ↔
    r.fresh = true ∧ 0 < r.speed ∧ r.frameTime ≠ none ∧ ∃ last, r.last = some last ∧ last < p
  ) ∧ (
  ∀ (s : State) (t p tag : Nat) (e : Nat), s.powered = true → Sending s → s.vl.mode = .run → s.pr.triggerTimer = some t →
    s.pr.position.fresh = true → s.pr.position.estimate (max s.now t) = some e →
    (let head : QueueEntry := { action := .reportMark tag, trigger := .atPosition p }
     (s.pr.queue = [head] → p ≤ e → exec .triggerTimerExpiry s = .next
        ((({ s with
            now := max s.now t
            pr := { s.pr with queue := [], triggerTimer := none, fired := s.pr.fired + 1 } }).reported
          (.reportMark tag .queue (some e))).reported
          (.actionFired .queue (.reportMark tag) (some (.atPosition p)) (some e) .done)))
      ∧ (∀ rest, s.pr.queue = head :: rest → e < p → exec .triggerTimerExpiry s = .next
          { s with now := max s.now t, pr := { s.pr with triggerTimer := reachTime s.pr.position p } }))
  ) ∧ (
  ∀ (source : Source) (action : Action) (trigger : Option Trigger) (a b : Act) (answer : Result),
    handOff source action (estimate a.s) (a.modPr fun r => { r with fired := r.fired + 1 }) = (b, answer) →
    (let told : State := b.s.reported (.actionFired source action trigger (estimate a.s) answer)
     let removed : Nat := match source with
      | .queue => b.s.pr.queue.length
      | .m0 => b.s.pr.m0.length
      | .m1 => b.s.pr.m1.length
     let flushed : Route := match source with
      | .queue => { b.s.pr with queue := [], triggerTimer := none, flushed := b.s.pr.flushed + removed }
      | .m0 => { b.s.pr with m0 := [], flushed := b.s.pr.flushed + removed }
      | .m1 => { b.s.pr with m1 := [], flushed := b.s.pr.flushed + removed }
     (answer ∈ [Result.accepted, .noop, .already, .done] → fire source action trigger a = ({ b with s := told }, true))
      ∧ (answer ∉ [Result.accepted, .noop, .already, .done] → fire source action trigger a =
          ({ b with s := ({ told with pr := flushed }).reported (.queueFlushed (.refused source removed action answer)) }, false)))
  ) ∧ (
  ∀ (source : Source) (on : Bool) (at' : Option Nat) (a : Act),
    (a.s.ice.inhibit = on → handOff source (.scrapeInhibit on) at' a = (a, .done))
      ∧ (a.s.ice.inhibit ≠ on → handOff source (.scrapeInhibit on) at' a =
          (iceEvent .other (a.modIce fun i => { i with inhibit := on }), .done))
  ) ∧ (
  ∀ (a : Act) (at' : Option Nat),
    (∀ (target : Nat) (raise : Option Nat),
        handOff .queue (.changeover target raise) at' a = startChangeover target raise .route a
          ∧ handOff .m0 (.changeover target raise) at' a = startChangeover target raise .marker a
          ∧ handOff .m1 (.changeover target raise) at' a = startChangeover target raise .marker a)
      ∧ ∀ (source : Source) (first second : Act) (began began' : Bool),
          lowerPan .a .vehicle .orderly false a = (first, began) →
          lowerPan .b .vehicle .orderly false first = (second, began') →
          (began = true ∨ began' = true → handOff source .lowerAll at' a = (second, .accepted))
            ∧ (began = false → began' = false → handOff source .lowerAll at' a = (second, .already))
            ∧ (began = true ↔ (panOf a.s .a).state = .raising ∨ (panOf a.s .a).state = .up)
            ∧ (began' = true ↔ (panOf first.s .b).state = .raising ∨ (panOf first.s .b).state = .up)
            ∧ ∀ tag, handOff source (.reportMark tag) at' a = ({ a with s := a.s.reported (.reportMark tag source at') }, .done)
  )

/-- R118: QUEUE_APPEND: its checks in order, and the append, after which the head is evaluated where the queue was empty (the
series it begins: assumption log 69); an entry that waits for a marker conflicts with a Marker List that holds an action, and
the answer names such a marker (which one, where several conflict: assumption log 54). R126: MARKER_LOAD: its checks in order,
and the load, which joins the tail of the list. R127: QUEUE_FLUSH and MARKER_FLUSH empty their collection, count what they
remove, and answer ALREADY where it was empty. The ranges of each form of action and of entry: a target 1 to 15, a position at
most 4294967295, a tag at most 255, a marker 0 or 1. -/
def Obligations.RoutePlanRequestsAreCheckedInOrder : Prop :=
  (
  (∀ (target : Nat) (raise : Option Nat), actionInRange (.changeover target raise) = true ↔
      1 ≤ target ∧ target ≤ 15 ∧ ∀ p, raise = some p → p ≤ 4294967295)
  ∧ actionInRange .lowerAll = true
  ∧ (∀ on : Bool, actionInRange (.scrapeInhibit on) = true)
  ∧ (∀ tag : Nat, actionInRange (.reportMark tag) = true ↔ tag ≤ 255)
  ∧ (∀ (action : Action) (p : Nat), entryInRange { action, trigger := .atPosition p } = true ↔
      actionInRange action = true ∧ p ≤ 4294967295)
  ∧ (∀ (action : Action) (m : Nat), entryInRange { action, trigger := .onMarker m } = true ↔
      actionInRange action = true ∧ m ≤ 1)
  ∧ ∀ (r : Route) (m : Fin 2) (l : List Action), r.marker m = (if m = 0 then r.m0 else r.m1)
      ∧ r.setMarker m l = (if m = 0 then { r with m0 := l } else { r with m1 := l })
      ∧ (queueUsesMarker r m = true ↔ ∃ e ∈ r.queue, e.trigger = .onMarker m.val)
  ) ∧ (
  ∀ (s : State) (seq : Nat) (entries : List QueueEntry), Ready s →
    (let r := s.pr
     let inRange : Prop := 1 ≤ entries.length ∧ entries.length ≤ 4 ∧ ∀ e ∈ entries, entryInRange e = true
     let room : Prop := r.queue.length + entries.length ≤ 16 ∧ r.appended + entries.length ≤ 4294967295
     let answered (result : Result) (data : List Byte) : Prop :=
      exec (.queueAppend seq entries) s = .next ((framed s).replied seq 0x30 result data)
     let depth := r.queue.length + entries.length
     let appended : State :=
      { framed s with pr := { r with queue := r.queue ++ entries, appended := r.appended + entries.length } }
     (Sending s → ¬ inRange → answered .range [])
      ∧ (Sending s → inRange → ¬ room → answered .full [])
      ∧ (∀ m, Sending s → inRange → room → markerInUse r entries = some m → answered .markerInUse (put8 m))
      ∧ (Sending s → inRange → room → markerInUse r entries = none → (r.queue ≠ [] ∨ s.vl.mode = .standby) →
          exec (.queueAppend seq entries) s = .next (appended.replied seq 0x30 .done (put8 depth)))
      ∧ (inRange → room → markerInUse r entries = none → r.queue = [] →
          exec (.queueAppend seq entries) s = .next (complete
            (reply seq 0x30 { result := .done, data := put8 depth } (evaluateQueue { s := appended }))).s))
  ) ∧ (
  ∀ (r : Route) (entries : List QueueEntry),
    (let conflicts (e : QueueEntry) (m : Fin 2) : Prop := e.trigger = .onMarker m.val ∧ r.marker m ≠ []
     (markerInUse r entries = none ↔ ∀ e ∈ entries, ∀ m : Fin 2, ¬ conflicts e m)
      ∧ ∀ n, markerInUse r entries = some n → ∃ e ∈ entries, ∃ m : Fin 2, m.val = n ∧ conflicts e m)
  ) ∧ (
  ∀ (s : State) (seq : Nat) (actions : List Action), Ready s → Sending s →
    (let inRange : Prop := 1 ≤ actions.length ∧ actions.length ≤ 4 ∧ ∀ x ∈ actions, actionInRange x = true
     let load (n : Nat) (t : State) : Prop := exec (.markerLoad seq n actions) s = .next t
     let r := s.pr
     (∀ n, (2 ≤ n ∨ ¬ inRange → load n ((framed s).replied seq 0x32 .range))
        ∧ (2 ≤ n → exec (.markerFlush seq n) s = .next ((framed s).replied seq 0x33 .range)))
      ∧ (∀ m : Fin 2,
          (let depth := (r.marker m).length + actions.length
           let room : Prop := depth ≤ 4 ∧ r.appended + actions.length ≤ 4294967295
           (inRange → ¬ room → load m.val ((framed s).replied seq 0x32 .full))
            ∧ (inRange → room → queueUsesMarker r m = true → load m.val ((framed s).replied seq 0x32 .markerInUse))
            ∧ (inRange → room → queueUsesMarker r m = false →
                load m.val (({ framed s with pr :=
                  { r.setMarker m (r.marker m ++ actions) with appended := r.appended + actions.length } }).replied seq 0x32
                    .done (put8 depth)))
            ∧ (r.marker m = [] → exec (.markerFlush seq m.val) s = .next ((framed s).replied seq 0x33 .already))
            ∧ (r.marker m ≠ [] → exec (.markerFlush seq m.val) s = .next
                (({ framed s with pr := { r.setMarker m [] with flushed := r.flushed + (r.marker m).length } }).replied seq
                  0x33 .done (put8 (r.marker m).length)))))
      ∧ (r.queue ≠ [] → exec (.queueFlush seq) s = .next
          (({ framed s with pr := { r with queue := [], triggerTimer := none, flushed := r.flushed + r.queue.length } }).replied
            seq 0x31 .done (put8 r.queue.length)))
      ∧ (r.queue = [] → r.triggerTimer = none → exec (.queueFlush seq) s = .next ((framed s).replied seq 0x31 .already)))
  )

/-! ## Changeover (08) -/

/-- R138: the sequencer's move requests join the requested moves where they are answered ACCEPTED or ALREADY; a refused request
aborts, with the reason of the table. Each step is entered with what belongs to the step left over, the readers told and its own
entry rule; a step whose end condition holds at once is passed through, and a step that waits makes one CHANGEOVER_STEP report,
with the steps passed (R137; assumption log 22). R139: OPENING ends at MB reported OPEN. R140: LOWERING_OLD finds the kept pan
and the new pan, asks every other pantograph that is up to lower (PAN_A first, the model's choice: assumption log 66; without a
note of it to the sequencer itself: log 29), awaits those in LOWERING, and ends when none is; an awaited one that ends in FAULT
aborts. R141: SELECTING asks for its moves in order and ends when each is reported at its target and IDLE, in VERIFYING with a
kept pan and in AWAIT_RAISE without. R142: AWAIT_RAISE ends where the raise position is reached; a test that does not end it
sets the timer afresh or cancels it (assumption log 55), and STALE cancels it. R145: RAISING_NEW raises the new pan as COLLECT
and ends when it is UP. R147: CLOSING ends at MB reported CLOSED and IDLE, with the result DONE and its report, and aborts with
MB_OPENED where MB's target becomes OPEN. R151: ABORTING ends where no pantograph is RAISING and MB is reported OPEN or its role
is not PRESENT. What each asks of is the record of the target, which stands while a changeover is in progress (assumption log
30). R142: the position is reached where the raise position is present, the record usable and FRESH, and the estimate at or past
it. -/
def Obligations.ChangeoverStepsAreEnteredAndLeft : Prop :=
  (
  (∀ s : State, raiseReached s = true ↔ ∃ p e, s.co.raisePosition = some p ∧ s.co.usable = some true
      ∧ s.pr.position.fresh = true ∧ estimate s = some e ∧ p ≤ e)
  ∧ (∀ (s : State) (t : Nat), raiseTime s = some t ↔
      s.co.usable = some true ∧ ∃ p, s.co.raisePosition = some p ∧ reachTime s.pr.position p = some t)
  ∧ ∀ (s : State) (p : Pan), (panOf s p).collecting = true ↔ (panOf s p).state = .up ∧ (panOf s p).role = some .collect
  ) ∧ (
  (∀ (a b : Act) (d : Dev) (target : Pos) (r : MoveResult), moveRequest d target .sequencer a = (b, r) →
    (r = .accepted ∨ r = .already →
        seqMove d target a = (b.modCo fun c => { c with requested := c.requested ++ [(d, target)] }, none))
      ∧ (∀ f, r = .interlock f → seqMove d target a = (b, some (.interlock, some (.failed f))))
      ∧ (r = .headAbsent → seqMove d target a = (b, some (.headLost, none)))
      ∧ (r = .busy → seqMove d target a = (b, some (.refused, some (.answer .busy))))
      ∧ (r = .range → seqMove d target a = (b, some (.refused, some (.answer .range)))))
  ∧ ∀ (result : Result) (failed : Option Failed),
      (let refusal := raiseRefusalReason { result, failed }
       (result = .accepted ∨ result = .already → refusal = none)
        ∧ (result = .interlock → refusal = some (.interlock, failed.map .failed))
        ∧ (result = .headAbsent → refusal = some (.headLost, none))
        ∧ (result = .fault → refusal = some (.panFault, none))
        ∧ (result ∉ [Result.accepted, .already, .interlock, .headAbsent, .fault] →
            refusal = some (.refused, some (.answer result))))
  ) ∧ (
  ∀ (a : Act) (left : CoStep) (passed : List CoStep),
    (let entered (step : CoStep) : Act :=
      { s := { a.s with
          co := { a.s.co with
            step
            requested := []
            awaited := []
            verifyDeadline := none
            raiseTimer := none } }
        notes := a.notes ++ [.iceEvaluate .step, .gateReview] }
     let waits (x : Act) : Act :=
      { x with
        s := x.s.reported (.changeoverStep x.s.co.step left passed x.s.co.target x.s.co.newPan x.s.co.kept (estimate x.s)) }
     let c := a.s.co
     (a.s.sg.mb.reported = .opened → a.s.sg.mb.move = none →
        enterOpening left passed a = enterLoweringOld left (passed ++ [.opening]) (entered .opening))
      ∧ (a.s.sg.mb.reported ≠ .opened ∨ a.s.sg.mb.move ≠ none → ∀ b refusal,
          seqMove .mb .opened (entered .opening) = (b, refusal) →
          (∀ reason detail, refusal = some (reason, detail) →
              enterOpening left passed a = abort reason detail left (passed ++ [.opening]) b)
          ∧ (refusal = none → b.s.sg.mb.reported = .opened →
              enterOpening left passed a = enterLoweringOld left (passed ++ [.opening]) b)
          ∧ (refusal = none → b.s.sg.mb.reported ≠ .opened → enterOpening left passed a = waits b))
      ∧ (∀ target r, c.target = some target → systemRecord a.s target = some r →
          (let kept : Option Pan :=
            if r.selector.test fun sel => a.s.sg.ss.reported == selectorPos sel
            then pansInOrder.find? fun p => (panOf a.s p).collecting && r.panSet.test fun set => set.holds p
            else none
           let decided : Act := (entered .loweringOld).modCo fun c =>
            { c with
              newPan := kept <|> r.preferred.value
              kept := kept.isSome }
           let lower (p : Pan) (x : Act) : Act :=
            if kept ≠ some p ∧ ((panOf x.s p).state = .raising ∨ (panOf x.s p).state = .up)
            then (lowerPan p .changeover .orderly true x).1 else x
           let lowered := lower .b (lower .a decided)
           let awaited := [Pan.a, .b].filter fun p => kept != some p && (panOf lowered.s p).state == .lowering
           let asked : Act := lowered.modCo fun c => { c with awaited }
           (awaited ≠ [] → enterLoweringOld left passed a = waits asked)
            ∧ (awaited = [] → enterLoweringOld left passed a = enterSelecting left (passed ++ [.loweringOld]) asked)))
      ∧ (∀ target r b refusal, c.target = some target → systemRecord a.s target = some r →
          (let goals : List (Dev × Pos) :=
            (match r.selector with
              | .named sel => [(Dev.ss, selectorPos sel)]
              | .unnamed _ => [])
            ++ (match c.kept, c.newPan with
              | false, some p => [(isoOf p, .closed), (isoOf (otherPan p), .opened)]
              | _, _ => [])
           let settled : Prop := ∀ m ∈ b.s.co.requested, (devOf b.s m.1).reported = m.2 ∧ (devOf b.s m.1).move = none
           let passed' := passed ++ [.selecting]
           askMoves goals (entered .selecting) = (b, refusal) →
           (∀ reason detail, refusal = some (reason, detail) → enterSelecting left passed a = abort reason detail left passed' b)
            ∧ (refusal = none → ¬ settled → enterSelecting left passed a = waits b)
            ∧ (refusal = none → settled → b.s.co.kept = true → enterSelecting left passed a = enterVerifying left passed' b)
            ∧ (refusal = none → settled → b.s.co.kept = false → enterSelecting left passed a = enterAwaitRaise left passed' b)))
      ∧ (raiseReached a.s = true →
          enterAwaitRaise left passed a = enterRaisingNew left (passed ++ [.awaitRaise]) (entered .awaitRaise))
      ∧ (raiseReached a.s = false → enterAwaitRaise left passed a =
          waits ((entered .awaitRaise).modCo fun c => { c with raiseTimer := raiseTime a.s }))
      ∧ (∀ target r p b answer, c.target = some target → systemRecord a.s target = some r → c.newPan = some p →
          raisePan p .collect r.raiseProfile .sequencer (entered .raisingNew) = (b, answer) →
          (∀ reason detail, raiseRefusalReason answer = some (reason, detail) →
              enterRaisingNew left passed a = abort reason detail left (passed ++ [.raisingNew]) b)
          ∧ (raiseRefusalReason answer = none → b.s.co.newPan = some p →
              ((panOf b.s p).state ≠ .up → enterRaisingNew left passed a = waits b)
              ∧ ((panOf b.s p).state = .up → enterRaisingNew left passed a = enterVerifying left (passed ++ [.raisingNew]) b)))
      ∧ (∀ b refusal, seqMove .mb .closed (entered .closing) = (b, refusal) →
          (∀ reason detail, refusal = some (reason, detail) →
              enterClosing left passed a = abort reason detail left (passed ++ [.closing]) b)
          ∧ (refusal = none → enterClosing left passed a = waits b)))
  ) ∧ (
  (∀ x : Act, askMoves [] x = (x, none))
  ∧ ∀ (d : Dev) (target : Pos) (rest : List (Dev × Pos)) (x b : Act) (refusal : Option (AbortReason × Option AbortDetail)),
      (let there : Prop := (devOf x.s d).reported = target ∧ (devOf x.s d).move = none
       (there → askMoves ((d, target) :: rest) x = askMoves rest x)
        ∧ (¬ there → seqMove d target x = (b, refusal) →
            askMoves ((d, target) :: rest) x = if refusal.isSome then (b, refusal) else askMoves rest b))
  ) ∧ (
  ∀ a : Act,
    (let c := a.s.co
     let mb := a.s.sg.mb
     let ended (result : CoResult) (left : CoStep) : Act :=
      { s := (({ a.s with
            co := { c with
              step := .idle
              lastResult := some result
              usable := none
              requested := []
              awaited := []
              verifyDeadline := none
              raiseTimer := none } }).reported
            (.changeoverResult result none c.detail c.target c.origin c.oldSystem c.newPan c.kept c.abortStep a.s.lm.confirmed
              mb.reported (estimate a.s))).reported
          (.changeoverStep .idle left [] c.target c.newPan c.kept (estimate a.s))
        notes := a.notes ++ [.iceEvaluate .other, .gateReview] }
     let engaged : Prop := mb.reported = .closed ∨ mb.move ≠ none ∧ mb.target = some .closed
     let settled : Prop := ∀ m ∈ c.requested, (devOf a.s m.1).reported = m.2 ∧ (devOf a.s m.1).move = none
     let aborted : Prop := a.s.pans.a.state ≠ .raising ∧ a.s.pans.b.state ≠ .raising
      ∧ (mb.reported = .opened ∨ rolePresent a.s .switchgear = false)
     let timer (t : Option Nat) : Act := a.modCo fun c => { c with raiseTimer := t }
     (c.step = .opening →
        (mb.reported = .opened → takeNote .coSwitch a = enterLoweringOld .opening [] a)
        ∧ (mb.reported ≠ .opened → takeNote .coSwitch a = a))
      ∧ (c.step = .selecting → ¬ engaged →
          (¬ settled → takeNote .coSwitch a = a)
          ∧ (settled → c.kept = true → takeNote .coSwitch a = enterVerifying .selecting [] a)
          ∧ (settled → c.kept = false → takeNote .coSwitch a = enterAwaitRaise .selecting [] a))
      ∧ (c.step = .closing →
          (mb.target = some .opened → takeNote .coSwitch a = abort .mbOpened none .closing [] a)
          ∧ (mb.target ≠ some .opened → mb.reported = .closed → mb.move = none → takeNote .coSwitch a = ended .done .closing)
          ∧ (mb.target ≠ some .opened → ¬ (mb.reported = .closed ∧ mb.move = none) → takeNote .coSwitch a = a))
      ∧ (c.step = .aborting →
          (∀ reason, c.abortReason = some reason → aborted → takeNote .coSwitch a = ended (.aborted reason) .aborting)
          ∧ (¬ aborted → takeNote .coSwitch a = a))
      ∧ (c.step = .awaitRaise →
          (raiseReached a.s = true → takeNote .coPosition a = enterRaisingNew .awaitRaise [] a)
          ∧ (raiseReached a.s = false → takeNote .coPosition a = timer (raiseTime a.s)))
      ∧ (c.step ≠ .awaitRaise → takeNote .coPosition a = a) ∧ takeNote .coStale a = timer none
      ∧ ∀ (p : Pan) (new : PanState) (cause : Option LowerCause), new = .down ∨ new = .fault ∨ new = .up →
          (let note : Note := .coPan p new cause
           let lowering := c.awaited.filter fun q => (panOf a.s q).state == .lowering
           (c.step = .loweringOld → p ∉ c.awaited → takeNote note a = a)
            ∧ (c.step = .loweringOld → p ∈ c.awaited → new = .fault → takeNote note a = abort .panFault none .loweringOld [] a)
            ∧ (c.step = .loweringOld → p ∈ c.awaited → new ≠ .fault → lowering ≠ [] →
                takeNote note a = a.modCo fun c => { c with awaited := lowering })
            ∧ (c.step = .loweringOld → p ∈ c.awaited → new ≠ .fault → lowering = [] →
                takeNote note a = enterSelecting .loweringOld [] (a.modCo fun c => { c with awaited := [] }))
            ∧ (∀ q, c.step = .raisingNew → c.newPan = some q →
                ((panOf a.s q).state = .up → takeNote note a = enterVerifying .raisingNew [] a)
                ∧ ((panOf a.s q).state ≠ .up → takeNote note a = a))
            ∧ (∀ reason, c.step = .aborting → c.abortReason = some reason → aborted →
                takeNote note a = ended (.aborted reason) .aborting)
            ∧ (c.step = .aborting → ¬ aborted → takeNote note a = a)))
  )

/-- R134, R135: what refuses a CHANGEOVER_START, in order, and a start that finds everything as the target wants it: NOOP, its
record and its report; nothing else changes. R136, R139: an accepted start with MB reported CLOSED and no move of it in flight
enters OPENING: MB is asked to open with origin SEQUENCER, the requested move and the CHANGEOVER_STEP report are there, and the
reply is ACCEPTED. R136: every accepted start, of the vehicle or of the route plan, with MB at whatever position and a move of
it in flight or not, sets the Changeover Record, lowers each pantograph raised in role SCRAPE, orderly and with the cause
CHANGEOVER, and then enters OPENING, whose entry and end are those of R139 (ChangeoverStepsAreEnteredAndLeft); such a lowering
vents at once, takes the role from the pantograph and reports its state. The model's choices and readings: PAN_A is lowered
first (assumption log 66), a change of the Switchgear Record reaches PAN_A first (log 68), the sequencer has no note of a
lowering of its own (log 29), and an orderly start that vents at once does not test a DOWN contact that is active already (log
18). R135: a NOOP is found exactly where the target is confirmed, SS reported at its selector, MB reported CLOSED, and a
pantograph of its pan set UP in role COLLECT. -/
def Obligations.ChangeoverStartByItsChecks : Prop :=
  (
  ∀ (s : State) (target : Nat) (r : SystemRecord),
    (let there : Prop := s.lm.confirmed = .system target
      ∧ (r.selector = .named .ac ∧ s.sg.ss.reported = .ac ∨ r.selector = .named .dc ∧ s.sg.ss.reported = .dc)
      ∧ s.sg.mb.reported = .closed
     let serves (p : Pan) : Prop := (panOf s p).state = .up ∧ (panOf s p).role = some .collect
      ∧ (r.panSet = .named .aOrB ∨ r.panSet = .named .a ∧ p = .a ∨ r.panSet = .named .b ∧ p = .b)
     (noopPan s target r = none ↔ ¬ (there ∧ ∃ p, serves p))
      ∧ ∀ p, noopPan s target r = some p → there ∧ serves p)
  ) ∧ (
  ∀ (s : State) (seq target : Nat) (raisePosition : Option Nat), Ready s → Sending s →
    (let answered (r : Result) : Prop :=
      exec (.changeoverStart seq target raisePosition) s = .next ((framed s).replied seq 0x20 r)
     (s.vl.mode = .standby → answered .mode)
      ∧ (s.vl.mode = .run → s.co.step ≠ .idle → answered .busy)
      ∧ (s.vl.mode = .run → s.co.step = .idle →
          (systemRecord s target = none → answered .unknownSystem)
          ∧ ∀ r sel, systemRecord s target = some r →
              ((rolePresent s .switchgear = false ∨ rolePresent s .line = false) → answered .headAbsent)
              ∧ ∀ p, rolePresent s .switchgear = true → rolePresent s .line = true → r.selector = .named sel →
                  s.lm.confirmed = .system target → s.sg.ss.reported = selectorPos sel → s.sg.mb.reported = .closed →
                  (pansInOrder.find? fun p => (panOf s p).collecting && r.panSet.test fun set => set.holds p) = some p →
                  exec (.changeoverStart seq target raisePosition) s = .next
                    ((({ framed s with co := { s.co with
                          target := some target, origin := some .vehicle, raisePosition, oldSystem := some target,
                          newPan := some p, kept := true, lastResult := some .noop, abortReason := none, detail := none,
                          abortStep := none } }).reported
                      (.changeoverResult .noop none none (some target) (some .vehicle) (some target) (some p) true none
                        (.system target) .closed (estimate s))).replied seq 0x20 .noop)))
  ) ∧ (
  ∀ (s : State) (seq target : Nat) (raisePosition : Option Nat) (r : SystemRecord) (d : DirectoryRecord), Ready s →
    s.vl.mode = .run → s.co.step = .idle → systemRecord s target = some r → rolePresent s .switchgear = true →
    rolePresent s .line = true → directoryOfRole s .switchgear = some d → noopPan s target r = none →
    s.sg.mb.reported = .closed → s.sg.mb.move = none →
    (∀ p, ¬ ((panOf s p).raised = true ∧ (panOf s p).role = some .scrape)) →
    (let timeout := (settings s).mbOpen
     exec (.changeoverStart seq target raisePosition) s = .next (complete
      { s := ((({ framed s with
                  co := { s.co with
                    step := .opening, target := some target, origin := some .vehicle, raisePosition, usable := some true,
                    oldSystem := confirmedCode s, newPan := none, kept := false, requested := [(.mb, .opened)], awaited := [],
                    verifyDeadline := none, raiseTimer := none, abortReason := none, detail := none, abortStep := none }
                  sg := s.sg.set .mb { s.sg.mb with
                    target := some .opened
                    move := some { origin := .sequencer, deadline := s.now + timeout, timeout } } }).sentOn d.port
                (moveCommand .mb .opened .sequencer).payload).reported
              (.changeoverStep .opening .idle [] (some target) none false (estimate s))).replied seq 0x20 .accepted
        notes := [.iceEvaluate .step, .gateReview, .panMb .a, .panMb .b, .coSwitch, .iceEvaluate .other, .gateReview] }).s)
  ) ∧ (
  ∀ (s : State) (seq target : Nat) (raisePosition : Option Nat) (o : CoOrigin) (r : SystemRecord), s.vl.mode = .run →
    s.co.step = .idle → systemRecord s target = some r → rolePresent s .switchgear = true → rolePresent s .line = true →
    noopPan s target r = none →
    (let begun (o : CoOrigin) (s : State) : Act :=
      { s := { s with
          co := { s.co with
            target := some target
            origin := some o
            raisePosition
            usable := some true
            oldSystem := match s.lm.confirmed with
              | .system c => some c
              | _ => none
            newPan := none
            kept := false
            abortReason := none
            detail := none
            abortStep := none } } }
     let lower (p : Pan) (x : Act) : Act :=
      if ((panOf x.s p).state = .raising ∨ (panOf x.s p).state = .up) ∧ (panOf x.s p).role = some .scrape
      then (lowerPan p .changeover .orderly true x).1 else x
     startChangeover target raisePosition o { s } = (enterOpening .idle [] (lower .b (lower .a (begun o s))), .accepted)
      ∧ (Ready s → exec (.changeoverStart seq target raisePosition) s = .next (complete
          (reply seq 0x20 { result := .accepted } (enterOpening .idle [] (lower .b (lower .a (begun .vehicle (framed s))))))).s))
  ) ∧ (
  ∀ (a : Act) (p : Pan) (d : DirectoryRecord), (panOf a.s p).state = .raising ∨ (panOf a.s p).state = .up →
    (panOf a.s p).role = some .scrape → rolePresent a.s (panRole p) = true → directoryOfRole a.s (panRole p) = some d →
    (let r := panOf a.s p
     lowerPan p .changeover .orderly true a =
      ({ s := (({ a.s with
            pans := a.s.pans.set p
              { r with
                state := .lowering
                causes := [.changeover]
                primary := some .changeover
                phase := some .venting
                role := none
                profile := none
                raiseOrigin := none
                stage := none
                stageDeadline := none
                raiseDeadline := none
                ventGuard := none
                lowerDeadline := some (a.s.now + (settings a.s).lowerTimeout) } }).reported
            (.panState p .lowering r.state none (some (.changeover, [.changeover])) r.latch)).sentOn d.port (ventCommand p).payload
         notes := a.notes ++ [.iceEvaluate .other, .gateReview] }, true))
  )

/-- R142, R144: the raise timer tests AWAIT_RAISE: the raise begins where the position is reached, and otherwise the timer is
set afresh. CHANGEOVER_PROCEED begins the raise in AWAIT_RAISE, begins VERIFYING again in HALTED, and is NOT_ACTIVE in every
other step. R146: the verify deadline halts the changeover; on entry to VERIFYING and on a change of the confirmed state, the
table of outcomes decides: the target confirmed enters CLOSING, another system or OVER aborts, and the rest waits. That an entry
to VERIFYING that aborts makes no report of its own and is named among the steps passed is the model's reading (assumption log
22), and so is that a test whose timer cannot run cancels it (assumption log 55). R147: on entry to CLOSING the breaker is asked
to close with origin SEQUENCER, and the change reaches PAN_A before PAN_B (the model's choice: assumption log 68). The clock is
that of log 2. R142: when the position is reached. -/
def Obligations.ChangeoverWaitsAndProceeds : Prop :=
  (
  ∀ s : State, raiseReached s = true ↔ ∃ p e, s.co.raisePosition = some p ∧ s.co.usable = some true
      ∧ s.pr.position.fresh = true ∧ estimate s = some e ∧ p ≤ e
  ) ∧ (
  ∀ (s : State) (seq t : Nat),
    (s.powered = true → s.co.raiseTimer = some t → s.co.step = .awaitRaise →
      (let s' : State := { s with now := max s.now t }
       (raiseReached s' = true → exec .raiseTimerExpiry s = .next (complete (enterRaisingNew .awaitRaise [] { s := s' })).s)
        ∧ (raiseReached s' = false → Sending s → exec .raiseTimerExpiry s = .next
            { s' with co := { s.co with
              raiseTimer := if s.co.usable = some true then s.co.raisePosition.bind (reachTime s.pr.position) else none } })))
      ∧ (Ready s →
          (s.co.step = .awaitRaise → exec (.changeoverProceed seq) s = .next
            (complete (reply seq 0x21 { result := .accepted } (enterRaisingNew .awaitRaise [] { s := framed s }))).s)
          ∧ (s.co.step = .halted → exec (.changeoverProceed seq) s = .next
            (complete (reply seq 0x21 { result := .accepted } (enterVerifying .halted [] { s := framed s }))).s)
          ∧ (s.co.step ≠ .awaitRaise → s.co.step ≠ .halted → Sending s →
              exec (.changeoverProceed seq) s = .next ((framed s).replied seq 0x21 .notActive)))
  ) ∧ (
  (∀ (s : State) (t : Nat), s.powered = true → s.co.verifyDeadline = some t → s.co.step = .verifying →
    exec .verifyDeadlineExpiry s = .next (complete
      { s := ({ s with
                now := max s.now t
                co := { s.co with step := .halted, requested := [], awaited := [], verifyDeadline := none, raiseTimer := none } }).reported
              (.changeoverStep .halted .verifying [] s.co.target s.co.newPan s.co.kept
                (s.pr.position.estimate (max s.now t)))
        notes := [.iceEvaluate .step, .gateReview] }).s)
  ∧ (∀ (a : Act) (left : CoStep), verdict a.s = .wait → enterVerifying left [] a =
      { s := ({ a.s with co := { a.s.co with
                step := .verifying, requested := [], awaited := [], raiseTimer := none
                verifyDeadline := some (a.s.now + (settings a.s).verifyTimeout) } }).reported
              (.changeoverStep .verifying left [] a.s.co.target a.s.co.newPan a.s.co.kept (estimate a.s))
        notes := a.notes ++ [.iceEvaluate .step, .gateReview] })
  ∧ ∀ s : State,
      (∀ c, s.lm.confirmed = .system c →
        (s.co.target = some c → verdict s = .confirmed)
        ∧ (s.co.target ≠ some c → s.co.kept = true → s.co.oldSystem = some c → verdict s = .wait)
        ∧ (s.co.target ≠ some c → ¬ (s.co.kept = true ∧ s.co.oldSystem = some c) → verdict s = .stop .wrongSystem))
      ∧ (s.lm.confirmed = .over → verdict s = .stop .over)
      ∧ (s.lm.confirmed = .dead ∨ s.lm.confirmed = .unknown ∨ s.lm.confirmed = .noSense → verdict s = .wait)
  ) ∧ (
  ∀ (a : Act) (left : CoStep),
    (let entered : Act :=
      { s := { a.s with co := { a.s.co with
                step := .verifying, requested := [], awaited := [], raiseTimer := none
                verifyDeadline := some (a.s.now + (settings a.s).verifyTimeout) } }
        notes := a.notes ++ [.iceEvaluate .step, .gateReview] }
     (verdict a.s = .confirmed → enterVerifying left [] a = enterClosing left [.verifying] entered)
      ∧ (∀ reason, verdict a.s = .stop reason → enterVerifying left [] a = abort reason none left [.verifying] entered)
      ∧ (a.s.co.step = .verifying →
          (verdict a.s = .confirmed → takeNote .coLine a = enterClosing .verifying [] a)
          ∧ (∀ reason, verdict a.s = .stop reason → takeNote .coLine a = abort reason none .verifying [] a)
          ∧ (verdict a.s = .wait → takeNote .coLine a = a))
      ∧ (a.s.co.step ≠ .verifying → takeNote .coLine a = a))
  ) ∧ (
  ∀ (a : Act) (left : CoStep) (passed : List CoStep) (d : DirectoryRecord), rolePresent a.s .switchgear = true →
    directoryOfRole a.s .switchgear = some d → a.s.sg.mb.move = none → judge a.s (moveCommand .mb .closed .sequencer) = none →
    (let timeout := (settings a.s).mbClose
     enterClosing left passed a =
      { s := ({ a.s.sentOn d.port (moveCommand .mb .closed .sequencer).payload with
                co := { a.s.co with
                  step := .closing, requested := [(.mb, .closed)], awaited := [], verifyDeadline := none, raiseTimer := none }
                sg := a.s.sg.set .mb { a.s.sg.mb with
                  target := some .closed, move := some { origin := .sequencer, deadline := a.s.now + timeout, timeout } } }).reported
              (.changeoverStep .closing left passed a.s.co.target a.s.co.newPan a.s.co.kept (estimate a.s))
        notes := a.notes ++ [.iceEvaluate .step, .gateReview, .panMb .a, .panMb .b, .coSwitch, .iceEvaluate .other, .gateReview] })
  )

/-- R152: CHANGEOVER_ABORT in both modes: NOT_ACTIVE in IDLE, ALREADY in ABORTING, and in any other step the abort of R150 with
the reason VEHICLE, answered ACCEPTED. R150, R151: an abort keeps its reason, its detail and the step it came in, and does in
this order: at WRONG_SYSTEM it lowers the new pantograph; it asks MB to open with the origin SEQUENCER, unless MB is reported
OPEN and IDLE or its head is not PRESENT, and that move is the one requested; it lowers each RAISING pantograph, PAN_A first by
the model's choice (assumption log 66) and with no note to the sequencer itself (log 29), which is then awaited. Where then no
pantograph is RAISING and MB is reported OPEN or its head is not PRESENT the step is IDLE with the result ABORTED and its
report, else ABORTING; each has its CHANGEOVER_STEP report (one for a chain of steps: assumption log 22; awaited pantographs:
log 46). R153: the silence and a pantograph's lowering reach the sequencer in either order, as the choices have it (assumption
log 3); in STANDBY and at the loss of the LINE or SWITCHGEAR head the changeover in progress aborts with the reason of the
event. R148, R149: MB engaged while the changeover holds it open aborts with MB_CLOSED, before the moves of SELECTING are looked
at (assumption log 60); a pantograph relied on that enters LOWERING aborts with the reason of its primary cause, and one not
relied on does not. R139, R141, R147, R151: a move given up aborts with MB_STUCK in OPENING (MB to OPEN) and in CLOSING (MB to
CLOSED) and with SWITCHGEAR_FAULT in SELECTING (SS, ISO_A, ISO_B); in ABORTING, MB to OPEN given up ends the changeover with the
result ABORTED(MB_STUCK), beside which the report carries the reason that led there, which is kept; any other move given up
changes nothing here. R151: when an abort is over. -/
def Obligations.ChangeoverAborts : Prop :=
  (
  ∀ s : State, abortOver s = true ↔ s.pans.a.state ≠ .raising ∧ s.pans.b.state ≠ .raising
    ∧ (s.sg.mb.reported = .opened ∨ rolePresent s .switchgear = false)
  ) ∧ (
  ∀ (s : State) (seq : Nat), Ready s →
    (s.co.step = .idle → Sending s → exec (.changeoverAbort seq) s = .next ((framed s).replied seq 0x22 .notActive))
      ∧ (s.co.step = .aborting → Sending s → exec (.changeoverAbort seq) s = .next ((framed s).replied seq 0x22 .already))
      ∧ (s.co.step ≠ .idle → s.co.step ≠ .aborting → exec (.changeoverAbort seq) s = .next
          (complete (reply seq 0x22 { result := .accepted } (abort .vehicle none s.co.step [] { s := framed s }))).s)
  ) ∧ (
  ∀ (reason : AbortReason) (detail : Option AbortDetail) (left : CoStep) (passed : List CoStep) (a : Act),
    (let c := (abort reason detail left passed a).s.co
     c.abortReason = some reason ∧ c.detail = detail ∧ c.abortStep = some a.s.co.step ∧ c.usable = none
      ∧ (c.step = .aborting ∨ c.step = .idle ∧ c.lastResult = some (.aborted reason))
      ∧ (c.step = .idle → abortOver (abort reason detail left passed a).s = true))
  ) ∧ (
  ∀ (reason : AbortReason) (detail : Option AbortDetail) (left : CoStep) (passed : List CoStep) (a : Act),
    (let begun : Act :=
      { s := { a.s with
          co := { a.s.co with
            step := .aborting
            abortReason := some reason
            detail
            abortStep := some a.s.co.step
            usable := none
            requested := []
            awaited := []
            verifyDeadline := none
            raiseTimer := none } }
        notes := a.notes ++ [.iceEvaluate .step, .gateReview] }
     let lowered (p : Pan) (x : Act) : Act := (lowerPan p .changeover .orderly true x).1
     let wrong : Act :=
      match a.s.co.newPan with
      | none => begun
      | some p => if reason = .wrongSystem then lowered p begun else begun
     let opened (x : Act) : Act :=
      if x.s.sg.mb.reported = .opened ∧ x.s.sg.mb.move = none ∨ rolePresent x.s .switchgear = false then x
      else (moveRequest .mb .opened .sequencer x).1.modCo fun c => { c with requested := [(.mb, .opened)] }
     let down (p : Pan) (x : Act) : Act :=
      if (panOf x.s p).state = .raising then (lowered p x).modCo fun c => { c with awaited := c.awaited ++ [p] } else x
     let asked := down .b (down .a (opened wrong))
     let c := asked.s.co
     let finished : Prop := asked.s.pans.a.state ≠ .raising ∧ asked.s.pans.b.state ≠ .raising
        ∧ (asked.s.sg.mb.reported = .opened ∨ rolePresent asked.s .switchgear = false)
     (¬ finished → abort reason detail left passed a =
        { asked with
          s := asked.s.reported (.changeoverStep .aborting left passed c.target c.newPan c.kept (estimate asked.s)) })
      ∧ (finished → abort reason detail left passed a =
          { s := (({ asked.s with
                co := { c with
                  step := .idle
                  lastResult := some (.aborted reason)
                  usable := none
                  requested := []
                  awaited := []
                  verifyDeadline := none
                  raiseTimer := none } }).reported
                (.changeoverResult (.aborted reason) none detail c.target c.origin c.oldSystem c.newPan c.kept
                  (some a.s.co.step) asked.s.lm.confirmed asked.s.sg.mb.reported (estimate asked.s))).reported
              (.changeoverStep .idle left (passed ++ [CoStep.aborting]) c.target c.newPan c.kept (estimate asked.s))
            notes := asked.notes ++ [.iceEvaluate .other, .gateReview] }))
  ) ∧ (
  ∀ (a : Act) (p : Pan) (new : PanState) (cause : Option LowerCause) (rest : List Note),
    a.notes = .coLinkLost :: .coPan p new cause :: rest →
    (a.s.choices = [] → takeNext a = takeNote .coLinkLost { a with notes := .coPan p new cause :: rest })
      ∧ (∀ cs, a.s.choices = 1 :: cs →
          takeNext a = takeNote (.coPan p new cause) { s := { a.s with choices := cs }, notes := .coLinkLost :: rest })
  ) ∧ (
  ∀ a : Act, (a.s.co.step = .idle ∨ a.s.co.step = .aborting → takeNote .coLinkLost a = a ∧ takeNote .coStandby a = a)
    ∧ (a.s.co.step ≠ .idle → a.s.co.step ≠ .aborting →
        takeNote .coLinkLost a = abort .linkLost none a.s.co.step [] a
        ∧ takeNote .coStandby a = abort .standby none a.s.co.step [] a
        ∧ takeNote (.coRole .line false) a = abort .senseLost none a.s.co.step [] a
        ∧ (takeNote (.coRole .switchgear false) a).s.co.abortReason = some .headLost)
  )
  ∧ (
  ∀ (a : Act) (p : Pan) (cause : LowerCause),
    (let c := a.s.co
     let held : List CoStep := [.loweringOld, .selecting, .awaitRaise, .raisingNew, .verifying, .halted]
     let relied : Prop := c.newPan = some p
        ∧ (c.kept = true ∧ c.step ∈ held ∨ c.kept = false ∧ c.step ∈ [CoStep.raisingNew, .verifying, .halted])
     let reason : AbortReason := match cause with
      | .strip => .panFault
      | .drop => .panFault
      | .raiseTimeout => .panFault
      | .headLost => .headLost
      | .standby => .standby
      | _ => .panLowered
     let mb := a.s.sg.mb
     let engaged : Prop := mb.reported = .closed ∨ mb.move ≠ none ∧ mb.target = some .closed
     (relied → (panOf a.s p).raised = false → takeNote (.coPan p .lowering (some cause)) a = abort reason none c.step [] a)
      ∧ (¬ relied → c.step ∉ [CoStep.loweringOld, .raisingNew, .aborting] → takeNote (.coPan p .lowering (some cause)) a = a)
      ∧ (engaged → c.step ∈ held → takeNote .coSwitch a = abort .mbClosed none c.step [] a))
  ) ∧ (
  ∀ (a : Act) (d : Dev) (target : Pos),
    (let c := a.s.co
     let given := takeNote (.coGaveUp d target) a
     let stuck : Act :=
      { s := (({ a.s with
            co := { c with
              step := .idle
              lastResult := some (.aborted .mbStuck)
              usable := none
              requested := []
              awaited := []
              verifyDeadline := none
              raiseTimer := none } }).reported
            (.changeoverResult (.aborted .mbStuck) c.abortReason c.detail c.target c.origin c.oldSystem c.newPan c.kept c.abortStep
              a.s.lm.confirmed a.s.sg.mb.reported (estimate a.s))).reported
          (.changeoverStep .idle .aborting [] c.target c.newPan c.kept (estimate a.s))
        notes := a.notes ++ [.iceEvaluate .other, .gateReview] }
     (c.step = .opening → d = .mb → target = .opened → given = abort .mbStuck none .opening [] a)
      ∧ (c.step = .closing → d = .mb → target = .closed → given = abort .mbStuck none .closing [] a)
      ∧ (c.step = .selecting → d ∈ [Dev.ss, .isoA, .isoB] → given = abort .switchgearFault none .selecting [] a)
      ∧ (c.step = .aborting → d = .mb → target = .opened → given = stuck)
      ∧ (c.step ∉ [CoStep.opening, .closing, .selecting, .aborting] ∨ d = .es → given = a)
      ∧ (c.step = .selecting → d = .mb → given = a)
      ∧ (c.step ∈ [CoStep.opening, .closing, .aborting] → d ≠ .mb → given = a)
      ∧ (c.step ∈ [CoStep.opening, .aborting] → target ≠ .opened → given = a)
      ∧ (c.step = .closing → target ≠ .closed → given = a))
  )

/-! ## Ice (09) -/

/-- R159: the ice score: the points of the first CLIMATE record whose band holds the ambient and whose humidity is reached, plus
the weighted arcs up to their cap, and at most 100; computed while the climate values are CURRENT. R168, R169: the heater
budget, and the allocation by first fit in table order, whose power never exceeds the budget; no budget while MB is not reported
CLOSED, while the confirmed state is no system code or one without a record in a VALID SYSTEM table, or while the last-window
fields are absent. R157: a STATUS of the climate head sets the climate values, each at the nearer end of its range, marks them CURRENT,
recomputes the score and evaluates the state; the loss of the CLIMATE role keeps the values, marks them AGED, and changes
nothing else. R159: an append to the Arc Ring recomputes the score and evaluates while the values are CURRENT, and does neither
while they are absent or AGED. Each of these evaluations is an event of Ice Control (assumption log 51). -/
def Obligations.IceScoreAndHeaterBudget : Prop :=
  (
  ∀ (a : Act) (c : Climate), a.s.ice.climate = some c →
    (let st := settings a.s
     let fits (r : ClimateRecord) : Prop := r.tempLo ≤ c.ambient ∧ c.ambient ≤ r.tempHi ∧ r.humMin ≤ c.humidity
     let table := validRecords a.s.vl.tables.climate
     let i := (recomputeScore a).1.s.ice
     let near (e : Nat) (arc : ArcEntry) : Bool := arc.position.any fun p => decide (e - st.arcWindow ≤ p ∧ p ≤ e)
     (c.current = false → recomputeScore a = (a, false))
      ∧ (c.current = true →
          i.score = min 100 (i.base + min st.arcCap (st.arcWeight * i.arcCount)) ∧ i.score ≤ 100
          ∧ (∀ before r after, table = before ++ r :: after → (∀ x ∈ before, ¬ fits x) → fits r → i.base = r.points)
          ∧ ((∀ r ∈ table, ¬ fits r) → i.base = 0)
          ∧ (estimate a.s = none → i.arcCount = 0)
          ∧ (∀ e, estimate a.s = some e → i.arcCount = (a.s.lm.arcs.filter (near e)).length)
          ∧ (i.holdOff = true ↔ a.s.ice.holdOff = true ∧ st.scrapeOff < i.score)))
  ) ∧ (
  (∀ (payload : List Byte) (a : Act),
    (let values : Climate :=
      { ambient := max (-500) (min 500 (signed16 (wordAt payload 0))), humidity := min 100 (byteAt payload 2).toNat,
        stripA := max (-500) (min 500 (signed16 (wordAt payload 3))), stripB := max (-500) (min 500 (signed16 (wordAt payload 5))),
        current := true }
     climateStatus payload a = iceEvent .other (recomputeScore (a.modIce fun i => { i with climate := some values })).1))
  ∧ ∀ a : Act,
      (∀ c, a.s.ice.climate = some c →
        takeNote .climateLost a =
          { a with
            s := { a.s with
              ice := { a.s.ice with
                climate := some
                  { c with
                    current := false } } } }
        ∧ (c.current = true → takeNote .iceArc a = iceEvent .other (recomputeScore a).1)
        ∧ (c.current = false → takeNote .iceArc a = a))
      ∧ (a.s.ice.climate = none → takeNote .climateLost a = a ∧ takeNote .iceArc a = a ∧ recomputeScore a = (a, false))
  ) ∧ (
  (∀ (budget : Nat) (candidates : List HeaterRecord), (∀ r ∈ candidates, 1 ≤ r.group ∧ r.group ≤ 6) →
      candidates.Pairwise (fun x y => x.group ≠ y.group) →
      (let on := candidates.filter fun r => (firstFit budget candidates).getLsbD (r.group - 1)
       (on.map (·.power)).sum ≤ budget
        ∧ ∀ before r after, candidates = before ++ r :: after →
            (r ∈ on ↔ ((on.filter (· ∈ before)).map (·.power)).sum + r.power ≤ budget)))
  ∧ (∀ s : State, s.sg.mb.reported ≠ .closed → heaterBudget s = (0, 0))
  ∧ (∀ s : State, (∀ c, s.lm.confirmed ≠ .system c) → heaterBudget s = (0, 0))
  ∧ (∀ (s : State) (c : Nat), s.lm.confirmed = .system c → systemRecord s c = none → heaterBudget s = (0, 0))
  ∧ (∀ s : State, s.lm.last = none → heaterBudget s = (0, 0))
  ∧ ∀ (s : State) (c : Nat) (r : SystemRecord) (w : WindowResult), s.sg.mb.reported = .closed → s.lm.confirmed = .system c →
      systemRecord s c = some r → s.lm.last = some w →
      (let figure := if r.selector = .named .ac then w.vac else w.m.natAbs
       let headroom := (r.iMax - w.iw) * (figure * 3 / 2) / 1000
       heaterBudget s = (headroom, min r.budget headroom))
  )

/-- R162, R163, R164, R165, R166: what an evaluation makes of the ice state. INACTIVE while the mode, the setting or a table
says so; HEAT under FORCE_HEAT; under AUTO the thresholds decide between WATCH and HEAT, and SCRAPE is entered where the score,
the seven conditions and the hold-off allow it: with the isolating switch OPEN the raise is asked for, otherwise the switch is
asked to open; a refusal, of the raise or of the move, fails the entry, and the report carries what the move request or the
raise answered. SCRAPE is left at its score, at the first condition that fails, at a failed entry and at the scrape pan, the
last two with the hold-off set; the scrape pan is then no longer raised. R169, R171: a change of the state recomputes the
allocation and makes one report with its cause (a failed switch move: assumption log 48). Where no condition and no entry
failed, the cause is MODE or SETTING at a change of the mode or the setting, and into INACTIVE; at any other evaluation it is
MODE where the state was INACTIVE and SCORE else: which cause names such a change is the model's reading (assumption log 23).
The model's other readings: SCRAPE tests its score before the conditions and the scrape pan, so that a score at or below
scrape_off keeps the hold-off (assumption log 24); the report has the budget and on-set of the recomputation (assumption log
56); at a change to a step other than IDLE condition 2 fails whatever the step is by now. An event of Ice Control is this
evaluation, and where such changes of step wait, they count as seen, a scrape in progress being evaluated for them first: these
two are the model's reading as well (assumption log 51). The thresholds are in R160's order. -/
def Obligations.IceStateFollowsItsConditions : Prop :=
  (
  ∀ (trigger : IceTrigger) (a : Act),
    (let s := a.s
     let i := s.ice
     let st := settings s
     let t := (evaluateIce trigger a).s
     let off : Prop := s.vl.mode = .standby ∨ i.setting = .off ∨ s.vl.tables.heater.load ≠ .valid
        ∨ s.vl.tables.climate.load ≠ .valid
     let permits (c : Nat) (r : SystemRecord) : Prop := s.lm.confirmed = .system c ∧ systemRecord s c = some r
        ∧ r.scrapePermitted = .named true
     let conditions : List Prop :=
      [s.vl.mode = .run, s.co.step = .idle ∧ trigger ≠ .step, i.inhibit = false, ∃ c r, permits c r,
       ∃ c r, permits c r ∧ (if s.pr.position.last = none then 0 else s.pr.position.speed) ≤ r.scrapeSpeed.getD 0,
       ∃ p, (panOf s p).state = .up ∧ (panOf s p).role = some .collect]
     let allowed : Prop := ∀ c ∈ conditions, c
     let enters (p : Pan) : Prop := allowed ∧ (panOf s (otherPan p)).state = .up ∧ (panOf s (otherPan p)).role = some .collect
        ∧ (panOf s p).state = .down ∧ st.scrapeOn ≤ i.score ∧ i.holdOff = false
     let plain : IceCause := match trigger with
      | .mode => .mode
      | .setting => .setting
      | .step => if i.state = .inactive then .mode else .score
      | .other => if i.state = .inactive then .mode else .score
     let told (after : IceState) (cause : IceCause) : Prop := t.ru.slots[(20 : Fin 44)].report =
        some (.ice i.state after cause t.ice.score t.ice.base t.ice.arcCount t.ice.budget t.ice.allocated)
     let out : Prop := t.ice.scrapePan = none ∧ t.ice.phase = none ∧ ∀ p, i.scrapePan = some p → (panOf t p).raised = false
     let scraping (p : Pan) (phase : ScrapePhase) : Prop :=
      t.ice.state = .scrape ∧ t.ice.scrapePan = some p ∧ t.ice.phase = some phase
     let failed (answer : Option Result) : Prop :=
      t.ice.state = .heat ∧ out ∧ t.ice.holdOff = true ∧ told .heat (.entryFailed answer)
     let changed (after : IceState) : Prop := t.ice.state = after ∧ (i.state ≠ after → told after plain)
     let afterScrape : Prop := (i.score ≤ st.heatOff → t.ice.state = .watch) ∧ (st.heatOff < i.score → t.ice.state = .heat)
     let switch (p : Pan) : Device := devOf s (isoOf p)
     (t.ice.score = i.score
        ∧ (t.ice.state ≠ i.state → (∃ cause, told t.ice.state cause) ∧ (t.ice.headroom, t.ice.budget) = heaterBudget t))
      ∧ (off → (i.state = .inactive → evaluateIce trigger a = a)
          ∧ (i.state ≠ .inactive → t.ice.state = .inactive ∧ out
              ∧ told .inactive (if s.vl.mode = .standby then .mode else .setting)))
      ∧ (¬ off → i.setting = .forceHeat →
          (i.state = .heat → evaluateIce trigger a = a) ∧ (i.state ≠ .heat → changed .heat ∧ out))
      ∧ (¬ off → i.setting = .auto → st.heatOff < st.heatOn → st.heatOn ≤ st.scrapeOn → st.scrapeOff < st.scrapeOn →
          (i.state = .inactive ∨ i.state = .watch → i.score < st.heatOn → changed .watch)
          ∧ (i.state = .heat → i.score ≤ st.heatOff → changed .watch)
          ∧ (i.state = .inactive ∨ i.state = .watch → st.heatOn ≤ i.score → (¬ ∃ p, enters p) → changed .heat)
          ∧ (i.state = .heat → st.heatOff < i.score → (¬ ∃ p, enters p) → t.ice.state = .heat)
          ∧ (∀ p c r, i.state ≠ .scrape → enters p → permits c r →
              (let raise := (raisePan p .scrape (r.scrapeProfile.getD 0) .ice a).2.result
               let refused : Option Result := match (moveRequest (isoOf p) .opened .ice a).2 with
                | .accepted => none
                | .already => none
                | .busy => some .busy
                | .range => some .range
                | .headAbsent => some .headAbsent
                | .interlock _ => some .interlock
               ((switch p).reported = .opened → (switch p).move = none →
                  (raise = .accepted → stripActive s p = false → scraping p .raising ∧ told .scrape plain)
                  ∧ (raise ≠ .accepted → t.ice.state = .heat ∧ t.ice.scrapePan = none ∧ t.ice.phase = none
                      ∧ t.ice.holdOff = true ∧ told .heat (.entryFailed (some raise))))
                ∧ (¬ ((switch p).reported = .opened ∧ (switch p).move = none) →
                  (refused = none → scraping p .isoOpening ∧ told .scrape plain)
                  ∧ (∀ answer, refused = some answer → t.ice.state = .heat ∧ t.ice.scrapePan = none ∧ t.ice.phase = none
                      ∧ t.ice.holdOff = true ∧ told .heat (.entryFailed (some answer))))))
          ∧ ∀ p phase, i.state = .scrape → i.scrapePan = some p → i.phase = some phase →
              (let r := panOf s p
               let expected : Prop := match phase with
                | .isoOpening => r.state = .down
                | .raising => (r.state = .raising ∨ r.state = .up) ∧ r.role = some .scrape
                | .active => r.state = .up ∧ r.role = some .scrape
               (i.score ≤ st.scrapeOff → out ∧ afterScrape ∧ t.ice.holdOff = i.holdOff ∧ told t.ice.state plain)
                ∧ (∀ before c after, st.scrapeOff < i.score → conditions = before ++ c :: after → (∀ x ∈ before, x) → ¬ c →
                    out ∧ afterScrape ∧ t.ice.holdOff = i.holdOff ∧ told t.ice.state (.permission (before.length + 1)))
                ∧ (st.scrapeOff < i.score → allowed → ¬ expected →
                    out ∧ afterScrape ∧ t.ice.holdOff = true ∧ told t.ice.state (.scrapePan r.state))
                ∧ (st.scrapeOff < i.score → allowed → expected →
                    (phase = .active → evaluateIce trigger a = a)
                    ∧ (phase = .raising → r.state = .raising → evaluateIce trigger a = a)
                    ∧ (phase = .raising → r.state = .up → scraping p .active)
                    ∧ (phase = .isoOpening → (switch p).move ≠ none → evaluateIce trigger a = a)
                    ∧ (phase = .isoOpening → (switch p).move = none → (switch p).reported ≠ .opened → st.heatOff < i.score →
                        failed none)
                    ∧ ∀ c x, phase = .isoOpening → (switch p).move = none → (switch p).reported = .opened → permits c x →
                        (let raise := (raisePan p .scrape (x.scrapeProfile.getD 0) .ice a).2.result
                         (raise = .accepted → stripActive s p = false → scraping p .raising)
                          ∧ (raise ≠ .accepted → st.heatOff < i.score → failed (some raise)))))))
  ) ∧ (
  ∀ (trigger : IceTrigger) (a : Act),
    (let waits : Prop := Note.iceEvaluate .step ∈ a.notes
     let seen : Act :=
      { a with notes := a.notes.map fun n => if n = Note.iceEvaluate .step then Note.iceEvaluate .other else n }
     takeNote (.iceEvaluate trigger) a = iceEvent trigger a
      ∧ (¬ waits → iceEvent trigger a = evaluateIce trigger a)
      ∧ (waits → a.s.ice.state ≠ .scrape → iceEvent trigger a = evaluateIce trigger seen)
      ∧ (waits → a.s.ice.state = .scrape → iceEvent trigger a = evaluateIce trigger (evaluateIce .step seen)))
  )

/-- R169, R170: a recomputation takes the budget and the on-set that it allows the candidates of the ice state, and presents the
on-set where it differs from the one last commanded and the HEATER role is PRESENT: one that the gate admits is sent and becomes
the one last commanded, one that it refuses leaves that as it was, with its GATE report. R170: a STATUS of the heater head
becomes the actual on-set; a group newly on that is not commanded makes a HEATER_MISMATCH report. The loss of the HEATER role
makes both on-sets absent. The command is SET_GROUPS with the on-set as its byte. -/
def Obligations.HeatersAreAllocatedAndWatched : Prop :=
  (
  ∀ a : Act,
    (let i := a.s.ice
     let table := validRecords a.s.vl.tables.heater
     let candidates : List HeaterRecord := match i.state with
      | .inactive => []
      | .watch => table.filter fun r => decide (r.watch = .named true)
      | .heat => table
      | .scrape => table
     let budget := heaterBudget a.s
     let g := firstFit budget.2 candidates
     let new : Ice := { i with headroom := budget.1, budget := budget.2, allocated := g }
     let c := groupsCommand g
     (c = { role := .heater, content := .setGroups g, payload := [4, BitVec.ofNat 8 g.toNat], origin := .ice, seq := none })
      ∧ (rolePresent a.s .heater = false ∨ i.commanded = some g → allocate a = a.modIce fun _ => new)
      ∧ (∀ d, rolePresent a.s .heater = true → directoryOfRole a.s .heater = some d → i.commanded ≠ some g →
          judge a.s c = none →
          allocate a = { a with s := { a.s.sentOn d.port c.payload with ice := { new with commanded := some g } } })
      ∧ (∀ f, rolePresent a.s .heater = true → i.commanded ≠ some g → judge a.s c = some f →
          allocate a =
            { s := ({ a.s with ice := new }).reported (.gate .heater (some .setGroups) .ice none .refused (some f) none false)
              notes := a.notes })
      ∧ takeNote .iceAllocate a = allocate a)
  ) ∧ (
  ∀ (payload : List Byte) (a : Act),
    (let i := a.s.ice
     let new := statusGroups payload
     let mismatch : Groups := new &&& ~~~ (i.commanded.getD 0)
     let fresh : Prop := ∃ g : Fin 6, new.getLsbD g.val = true ∧ (i.commanded.getD 0).getLsbD g.val = false
        ∧ (i.actual.getD 0).getLsbD g.val = false
     let taken' : State := { a.s with ice := { i with actual := some new } }
     (∀ g : Fin 6, new.getLsbD g.val = (byteAt payload 0).getLsbD g.val)
      ∧ (¬ fresh → heaterStatus payload a = { a with s := taken' })
      ∧ (fresh → heaterStatus payload a =
          { s := taken'.reported (.ice i.state i.state (.heaterMismatch mismatch) i.score i.base i.arcCount i.budget i.allocated)
            notes := a.notes })
      ∧ takeNote .heaterLost a = a.modIce fun i => { i with commanded := none, actual := none })
  )

/-- R161: ICE_MODE takes the settings 0 OFF, 1 AUTO and 2 FORCE_HEAT and refuses any other with RANGE; it clears the hold-off, is
ALREADY where the setting stands and DONE otherwise, and its reply carries the state that the evaluation of R162 results in;
RESTART leaves the setting as it is. -/
def Obligations.IceModeTakesTheSetting : Prop :=
  (∀ (s : State) (seq v : Nat), Ready s →
    (let taken' (st : IceSetting) : Prop :=
      ∃ a : Act, a = evaluateIce .setting { s := { framed s with ice := { s.ice with setting := st, holdOff := false } } }
        ∧ a.s.ice.setting = st
        ∧ exec (.iceMode seq v) s = .next (complete (reply seq 0x40
            { result := if s.ice.setting = st then .already else .done, data := putPlace iceStates a.s.ice.state } a)).s
     (v = 0 → taken' .off) ∧ (v = 1 → taken' .auto) ∧ (v = 2 → taken' .forceHeat)
      ∧ (3 ≤ v → Sending s → exec (.iceMode seq v) s = .next ((framed s).replied seq 0x40 .range))))
  ∧ ∀ a : Act, (restartEffects a).s.ice.setting = a.s.ice.setting

/-! ## Vehicle Link, tables and requests (11) -/

/-- R188, R190: what the receiver's events make of the Link Record, and what its silence deadline does: with the policy HOLD the
silence alone; with LOWER both pantographs are asked to lower with the cause PROTECT, orderly, and the changeover is told. R52: a
cause that names both pantographs is taken for each separately, and then none is raised; that PAN_A takes it first is the
model's choice (assumption log 66). A bad frame on a link that is
not LOCKED is none and changes nothing (assumption log 8); the clock is that of assumption log 2. -/
def Obligations.VehicleLinkEventsMoveTheLink : Prop :=
  (
  ∀ (s : State) (t : Nat), s.powered = true → Sending s →
    (let v := s.vl
     let become (link : VlLink) : State := { s with vl := { v with link, badRun := 0 } }
     let silent : State := { s with now := max s.now t, vl := { v with active := false, silenceDeadline := none } }
     exec .vlLightAppears s = .next (if v.link = .down then become .acquiring else s)
      ∧ exec .vlLockAchieved s = .next (if v.link = .acquiring then { s with vl := { v with link := .locked } } else s)
      ∧ exec .vlLockLost s = .next (if v.link = .locked then become .acquiring else s)
      ∧ exec .vlLightLost s = .next (become .down)
      ∧ exec .vlBadFrame s = .next
          (if v.link = .locked then
            if v.badRun + 1 < 8 then { s with vl := { v with badFrames := bump16 v.badFrames, badRun := v.badRun + 1 } }
            else { s with vl := { v with link := .acquiring, badFrames := bump16 v.badFrames, badRun := 0 } }
          else s)
      ∧ (v.silenceDeadline = some t →
          (¬ (settings s).policy = .named .lower → exec .vlSilenceExpiry s = .next silent)
          ∧ ((settings s).policy = .named .lower → exec .vlSilenceExpiry s = .next
              (complete { s := silent, notes := [.panLowerBoth .protect .orderly, .coLinkLost] }).s)))
  ) ∧ (
  ∀ (a first second : Act) (cause : LowerCause) (kind : CauseKind) (began began' : Bool),
    lowerPan .a cause kind false a = (first, began) → lowerPan .b cause kind false first = (second, began') →
    takeNote (.panLowerBoth cause kind) a = second ∧ ∀ p, (panOf second.s p).raised = false
  )

/-- R191, R192: a management request at a full Reply Queue is discarded with REPLY_OVERRUN set; while a RESTART is pending a
RESTART is answered ALREADY and any other request, a request that names none among them, BUSY; a request that names none is
answered RANGE otherwise. The full queue comes before the pending RESTART, and that before RANGE (assumption log 12); that the
code 0x05 with fields that RESTART does not have is such a request is the model's choice (log 67). R193, log 13: a LOAD_TABLE
for a table outside the eight is answered RANGE, and in RUN one for one of them MODE. R195: READ_TABLE and READ_RECORD answer
with what the tables and records hold at the moment they are taken, and with RANGE where the identifier names none; that a
READ_RECORD reply is not cut, whatever its length, is the model's reading (log 25). None has another effect than a valid
frame's and the reply. R195: READ_TABLE of each of the eight tables gives the load state, for INVALID its reason and record
index, the number of records held, and the records from the start on, as many as fit in the reply and no fewer; the record of
each table and each of the twelve records of READ_RECORD are given byte by byte. The model's readings and choices of their
layouts: the list of a GATE role (log 14), two-valued fields (15), presence bytes (31) and groups with one (62), a held command's
content (41), the time since the frame time (45), restart pending (49), the requested moves (61), the place of a function (63),
and a time beyond four bytes (64). -/
def Obligations.RequestsThatChangeNothing : Prop :=
  (
  ∀ (s : State) (c : Instr) (seq code : Nat), s.powered = true → s.vl.link = .locked → Sending s →
    (let discarded : State := { framed s with vl := { (framed s).vl with replyOverrun := true } }
     (managementCode c = some (seq, code) →
        (8 ≤ s.vl.replies.length → exec c s = .next discarded)
        ∧ (s.vl.replies.length < 8 → s.vl.restartPending = true →
            exec c s = .next ((framed s).replied seq code (if c = .restart seq then .already else .busy))))
      ∧ (8 ≤ s.vl.replies.length → exec .mgmtRequestDiscarded s = .next discarded)
      ∧ (s.vl.replies.length < 8 → s.vl.restartPending = false →
          exec (.unknownRequest seq code) s = .next ((framed s).replied seq code .range)))
  ) ∧ (
  ∀ (s : State) (c : Instr) (seq id : Nat) (bytes : List Byte), Ready s → Sending s →
    c ∈ [Instr.loadTableFirst seq id bytes, .loadTableMiddle seq id bytes, .loadTableLast seq id bytes,
         .loadTableOnly seq id bytes] →
    (8 ≤ id → exec c s = .next ((framed s).replied seq 0x01 .range))
      ∧ (id < 8 → s.vl.mode = .run → exec c s = .next ((framed s).replied seq 0x01 .mode))
  ) ∧ (
  ∀ (s : State) (seq id start : Nat), Ready s → Sending s →
    (∀ data, readTableOf s.vl.tables start id = some data →
        exec (.readTable seq id start) s = .next ((framed s).replied seq 0x02 .done data))
      ∧ (readTableOf s.vl.tables start id = none →
          exec (.readTable seq id start) s = .next ((framed s).replied seq 0x02 .range))
      ∧ (∀ data, readRecord (framed s) id = some data →
          exec (.readRecord seq id) s = .next ((framed s).replied seq 0x03 .done data))
      ∧ (readRecord (framed s) id = none → exec (.readRecord seq id) s = .next ((framed s).replied seq 0x03 .range))
  ) ∧ (
  (let one (n : Nat) : Byte := BitVec.ofNat 8 n
   let two (n : Nat) : List Byte := [one (n / 256), one n]
   let three (n : Nat) : List Byte := one (n / 65536) :: two n
   let four (n : Nat) : List Byte := two (n / 65536) ++ two n
   let signed (v : Int) : List Byte := two (v % 65536).toNat
   let opt (present : Option (List Byte)) : List Byte := match present with
    | none => [0]
    | some l => 1 :: l
   let yes (b : Bool) : Byte := if b then 0 else 1
   let coded (α : Type) (place : α → Nat) (c : Coded α) : Byte := match c with
    | .named v => one (place v)
    | .unnamed b => b
   let load (state : LoadState) : List Byte := match state with
    | .empty => [0, 0, 0]
    | .loading => [1, 0, 0]
    | .valid => [2, 0, 0]
    | .invalid reason index =>
      [3, 1, one ([Reason.empty, .field, .order, .duplicate, .reference, .length, .key, .conflict, .overflow].idxOf reason), 1,
       one index]
   let roles : List Role := [.switchgear, .panA, .panB, .line, .heater, .climate, .aux1, .aux2]
   let keyed : List Role := [.switchgear, .panA, .panB, .heater, .aux1, .aux2]
   let kinds : List Kind :=
    [.mbClose, .mbOpen, .ssMove, .isoAMove, .isoBMove, .esEarth, .esOpen, .ramp, .hold, .vent, .setGroups, .aux]
   let functions : List InputFunction :=
    [.panAUp, .panADown, .panBUp, .panBDown, .stripA, .stripB, .marker0, .marker1, .roofAccess, .general]
   let assignment (r : InputMapRecord) : List Byte :=
    [coded InputFunction functions.idxOf r.function, one r.filter, coded Level [Level.high, .low].idxOf r.active,
     coded Sense [Sense.none, .toActive, .toInactive, .both].idxOf r.sense]
   (∀ (ts : Tables) (start : Nat),
    readTableOf ts start 0 = some (readTableData directoryForm ts.directory start)
      ∧ readTableOf ts start 1 = some (readTableData gateForm ts.gate start)
      ∧ readTableOf ts start 2 = some (readTableData systemForm ts.system start)
      ∧ readTableOf ts start 3 = some (readTableData profileForm ts.profiles start)
      ∧ readTableOf ts start 4 = some (readTableData inputForm ts.inputs start)
      ∧ readTableOf ts start 5 = some (readTableData settingsForm ts.settings start)
      ∧ readTableOf ts start 6 = some (readTableData heaterForm ts.heater start)
      ∧ readTableOf ts start 7 = some (readTableData climateForm ts.climate start)
      ∧ ∀ id, 8 ≤ id → readTableOf ts start id = none)
  ∧ (∀ (ρ : Type) (f : TableForm ρ) (t : Table ρ) (start : Nat),
      (let bytes (n : Nat) : List Byte := load t.load ++ [one t.records.length, one n]
        ++ (((t.records.drop start).take n).map f.put).flatten
       ∃ n, n ≤ (t.records.drop start).length ∧ readTableData f t start = bytes n ∧ (bytes n).length ≤ 237
        ∧ (n < (t.records.drop start).length → 237 < (bytes (n + 1)).length)))
  ∧ ((∀ r : DirectoryRecord, directoryForm.put r =
        [coded Role roles.idxOf r.role, one r.port, one r.kind] ++ two r.silence
          ++ [coded Forwarding [Forwarding.all, .changes, .none].idxOf r.forwarding,
              coded Access [Access.full, .readOnly].idxOf r.access])
    ∧ (∀ r : GateRecord, gateForm.put r =
        [coded Role keyed.idxOf r.role, coded Kind kinds.idxOf r.kind, one r.origins.toNat] ++ two r.conditions.toNat
          ++ opt (r.speedLimit.map two) ++ two r.holdTime)
    ∧ (∀ r : SystemRecord, systemForm.put r =
        [one r.code] ++ two r.vacLo ++ two r.vacHi ++ two r.dcLo ++ two r.dcHi ++ three r.fLo ++ three r.fHi
          ++ [coded Selector [Selector.ac, .dc].idxOf r.selector, coded PanSet [PanSet.a, .b, .aOrB].idxOf r.panSet,
              coded Pan [Pan.a, .b].idxOf r.preferred, one r.raiseProfile, one r.persistence]
          ++ two r.iMax ++ two r.budget ++ [coded Bool (fun b => if b then 0 else 1) r.scrapePermitted]
          ++ opt (r.scrapeSpeed.map two) ++ opt (r.scrapeProfile.map fun n => [one n]))
    ∧ (∀ r : ProfileRecord, profileForm.put r =
        [one r.number, one r.stages.length] ++ (r.stages.map fun x => two x.target ++ two x.rate).flatten ++ two r.holdBase
          ++ [one r.gain] ++ two r.maxPressure ++ two r.timeout)
    ∧ (∀ r : InputMapRecord, inputForm.put r = one r.line :: assignment r)
    ∧ (∀ r : Settings, settingsForm.put r =
        [one r.windowLength] ++ two r.hysteresis ++ two r.deadThreshold ++ [one r.deadConfirm, one r.unknownPersistence]
          ++ two r.staleLimit ++ two r.jumpBack ++ two r.jumpForward ++ two r.vlSilence
          ++ [coded Policy [Policy.hold, .lower].idxOf r.policy] ++ two r.statusPeriod ++ [one r.digestThreshold] ++ two r.mbOpen
          ++ two r.mbClose ++ two r.ss ++ two r.iso ++ two r.es ++ two r.ventGuard ++ two r.lowerTimeout ++ three r.verifyTimeout
          ++ [one r.heatOn, one r.heatOff, one r.scrapeOn, one r.scrapeOff, one r.arcWeight, one r.arcCap] ++ two r.arcWindow)
    ∧ (∀ r : HeaterRecord, heaterForm.put r =
        [one r.group, one r.power, coded Bool (fun b => if b then 0 else 1) r.watch])
    ∧ ∀ r : ClimateRecord, climateForm.put r = signed r.tempLo ++ signed r.tempHi ++ [one r.humMin, one r.points])
  ∧ ∀ s : State,
      (let line (l : LineState) : Byte := match l with
        | .noSense => 0
        | .system c => one c
        | .dead => 16
        | .unknown => 17
        | .over => 18
       let remaining (deadline : Option Nat) : List Byte := opt (deadline.map fun t => four (t - s.now))
       let pans : List Pan := [.a, .b]
       let panPlace (p : Pan) : Byte := one (pans.idxOf p)
       let devs : List Dev := [.mb, .ss, .isoA, .isoB, .es]
       let pos (d : Dev) (p : Pos) : Byte := match d with
        | .mb => one ([Pos.opened, .closed, .unknown].idxOf p)
        | .ss => one ([Pos.ac, .dc, .mid, .unknown].idxOf p)
        | .isoA => one ([Pos.opened, .closed, .unknown].idxOf p)
        | .isoB => one ([Pos.opened, .closed, .unknown].idxOf p)
        | .es => one ([Pos.opened, .earthed, .unknown].idxOf p)
       let origin (o : Origin) : List Byte := [one ([Origin.vehicle, .sequencer, .pan, .ice, .protection].idxOf o)]
       let causes : List LowerCause :=
        [.vehicle, .changeover, .scrapeEnd, .standby, .protect, .strip, .drop, .raiseTimeout, .roofAccess, .headLost]
       let pan (r : PanRecord) : List Byte :=
        [one ([PanState.down, .raising, .up, .lowering, .fault].idxOf r.state)]
          ++ opt (r.role.map fun x => [one ([PanRole.collect, .scrape].idxOf x)]) ++ opt (r.profile.map fun n => [one n])
          ++ opt (r.raiseOrigin.map fun o => [one ([Origin.pan, .sequencer, .ice].idxOf o)]) ++ opt (r.stage.map fun n => [one n])
          ++ remaining r.stageDeadline ++ remaining r.raiseDeadline
          ++ two ((causes.map fun c => if c ∈ r.causes then 2 ^ causes.idxOf c else 0).sum)
          ++ opt (r.primary.map fun c => [one (causes.idxOf c)])
          ++ opt (r.phase.map fun x => [one ([LowerPhase.awaitMb, .venting].idxOf x)])
          ++ remaining r.ventGuard ++ remaining r.lowerDeadline
          ++ opt (r.latch.map fun x => [one ([FaultLatch.strip, .drop, .raiseTimeout, .lowerTimeout].idxOf x)])
          ++ opt (r.lastHold.map two) ++ opt (r.measured.map two) ++ [yes r.headFault, yes r.vent]
       let device (d : Dev) : List Byte :=
        (let e := devOf s d
         [pos d e.reported] ++ opt (e.target.map fun p => [pos d p]) ++ [if e.move = none then 0 else 1]
          ++ opt (e.move.map fun m => origin m.origin) ++ remaining (e.move.map fun m => m.deadline)
          ++ opt (e.mark.map fun p => [pos d p]))
       let reasons : List AbortReason :=
        [.mbStuck, .switchgearFault, .panFault, .panLowered, .wrongSystem, .over, .interlock, .refused, .mbClosed, .mbOpened,
         .senseLost, .headLost, .standby, .linkLost, .vehicle, .restart]
       let steps : List CoStep :=
        [.idle, .opening, .loweringOld, .selecting, .awaitRaise, .raisingNew, .verifying, .closing, .halted, .aborting]
       let result (r : CoResult) : List Byte := match r with
        | .done => [0]
        | .noop => [1]
        | .aborted reason => [2, one (reasons.idxOf reason)]
       let fields (action : Action) : Byte × List Byte := match action with
        | .changeover target raise => (0, one target :: opt (raise.map four))
        | .lowerAll => (1, [])
        | .scrapeInhibit on => (2, [if on then 0 else 1])
        | .reportMark tag => (3, [one tag])
       let trigger (t : Trigger) : List Byte := match t with
        | .atPosition p => 0 :: four p
        | .onMarker m => [1, one m]
       let actions (l : List Action) : List Byte :=
        one l.length :: (l.map fun x => (fields x).1 :: (fields x).2).flatten
       let latch (l : Latch) : List Byte := match l with
        | .disarmed => [0, 0]
        | .armed => [1, 0]
        | .latched edge at' => [2, 1, one ([Edge.toActive, .toInactive].idxOf edge)] ++ opt (at'.map four)
       let input (i : Fin 12) : List Byte :=
        (let r := s.inputs[i]
         [one ([Level.high, .low].idxOf r.raw), one ([Filtered.high, .low, .unsettled].idxOf r.filtered)] ++ remaining r.deadline
          ++ two r.bounce ++ latch r.latch ++ [yes (lineActive s i)] ++ opt ((inputMapRecord s i).map assignment))
       let failures : List Failed :=
        [.kind, .masked, .origin, .h11, .h12, .h13, .h14, .h15, .h16, .h17, .h2, .h3, .h41, .h42, .h51, .h52, .h53, .mbOpen,
         .mbClosed, .ssAc, .ssDc, .lineSystem, .lineDead, .positionFresh, .noChangeover, .belowSpeed, .busy, .deviceMoving,
         .range, .expired, .headLost, .table, .raiseRoofAccess, .raiseEs, .raiseOther, .raiseIso]
       let held (h : Held) : List Byte :=
        (let bytes := if h.command.content = .aux then h.command.payload else h.command.payload.drop 1
         (h.command.content.kind.map fun k => one (kinds.idxOf k)).toList ++ [one bytes.length] ++ bytes
          ++ [one h.seq, one (failures.idxOf h.failed)] ++ four (h.deadline - s.now))
       let port (r : PortRecord) : List Byte :=
        [one ([PortLink.down, .acquiring, .locked, .barred].idxOf r.link)] ++ opt (r.kind.map fun n => [one n])
          ++ opt (r.serial.map four) ++ two r.badFrames ++ [one r.badRun]
       let role (x : Role) : List Byte :=
        (let r := roleOf s x
         [one ([Presence.absent, .present, .lost].idxOf r.presence)]
          ++ opt ((directoryOfRole s x).map fun d => [one d.port]) ++ remaining r.silenceDeadline
          ++ [yes r.lastForwarded.isSome] ++ two r.undelivered ++ if x ∈ keyed then opt ((holdOf s x).map held) else [])
       let l := s.lm
       let g := s.sg
       let c := s.co
       let i := s.ice
       let q := s.pr
       let r := s.pr.position
       let v := s.vl
       let ts := s.vl.tables
       readRecord s 0 = some ([line l.confirmed]
          ++ opt (l.candidate.map fun c => [line (match c.cls with
              | .over => .over
              | .dead => .dead
              | .unknown => .unknown
              | .system code => .system code), one c.count])
          ++ opt (l.last.map fun w => signed w.m ++ two w.vac ++ three w.f ++ two w.c ++ two w.iw ++ [yes w.sat])
          ++ two l.windowSequence ++ two l.gapCount ++ [one l.deadRun] ++ opt (l.confirmedSince.map four)
          ++ [one l.arcs.length]
          ++ opt (l.arcs.getLast?.map fun e => opt (e.position.map four) ++ [one e.length, line e.state]))
        ∧ readRecord s 1 = some (pan s.pans.a)
        ∧ readRecord s 2 = some (pan s.pans.b)
        ∧ readRecord s 3 = some ((devs.map device).flatten ++ [yes g.mbTrip])
        ∧ readRecord s 4 = some ([one (steps.idxOf c.step)] ++ opt (c.target.map fun n => [one n])
          ++ opt (c.origin.map fun o => [one ([CoOrigin.route, .marker, .vehicle].idxOf o)]) ++ opt (c.raisePosition.map four)
          ++ opt (c.usable.map fun b => [yes b]) ++ opt (c.oldSystem.map fun n => [one n])
          ++ opt (c.newPan.map fun p => [panPlace p]) ++ [yes c.kept, one c.requested.length]
          ++ (c.requested.map fun m => [one (devs.idxOf m.1), pos m.1 m.2]).flatten ++ [one c.awaited.length]
          ++ c.awaited.map panPlace ++ remaining c.verifyDeadline ++ remaining c.raiseTimer
          ++ opt (c.abortReason.map fun x => [one (reasons.idxOf x)]) ++ opt (c.lastResult.map result))
        ∧ readRecord s 5 = some ([one ([IceSetting.off, .auto, .forceHeat].idxOf i.setting),
            one ([IceState.inactive, .watch, .heat, .scrape].idxOf i.state), one i.score, one i.base, one i.arcCount]
          ++ opt (i.climate.map fun x => signed x.ambient ++ [one x.humidity] ++ signed x.stripA ++ signed x.stripB
              ++ [if x.current then 0 else 1])
          ++ [yes i.inhibit, yes i.holdOff] ++ opt (i.scrapePan.map fun p => [panPlace p])
          ++ opt (i.phase.map fun x => [one ([ScrapePhase.isoOpening, .raising, .active].idxOf x)]) ++ three i.headroom
          ++ two i.budget ++ [one i.allocated.toNat] ++ opt (i.commanded.map fun x => [one x.toNat])
          ++ opt (i.actual.map fun x => [one x.toNat]))
        ∧ readRecord s 6 = some (opt (r.last.map four) ++ two r.speed ++ [if r.good then 0 else 1]
          ++ opt (r.frameTime.map fun t => four (min 4294967295 (s.now - t))) ++ opt (r.frameStale.map two)
          ++ [if r.fresh then 0 else 1] ++ remaining r.staleDeadline ++ opt ((estimate s).map four) ++ two r.jumps)
        ∧ readRecord s 7 = some ([one q.queue.length]
          ++ (q.queue.map fun e => (fields e.action).1 :: (trigger e.trigger ++ (fields e.action).2)).flatten ++ four q.appended
          ++ four q.fired ++ four q.flushed ++ remaining q.triggerTimer)
        ∧ readRecord s 8 = some (actions q.m0 ++ actions q.m1)
        ∧ readRecord s 9 = some (((List.finRange 12).map input).flatten
          ++ [yes (ventAsserted s .a), yes (ventAsserted s .b), yes (tripAsserted s), yes (linkOk s)])
        ∧ readRecord s 10 = some ((s.ports.toList.map port).flatten ++ (roles.map role).flatten ++ [one s.ru.telemetry.length])
        ∧ readRecord s 11 = some ([one ([Mode.standby, .run].idxOf v.mode), yes v.restartPending,
            one ([VlLink.down, .acquiring, .locked].idxOf v.link), if v.active then 1 else 0] ++ remaining v.silenceDeadline
          ++ two v.badFrames ++ [one v.badRun, yes v.replyOverrun, one v.replies.length,
              coded Policy [Policy.hold, .lower].idxOf (settings s).policy]
          ++ load ts.directory.load ++ [one ts.directory.records.length] ++ load ts.gate.load ++ [one ts.gate.records.length]
          ++ load ts.system.load ++ [one ts.system.records.length] ++ load ts.profiles.load ++ [one ts.profiles.records.length]
          ++ load ts.inputs.load ++ [one ts.inputs.records.length] ++ load ts.settings.load ++ [one ts.settings.records.length]
          ++ load ts.heater.load ++ [one ts.heater.records.length] ++ load ts.climate.load ++ [one ts.climate.records.length])
        ∧ ∀ id, 12 ≤ id → readRecord s id = none))
  )

/-- R25, R42, R87, R103, R158, R167, R177, R194: each field of a record outside its range is set to the nearer end as the record
arrives, and counts one toward CLAMPED; a speed limit without BELOW_SPEED and scrape fields without the permission are dropped,
and count where they were clamped (assumption log 17); a stage target is then lowered to the max pressure, and counts again. -/
def Obligations.TableFieldsAreClamped : Prop :=
  (let near (lo hi x y : Nat) : Prop := lo ≤ y ∧ y ≤ hi ∧ (x < lo → y = lo) ∧ (hi < x → y = hi) ∧ (lo ≤ x → x ≤ hi → y = x)
   let nearInt (lo hi x y : Int) : Prop := lo ≤ y ∧ y ≤ hi ∧ (x < lo → y = lo) ∧ (hi < x → y = hi) ∧ (lo ≤ x → x ≤ hi → y = x)
   let nearOpt (hi : Nat) (x y : Option Nat) : Prop :=
    (x = none → y = none) ∧ ∀ v, x = some v → ∃ w, y = some w ∧ near 0 hi v w
   let one (x y : Nat) : Nat := if x = y then 0 else 1
   let oneInt (x y : Int) : Nat := if x = y then 0 else 1
   let oneOpt (hi : Nat) (x : Option Nat) : Nat := x.elim 0 fun v => if v ≤ hi then 0 else 1
   (∀ r : DirectoryRecord,
      (let c := (clampDirectory r).1
       near 0 7 r.port c.port ∧ near 1 255 r.kind c.kind ∧ near 20 500 r.silence c.silence ∧ c.role = r.role
        ∧ c.forwarding = r.forwarding ∧ c.access = r.access
        ∧ (clampDirectory r).2 = one r.port c.port + one r.kind c.kind + one r.silence c.silence))
   ∧ (∀ r : GateRecord,
      (let c := (clampGate r).1
       near 0 5000 r.holdTime c.holdTime ∧ (r.conditions.getLsbD 8 = true → nearOpt 12000 r.speedLimit c.speedLimit)
        ∧ (r.conditions.getLsbD 8 = false → c.speedLimit = none) ∧ c.role = r.role ∧ c.kind = r.kind ∧ c.origins = r.origins
        ∧ c.conditions = r.conditions ∧ (clampGate r).2 = one r.holdTime c.holdTime + oneOpt 12000 r.speedLimit))
   ∧ (∀ r : SystemRecord,
      (let c := (clampSystem r).1
       near 1 15 r.code c.code ∧ near 0 32767 r.vacLo c.vacLo ∧ near 0 32767 r.vacHi c.vacHi ∧ near 0 32767 r.dcLo c.dcLo
        ∧ near 0 32767 r.dcHi c.dcHi ∧ near 0 200000 r.fLo c.fLo ∧ near 0 200000 r.fHi c.fHi
        ∧ near 0 3 r.raiseProfile c.raiseProfile ∧ near 1 15 r.persistence c.persistence ∧ near 1 4095 r.iMax c.iMax
        ∧ near 0 500 r.budget c.budget ∧ c.selector = r.selector ∧ c.panSet = r.panSet ∧ c.preferred = r.preferred
        ∧ c.scrapePermitted = r.scrapePermitted
        ∧ (r.scrapePermitted = .named false → c.scrapeSpeed = none ∧ c.scrapeProfile = none)
        ∧ (r.scrapePermitted ≠ .named false →
            nearOpt 12000 r.scrapeSpeed c.scrapeSpeed ∧ nearOpt 3 r.scrapeProfile c.scrapeProfile)
        ∧ (clampSystem r).2 = one r.code c.code + one r.vacLo c.vacLo + one r.vacHi c.vacHi + one r.dcLo c.dcLo
            + one r.dcHi c.dcHi + one r.fLo c.fLo + one r.fHi c.fHi + one r.raiseProfile c.raiseProfile
            + one r.persistence c.persistence + one r.iMax c.iMax + one r.budget c.budget + oneOpt 12000 r.scrapeSpeed
            + oneOpt 3 r.scrapeProfile))
   ∧ (∀ r : ProfileRecord,
      (let c := (clampProfile r).1
       near 0 3 r.number c.number ∧ near 0 6000 r.holdBase c.holdBase ∧ near 0 50 r.gain c.gain
        ∧ near 1000 6000 r.maxPressure c.maxPressure ∧ near 1000 30000 r.timeout c.timeout
        ∧ c.stages.length = r.stages.length
        ∧ (∀ (k : Nat) (x y : Stage), r.stages[k]? = some x → c.stages[k]? = some y →
            near 10 5000 x.rate y.rate ∧ ∃ own, near 0 6000 x.target own ∧ y.target = min own c.maxPressure)
        ∧ (clampProfile r).2 = one r.number c.number + one r.holdBase c.holdBase + one r.gain c.gain
            + one r.maxPressure c.maxPressure + one r.timeout c.timeout
            + (r.stages.map fun x => (if x.target ≤ 6000 then 0 else 1) + (if min 6000 x.target ≤ c.maxPressure then 0 else 1)
                + (if 10 ≤ x.rate ∧ x.rate ≤ 5000 then 0 else 1)).sum))
   ∧ (∀ r : InputMapRecord,
      (let c := (clampInputMap r).1
       near 0 11 r.line c.line ∧ near 0 3 r.filter c.filter ∧ c.function = r.function ∧ c.active = r.active ∧ c.sense = r.sense
        ∧ (clampInputMap r).2 = one r.line c.line + one r.filter c.filter))
   ∧ (∀ r : Settings,
      (let c := (clampSettings r).1
       near 5 250 r.windowLength c.windowLength ∧ near 0 4095 r.hysteresis c.hysteresis
        ∧ near 100 8000 r.deadThreshold c.deadThreshold ∧ near 5 250 r.deadConfirm c.deadConfirm
        ∧ near 1 15 r.unknownPersistence c.unknownPersistence ∧ near 200 5000 r.staleLimit c.staleLimit
        ∧ near 0 65535 r.jumpBack c.jumpBack ∧ near 0 65535 r.jumpForward c.jumpForward ∧ near 50 5000 r.vlSilence c.vlSilence
        ∧ c.policy = r.policy ∧ near 10 1000 r.statusPeriod c.statusPeriod ∧ near 1 64 r.digestThreshold c.digestThreshold
        ∧ near 20 500 r.mbOpen c.mbOpen ∧ near 20 1000 r.mbClose c.mbClose ∧ near 500 10000 r.ss c.ss
        ∧ near 500 10000 r.iso c.iso ∧ near 1000 20000 r.es c.es ∧ near 50 1000 r.ventGuard c.ventGuard
        ∧ near 2000 15000 r.lowerTimeout c.lowerTimeout ∧ near 1000 120000 r.verifyTimeout c.verifyTimeout
        ∧ near 0 100 r.heatOn c.heatOn ∧ near 0 100 r.heatOff c.heatOff ∧ near 0 100 r.scrapeOn c.scrapeOn
        ∧ near 0 100 r.scrapeOff c.scrapeOff ∧ near 0 20 r.arcWeight c.arcWeight ∧ near 0 100 r.arcCap c.arcCap
        ∧ near 0 65535 r.arcWindow c.arcWindow
        ∧ (clampSettings r).2 = one r.windowLength c.windowLength + one r.hysteresis c.hysteresis
            + one r.deadThreshold c.deadThreshold + one r.deadConfirm c.deadConfirm
            + one r.unknownPersistence c.unknownPersistence + one r.staleLimit c.staleLimit + one r.jumpBack c.jumpBack
            + one r.jumpForward c.jumpForward + one r.vlSilence c.vlSilence + one r.statusPeriod c.statusPeriod
            + one r.digestThreshold c.digestThreshold + one r.mbOpen c.mbOpen + one r.mbClose c.mbClose + one r.ss c.ss
            + one r.iso c.iso + one r.es c.es + one r.ventGuard c.ventGuard + one r.lowerTimeout c.lowerTimeout
            + one r.verifyTimeout c.verifyTimeout + one r.heatOn c.heatOn + one r.heatOff c.heatOff
            + one r.scrapeOn c.scrapeOn + one r.scrapeOff c.scrapeOff + one r.arcWeight c.arcWeight + one r.arcCap c.arcCap
            + one r.arcWindow c.arcWindow))
   ∧ (∀ r : HeaterRecord,
      (let c := (clampHeater r).1
       near 1 6 r.group c.group ∧ near 1 60 r.power c.power ∧ c.watch = r.watch
        ∧ (clampHeater r).2 = one r.group c.group + one r.power c.power))
   ∧ ∀ r : ClimateRecord,
      (let c := (clampClimate r).1
       nearInt (-500) 500 r.tempLo c.tempLo ∧ nearInt (-500) 500 r.tempHi c.tempHi ∧ near 0 100 r.humMin c.humMin
        ∧ near 0 100 r.points c.points
        ∧ (clampClimate r).2 = oneInt r.tempLo c.tempLo + oneInt r.tempHi c.tempHi + one r.humMin c.humMin
            + one r.points c.points))

/-- R193: a block's records are appended in order, each clamped; a record beyond the capacity makes the table INVALID with
OVERFLOW, bytes that are no whole record with FIELD, each with the record's index, and the records already in it stand
(assumption log 17). Frame layouts: a record of each table is read from the bytes that a READ_TABLE reply writes for it, and from
no others, whatever follows them; the bytes that are no whole record are so the rest (the list of a GATE role: assumption log 14;
a presence byte other than 0 and 1: 16). R26, R43, R87, R103, R158, R167, R177, R194: the checks of a record in their order, each
with its reason.
At LAST and ONLY the first record in table order that fails a check makes the table INVALID with the reason and its index; a
table of no records is EMPTY, but GATE is then VALID. The users of a VALID table find the first record with their key, and none
in a table that is not VALID; the command kinds of each role and the members of a pan set are listed. -/
def Obligations.TableRecordsAreAppendedAndChecked : Prop :=
  (let appends (ρ : Type) (f : TableForm ρ) : Prop := ∀ (t : Table ρ) (bytes : List Byte),
    (bytes = [] → t.append f bytes = (t, { held := t.records.length }))
      ∧ (bytes ≠ [] → f.capacity ≤ t.records.length →
          (t.append f bytes).1 = { load := .invalid .overflow t.records.length, records := t.records }
            ∧ (t.append f bytes).2.failure = some (.overflow, t.records.length))
      ∧ (bytes ≠ [] → t.records.length < f.capacity → f.get bytes = none →
          (t.append f bytes).1 = { load := .invalid .field t.records.length, records := t.records }
            ∧ (t.append f bytes).2.failure = some (.field, t.records.length))
      ∧ ∀ r rest, t.records.length < f.capacity → f.get bytes = some (r, rest) →
          (let u := { t with records := t.records ++ [(f.clamp r).1] }.append f rest
           (t.append f bytes).1 = u.1 ∧ (t.append f bytes).2 = { u.2 with clamped := (f.clamp r).2 + u.2.clamped })
   appends _ directoryForm ∧ appends _ gateForm ∧ appends _ systemForm ∧ appends _ profileForm ∧ appends _ inputForm
    ∧ appends _ settingsForm ∧ appends _ heaterForm ∧ appends _ climateForm
    ∧ directoryForm.capacity = 8 ∧ gateForm.capacity = 32 ∧ systemForm.capacity = 8 ∧ profileForm.capacity = 4
    ∧ inputForm.capacity = 12 ∧ settingsForm.capacity = 1 ∧ heaterForm.capacity = 6 ∧ climateForm.capacity = 16
  ) ∧ (
   let gets (ρ : Type) (f : TableForm ρ) (fits : ρ → Prop) : Prop := ∀ (r : ρ) (bytes rest : List Byte),
    f.get bytes = some (r, rest) ↔ fits r ∧ bytes = f.put r ++ rest
   let byte (n : Nat) : Prop := n < 256
   let word (n : Nat) : Prop := n < 65536
   let three (n : Nat) : Prop := n < 16777216
   let signed (v : Int) : Prop := -32768 ≤ v ∧ v ≤ 32767
   let coded (α : Type) (list : List α) (c : Coded α) : Prop := match c with
    | .named v => v ∈ list
    | .unnamed b => list.length ≤ b.toNat
   gets _ directoryForm (fun r =>
      coded Role [.switchgear, .panA, .panB, .line, .heater, .climate, .aux1, .aux2] r.role ∧ byte r.port ∧ byte r.kind
        ∧ word r.silence ∧ coded Forwarding [.all, .changes, .none] r.forwarding ∧ coded Access [.full, .readOnly] r.access)
    ∧ gets _ gateForm (fun r =>
      coded Role [.switchgear, .panA, .panB, .heater, .aux1, .aux2] r.role
        ∧ coded Kind [.mbClose, .mbOpen, .ssMove, .isoAMove, .isoBMove, .esEarth, .esOpen, .ramp, .hold, .vent, .setGroups, .aux] r.kind
        ∧ (∀ v, r.speedLimit = some v → word v) ∧ word r.holdTime)
    ∧ gets _ systemForm (fun r =>
      byte r.code ∧ word r.vacLo ∧ word r.vacHi ∧ word r.dcLo ∧ word r.dcHi ∧ three r.fLo ∧ three r.fHi
        ∧ coded Selector [.ac, .dc] r.selector ∧ coded PanSet [.a, .b, .aOrB] r.panSet ∧ coded Pan [.a, .b] r.preferred
        ∧ byte r.raiseProfile ∧ byte r.persistence ∧ word r.iMax ∧ word r.budget ∧ coded Bool [true, false] r.scrapePermitted
        ∧ (∀ v, r.scrapeSpeed = some v → word v) ∧ ∀ v, r.scrapeProfile = some v → byte v)
    ∧ gets _ profileForm (fun r =>
      byte r.number ∧ byte r.stages.length ∧ (∀ x ∈ r.stages, word x.target ∧ word x.rate) ∧ word r.holdBase ∧ byte r.gain
        ∧ word r.maxPressure ∧ word r.timeout)
    ∧ gets _ inputForm (fun r =>
      byte r.line
        ∧ coded InputFunction
            [.panAUp, .panADown, .panBUp, .panBDown, .stripA, .stripB, .marker0, .marker1, .roofAccess, .general] r.function
        ∧ byte r.filter ∧ coded Level [.high, .low] r.active ∧ coded Sense [.none, .toActive, .toInactive, .both] r.sense)
    ∧ gets _ settingsForm (fun r =>
      byte r.windowLength ∧ word r.hysteresis ∧ word r.deadThreshold ∧ byte r.deadConfirm ∧ byte r.unknownPersistence
        ∧ word r.staleLimit ∧ word r.jumpBack ∧ word r.jumpForward ∧ word r.vlSilence ∧ coded Policy [.hold, .lower] r.policy
        ∧ word r.statusPeriod ∧ byte r.digestThreshold ∧ word r.mbOpen ∧ word r.mbClose ∧ word r.ss ∧ word r.iso ∧ word r.es
        ∧ word r.ventGuard ∧ word r.lowerTimeout ∧ three r.verifyTimeout ∧ byte r.heatOn ∧ byte r.heatOff ∧ byte r.scrapeOn
        ∧ byte r.scrapeOff ∧ byte r.arcWeight ∧ byte r.arcCap ∧ word r.arcWindow)
    ∧ gets _ heaterForm (fun r => byte r.group ∧ byte r.power ∧ coded Bool [true, false] r.watch)
    ∧ gets _ climateForm (fun r => signed r.tempLo ∧ signed r.tempHi ∧ byte r.humMin ∧ byte r.points)
  ) ∧ (
   let checked (o : Option Reason) (checks : List (Reason × Prop)) : Prop :=
    (∀ before reason fails after, checks = before ++ (reason, fails) :: after → (∀ x ∈ before, ¬ x.2) → fails → o = some reason)
      ∧ ((∀ x ∈ checks, ¬ x.2) → o = none)
   (∀ earlier r, checked (checkDirectory earlier r)
      [(.field, ¬ ∃ x y z, r.role = .named x ∧ r.forwarding = .named y ∧ r.access = .named z),
       (.duplicate, ∃ e ∈ earlier, e.role = r.role), (.duplicate, ∃ e ∈ earlier, e.port = r.port)])
    ∧ (∀ earlier r, checked (checkGate earlier r)
      [(.field, ¬ ((∃ x y, r.role = .named x ∧ r.kind = .named y) ∧ r.origins.toNat < 16 ∧ r.conditions.toNat < 512)),
       (.key, ¬ ∃ x y, r.role = .named x ∧ r.kind = .named y ∧ y ∈ roleKinds x ∧ y ≠ .mbOpen ∧ y ≠ .vent ∧ y ≠ .esOpen),
       (.duplicate, ∃ e ∈ earlier, e.role = r.role ∧ e.kind = r.kind),
       (.conflict, ∃ k ∈ [0, 2, 4], r.conditions.getLsbD k = true ∧ r.conditions.getLsbD (k + 1) = true),
       (.reference, r.conditions.getLsbD 8 = true ∧ r.speedLimit = none)])
    ∧ (∀ earlier r, checked (checkSystem earlier r)
      [(.field, ¬ ∃ w x y z, r.selector = .named w ∧ r.panSet = .named x ∧ r.preferred = .named y ∧ r.scrapePermitted = .named z),
       (.order, r.vacHi < r.vacLo ∨ r.dcHi < r.dcLo ∨ r.fHi < r.fLo), (.duplicate, ∃ e ∈ earlier, e.code = r.code),
       (.reference, ¬ ∃ x y, r.panSet = .named x ∧ r.preferred = .named y ∧ x.holds y = true),
       (.reference, r.scrapePermitted = .named true ∧ (r.scrapeSpeed = none ∨ r.scrapeProfile = none))])
    ∧ (∀ earlier r, checked (checkProfile earlier r)
      [(.length, r.stages.length < 1 ∨ 8 < r.stages.length), (.duplicate, ∃ e ∈ earlier, e.number = r.number)])
    ∧ (∀ earlier r, checked (checkInputMap earlier r)
      [(.field, ¬ ∃ x y z, r.function = .named x ∧ r.active = .named y ∧ r.sense = .named z),
       (.duplicate, ∃ e ∈ earlier, e.line = r.line),
       (.duplicate, r.function ≠ .named .general ∧ ∃ e ∈ earlier, e.function = r.function)])
    ∧ (∀ earlier r, checked (checkSettings earlier r)
      [(.field, ¬ ∃ x, r.policy = .named x),
       (.order, ¬ (r.heatOff < r.heatOn ∧ r.heatOn ≤ r.scrapeOn ∧ r.scrapeOff < r.scrapeOn))])
    ∧ (∀ earlier r, checked (checkHeater earlier r)
      [(.field, ¬ ∃ x, r.watch = .named x), (.duplicate, ∃ e ∈ earlier, e.group = r.group)])
    ∧ ∀ earlier r, checked (checkClimate earlier r) [(.order, r.tempHi < r.tempLo)]
  ) ∧ (
   let validates (ρ : Type) (f : TableForm ρ) : Prop := ∀ t : Table ρ,
    (∀ before r after reason, t.records = before ++ r :: after →
        (∀ first x later, before = first ++ x :: later → f.check first x = none) → f.check before r = some reason →
        t.validated f = ({ t with load := .invalid reason before.length }, some (reason, before.length)))
      ∧ (t.records ≠ [] → (∀ first x later, t.records = first ++ x :: later → f.check first x = none) →
          t.validated f = ({ t with load := .valid }, none))
   let empty (ρ : Type) (f : TableForm ρ) : Prop := ∀ t : Table ρ, t.records = [] →
    t.validated f = ({ t with load := .invalid .empty 0 }, some (.empty, 0))
   (∀ (ρ : Type) (f : TableForm ρ), validates ρ f)
    ∧ empty _ directoryForm ∧ empty _ systemForm ∧ empty _ profileForm ∧ empty _ inputForm ∧ empty _ settingsForm
    ∧ empty _ heaterForm ∧ empty _ climateForm
    ∧ ∀ t : Table GateRecord, t.records = [] → t.validated gateForm = ({ t with load := .valid }, none)
  ) ∧ (
   let finds (ρ : Type) (t : Table ρ) (key : ρ → Prop) (found : Option ρ) : Prop :=
    (∀ r, found = some r ↔
        t.load = .valid ∧ ∃ before after, t.records = before ++ r :: after ∧ key r ∧ ∀ e ∈ before, ¬ key e)
      ∧ (found = none ↔ (t.load = .valid → ∀ r ∈ t.records, ¬ key r))
   (∀ s : State,
      (let ts := s.vl.tables
       (∀ role : Role, finds _ ts.directory (fun r => r.role = .named role) (directoryOfRole s role))
        ∧ (∀ port : Fin 8, finds _ ts.directory (fun r => r.port = port.val) (directoryOfPort s port))
        ∧ (∀ (role : Role) (kind : Kind),
            finds _ ts.gate (fun r => r.role = .named role ∧ r.kind = .named kind) (gateRecord s role kind))
        ∧ (∀ code : Nat, finds _ ts.system (fun r => r.code = code) (systemRecord s code))
        ∧ (∀ number : Nat, finds _ ts.profiles (fun r => r.number = number) (profileRecord s number))
        ∧ ∀ line : Fin 12, finds _ ts.inputs (fun r => r.line = line.val) (inputMapRecord s line)))
    ∧ (∀ (ρ : Type) (t : Table ρ) (r : ρ), r ∈ validRecords t ↔ t.load = .valid ∧ r ∈ t.records)
    ∧ (∀ role : Role, roleKinds role = match role with
        | .switchgear => [.mbClose, .mbOpen, .ssMove, .isoAMove, .isoBMove, .esEarth, .esOpen]
        | .panA => [.ramp, .hold, .vent]
        | .panB => [.ramp, .hold, .vent]
        | .line => []
        | .heater => [.setGroups]
        | .climate => []
        | .aux1 => [.aux]
        | .aux2 => [.aux])
    ∧ ∀ (set : PanSet) (p : Pan), set.holds p = true ↔ set = .aOrB ∨ set = .a ∧ p = .a ∨ set = .b ∧ p = .b)

/-- R193: a block of LOAD_TABLE in STANDBY: FIRST discards the table and appends, MIDDLE appends, LAST appends and validates, and
ONLY does as FIRST and LAST; MIDDLE and LAST need a table in LOADING. Each leaves the tables, and at the tail of the Reply
Queue the answer, as said here, and nothing else of the Link Record changes. Each table identifier, HEAD_DIRECTORY 0 to CLIMATE 7,
names its own table with its own form of records and checks, and the other seven tables stand. -/
def Obligations.LoadTableBlocks : Prop :=
  (
  ∀ (s : State) (seq id : Nat) (bytes : List Byte), Ready s → Sending s → s.vl.mode = .standby → id < 8 →
    (let replied (r : Answered) : Reply := { seq, code := 0x01, result := r.result, clamped := r.clamped, data := r.data }
     let leaves (c : Instr) (tables : Tables) (r : Answered) : Prop :=
      ∃ t, exec c s = .next t ∧ t.vl = { (framed s).vl with tables, replies := s.vl.replies ++ [replied r] }
     let failed (clamped : Nat) (f : Reason × Nat) : Answered :=
      { result := .tableInvalid, clamped, data := putPlace validationReasons f.1 ++ put8 f.2 }
     let appends (c : Instr) (ts : Tables) : Prop :=
      (let r := appendIn bytes ts id
       (∀ f, r.2.failure = some f → leaves c r.1 (failed r.2.clamped f))
        ∧ (r.2.failure = none → leaves c r.1 { result := .accepted, clamped := r.2.clamped, data := put8 r.2.held }))
     let validates (c : Instr) (ts : Tables) : Prop :=
      (let r := appendIn bytes ts id
       let v := validateIn r.1 id
       (∀ f, r.2.failure = some f → leaves c r.1 (failed r.2.clamped f))
        ∧ (∀ f, r.2.failure = none → v.2 = some f → leaves c v.1 (failed r.2.clamped f))
        ∧ (r.2.failure = none → v.2 = none → leaves c v.1 { result := .done, clamped := r.2.clamped }))
     let empty := discardIn s.vl.tables id
     appends (.loadTableFirst seq id bytes) empty ∧ validates (.loadTableOnly seq id bytes) empty
      ∧ (loadOf s.vl.tables id = .loading →
          appends (.loadTableMiddle seq id bytes) s.vl.tables ∧ validates (.loadTableLast seq id bytes) s.vl.tables)
      ∧ (loadOf s.vl.tables id ≠ .loading →
          exec (.loadTableMiddle seq id bytes) s = .next ((framed s).replied seq 0x01 .sequence)
          ∧ exec (.loadTableLast seq id bytes) s = .next ((framed s).replied seq 0x01 .sequence)))
  ) ∧ (
  ∀ (ts : Tables) (bytes : List Byte),
    (loadOf ts 0 = ts.directory.load ∧ discardIn ts 0 = { ts with directory := { load := .loading, records := [] } }
      ∧ appendIn bytes ts 0 = ({ ts with directory := (ts.directory.append directoryForm bytes).1 }, (ts.directory.append directoryForm bytes).2)
      ∧ validateIn ts 0 = ({ ts with directory := (ts.directory.validated directoryForm).1 }, (ts.directory.validated directoryForm).2)
      ∧ loadOf ts 1 = ts.gate.load ∧ discardIn ts 1 = { ts with gate := { load := .loading, records := [] } }
      ∧ appendIn bytes ts 1 = ({ ts with gate := (ts.gate.append gateForm bytes).1 }, (ts.gate.append gateForm bytes).2)
      ∧ validateIn ts 1 = ({ ts with gate := (ts.gate.validated gateForm).1 }, (ts.gate.validated gateForm).2)
      ∧ loadOf ts 2 = ts.system.load ∧ discardIn ts 2 = { ts with system := { load := .loading, records := [] } }
      ∧ appendIn bytes ts 2 = ({ ts with system := (ts.system.append systemForm bytes).1 }, (ts.system.append systemForm bytes).2)
      ∧ validateIn ts 2 = ({ ts with system := (ts.system.validated systemForm).1 }, (ts.system.validated systemForm).2)
      ∧ loadOf ts 3 = ts.profiles.load ∧ discardIn ts 3 = { ts with profiles := { load := .loading, records := [] } }
      ∧ appendIn bytes ts 3 = ({ ts with profiles := (ts.profiles.append profileForm bytes).1 }, (ts.profiles.append profileForm bytes).2)
      ∧ validateIn ts 3 = ({ ts with profiles := (ts.profiles.validated profileForm).1 }, (ts.profiles.validated profileForm).2)
      ∧ loadOf ts 4 = ts.inputs.load ∧ discardIn ts 4 = { ts with inputs := { load := .loading, records := [] } }
      ∧ appendIn bytes ts 4 = ({ ts with inputs := (ts.inputs.append inputForm bytes).1 }, (ts.inputs.append inputForm bytes).2)
      ∧ validateIn ts 4 = ({ ts with inputs := (ts.inputs.validated inputForm).1 }, (ts.inputs.validated inputForm).2)
      ∧ loadOf ts 5 = ts.settings.load ∧ discardIn ts 5 = { ts with settings := { load := .loading, records := [] } }
      ∧ appendIn bytes ts 5 = ({ ts with settings := (ts.settings.append settingsForm bytes).1 }, (ts.settings.append settingsForm bytes).2)
      ∧ validateIn ts 5 = ({ ts with settings := (ts.settings.validated settingsForm).1 }, (ts.settings.validated settingsForm).2)
      ∧ loadOf ts 6 = ts.heater.load ∧ discardIn ts 6 = { ts with heater := { load := .loading, records := [] } }
      ∧ appendIn bytes ts 6 = ({ ts with heater := (ts.heater.append heaterForm bytes).1 }, (ts.heater.append heaterForm bytes).2)
      ∧ validateIn ts 6 = ({ ts with heater := (ts.heater.validated heaterForm).1 }, (ts.heater.validated heaterForm).2)
      ∧ loadOf ts 7 = ts.climate.load ∧ discardIn ts 7 = { ts with climate := { load := .loading, records := [] } }
      ∧ appendIn bytes ts 7 = ({ ts with climate := (ts.climate.append climateForm bytes).1 }, (ts.climate.append climateForm bytes).2)
      ∧ validateIn ts 7 = ({ ts with climate := (ts.climate.validated climateForm).1 }, (ts.climate.validated climateForm).2))
  )

/-- R193, R104, R178, R85, R88, R28, R11, R34, R194, R169: what the blocks of a table do to its users. HEAD_DIRECTORY that
leaves VALID, at FIRST and ONLY: every role is ABSENT, each that was not makes its HEAD_STATE report DIRECTORY, the blocks of
those that were PRESENT are told, in role order by the model's choice (assumption log 68), and each BARRED port is LOCKED; one
that becomes VALID, at LAST and ONLY, bars each LOCKED port whose announced kind is not its record's, with the report BARRED.
INPUT_MAP that leaves VALID, at FIRST and ONLY: every function that was active is handed on as inactive, in an order that the
choices pick (log 3), every latch is DISARMED, and a pantograph whose UP contact goes with it is no longer raised; with one that
becomes VALID, at LAST and ONLY, each function takes the level of its line, and each that becomes active is handed on (logs 3,
19). That the blocks told at the FIRST part of an ONLY act after its LAST part is the model's choice (log 70). HEATER: each
change of its load state recomputes the allocation in its part of the block, at FIRST, MIDDLE, LAST and ONLY. SYSTEM at FIRST
and ONLY makes a confirmed system code UNKNOWN with the cause TABLE and its LINE report, and clears the candidate, as becoming
VALID does, which also finds the headroom and the budget; discarded, it leaves neither. HEAD_DIRECTORY or GATE at FIRST or ONLY,
whatever the load state, empties every hold slot, and each held command is refused with TABLE. SETTINGS that leaves VALID with
values that differ from the defaults, and one that becomes VALID at LAST or ONLY with values that differ from those in force,
discards the partial window or the dead run, with its run-start record (log 37); the settings in force are the record of a VALID
table, else the defaults. -/
def Obligations.TableLeavingValidIsFelt : Prop :=
  (
  ∀ (s : State) (seq : Nat) (bytes : List Byte), Ready s → Sending s → s.vl.mode = .standby →
    (s.vl.tables.directory.load = .valid → ∃ t, exec (.loadTableFirst seq 0 bytes) s = .next t
      ∧ (∀ role, (roleOf t role).presence = .absent)
      ∧ ∀ port : Fin 8, t.ports[port] =
          if s.ports[port].link = .barred then { s.ports[port] with link := .locked } else s.ports[port])
    ∧ (∀ c, s.vl.tables.system.load = .valid → s.lm.confirmed = .system c →
        ∃ t, exec (.loadTableFirst seq 2 bytes) s = .next t ∧ t.lm.confirmed = .unknown ∧ t.lm.candidate = none)
    ∧ (s.vl.tables.inputs.load = .valid → ∃ t, exec (.loadTableFirst seq 4 bytes) s = .next t
        ∧ ∀ line : Fin 12, t.inputs[line].latch = .disarmed ∧ t.inputs[line].raw = s.inputs[line].raw
            ∧ t.inputs[line].filtered = s.inputs[line].filtered)
    ∧ (s.vl.tables.inputs.load = .valid → ∃ t, exec (.loadTableFirst seq 4 bytes) s = .next t
        ∧ (∀ f, functionActive t f = false)
        ∧ ∀ p, functionActive s (upFunction p) = true → (panOf s p).state = .up → (panOf t p).raised = false)
  ) ∧ (
  ∀ (s : State) (c : Instr) (seq id : Nat) (bytes : List Byte), Ready s → Sending s → s.vl.mode = .standby → id = 0 ∨ id = 1 →
    c ∈ [Instr.loadTableFirst seq id bytes, .loadTableOnly seq id bytes] →
    ∃ t, exec c s = .next t ∧ (∀ role ∈ slotRoles, holdOf t role = none)
      ∧ (s.co.step = .idle → (∀ role h, holdOf s role = some h → h.command.role = role) →
          ∀ role h, role ∈ slotRoles → holdOf s role = some h → t.ru.slots[slotOf (.gate role none .vehicle none .refused none none false)].report =
            some (.gate role h.command.content.kind h.command.origin h.command.seq .refused (some .table) none false))
  ) ∧ (
  ∀ (s : State) (seq : Nat) (bytes : List Byte), Ready s → Sending s → s.vl.mode = .standby →
    s.vl.tables.settings.load = .valid →
    (let was := settings s
     let windowDiffers : Prop := was.windowLength ≠ 50 ∨ was.hysteresis ≠ 300
     let deadDiffers : Prop := was.deadThreshold ≠ 600 ∨ was.deadConfirm ≠ 25
     (∃ t, exec (.loadTableFirst seq 5 bytes) s = .next t
        ∧ (windowDiffers → t.lm.acc = {} ∧ t.lm.expected = none)
        ∧ (¬ windowDiffers → t.lm.acc = s.lm.acc ∧ t.lm.expected = s.lm.expected)
        ∧ (deadDiffers → t.lm.deadRun = 0 ∧ t.lm.runStart = none)
        ∧ (¬ deadDiffers → t.lm.deadRun = s.lm.deadRun ∧ t.lm.runStart = s.lm.runStart)
        ∧ t.lm.gapCount = s.lm.gapCount ∧ t.lm.confirmed = s.lm.confirmed ∧ t.lm.arcs = s.lm.arcs)
      ∧ ∃ t, exec (.loadTableOnly seq 5 bytes) s = .next t
        ∧ (windowDiffers → t.lm.acc = {} ∧ t.lm.expected = none)
        ∧ (deadDiffers → t.lm.deadRun = 0 ∧ t.lm.runStart = none)
        ∧ t.lm.gapCount = s.lm.gapCount ∧ t.lm.confirmed = s.lm.confirmed ∧ t.lm.arcs = s.lm.arcs)
  ) ∧ (
  (let defaults : Settings :=
    { windowLength := 50, hysteresis := 300, deadThreshold := 600, deadConfirm := 25, unknownPersistence := 3
      staleLimit := 1000, jumpBack := 500, jumpForward := 2000, vlSilence := 500, policy := .named .lower
      statusPeriod := 100, digestThreshold := 16, mbOpen := 80, mbClose := 150, ss := 3000, iso := 2000, es := 5000
      ventGuard := 300, lowerTimeout := 8000, verifyTimeout := 20000, heatOn := 40, heatOff := 25, scrapeOn := 70
      scrapeOff := 50, arcWeight := 5, arcCap := 40, arcWindow := 20000 }
   (∀ (s : State) (r : Settings), s.vl.tables.settings.load = .valid → s.vl.tables.settings.records.head? = some r →
      settings s = r)
   ∧ (∀ s : State, s.vl.tables.settings.load ≠ .valid → settings s = defaults)
   ∧ ∀ (s : State) (seq : Nat) (bytes : List Byte), Ready s → Sending s → s.vl.mode = .standby →
    (let becomes (before : Table Settings) (r : Settings) : Prop :=
      (before.append settingsForm bytes).2.failure = none
        ∧ ((before.append settingsForm bytes).1.validated settingsForm).2 = none
        ∧ (before.append settingsForm bytes).1.records.head? = some r
     let windowDiffers (x y : Settings) : Prop := x.windowLength ≠ y.windowLength ∨ x.hysteresis ≠ y.hysteresis
     let deadDiffers (x y : Settings) : Prop := x.deadThreshold ≠ y.deadThreshold ∨ x.deadConfirm ≠ y.deadConfirm
     let felt (window dead : Prop) (t : State) : Prop :=
      (window → t.lm.acc = {} ∧ t.lm.expected = none)
        ∧ (¬ window → t.lm.acc = s.lm.acc ∧ t.lm.expected = s.lm.expected)
        ∧ (dead → t.lm.deadRun = 0 ∧ t.lm.runStart = none)
        ∧ (¬ dead → t.lm.deadRun = s.lm.deadRun ∧ t.lm.runStart = s.lm.runStart)
        ∧ t.lm.gapCount = s.lm.gapCount ∧ t.lm.confirmed = s.lm.confirmed ∧ t.lm.arcs = s.lm.arcs
     (s.vl.tables.settings.load = .loading →
        ∃ t, exec (.loadTableLast seq 5 bytes) s = .next t
          ∧ (∀ r, becomes s.vl.tables.settings r →
              settings t = r ∧ felt (windowDiffers (settings s) r) (deadDiffers (settings s) r) t)
          ∧ ((∀ r, ¬ becomes s.vl.tables.settings r) → t.lm = s.lm))
      ∧ ∃ t, exec (.loadTableOnly seq 5 bytes) s = .next t
        ∧ ∀ r, becomes { load := .loading, records := [] } r →
            (let window : Prop := windowDiffers (settings s) defaults ∨ windowDiffers defaults r
             let dead : Prop := deadDiffers (settings s) defaults ∨ deadDiffers defaults r
             settings t = r ∧ felt window dead t)))
  ) ∧ (
  ∀ (s : State) (seq : Nat) (bytes : List Byte), Ready s → Sending s → s.vl.mode = .standby →
    (let becomes (before : Table SystemRecord) : Prop :=
      (before.append systemForm bytes).2.failure = none ∧ ((before.append systemForm bytes).1.validated systemForm).2 = none
     let gone : Prop := s.vl.tables.system.load = .valid
     let forgets (t : State) : Prop :=
      (∀ c, gone → s.lm.confirmed = .system c →
          t.lm.confirmed = .unknown ∧ t.lm.candidate = none ∧ t.lm.confirmedSince = estimate s
          ∧ t.ru.slots[(14 : Fin 44)].report = some (.line .unknown (.system c) .table s.lm.windowSequence (estimate s)))
        ∧ (gone → (∀ c, s.lm.confirmed ≠ .system c) → t.lm = { s.lm with candidate := none })
     (∃ t, exec (.loadTableFirst seq 2 bytes) s = .next t ∧ forgets t ∧ (¬ gone → t.lm = s.lm)
        ∧ (s.vl.tables.system.load ≠ .loading → t.ice.headroom = 0 ∧ t.ice.budget = 0))
      ∧ (∃ t, exec (.loadTableOnly seq 2 bytes) s = .next t ∧ forgets t
          ∧ (¬ gone → becomes { load := .loading, records := [] } → t.lm = { s.lm with candidate := none })
          ∧ (¬ gone → ¬ becomes { load := .loading, records := [] } → t.lm = s.lm)
          ∧ (becomes { load := .loading, records := [] } → t.vl.tables.system.load = .valid ∧ t.lm.candidate = none))
      ∧ (s.vl.tables.system.load = .loading →
          ∃ t, exec (.loadTableLast seq 2 bytes) s = .next t
            ∧ (becomes s.vl.tables.system → t.vl.tables.system.load = .valid ∧ t.lm = { s.lm with candidate := none }
                ∧ (t.ice.headroom, t.ice.budget) = heaterBudget t)
            ∧ (¬ becomes s.vl.tables.system → t.lm = s.lm)))
  ) ∧ (
  ∀ (s : State) (seq : Nat) (bytes : List Byte), Ready s → Sending s → s.vl.mode = .standby →
    s.vl.tables.directory.load = .loading →
    (let r := s.vl.tables.directory.append directoryForm bytes
     let v := r.1.validated directoryForm
     let recordOf (port : Fin 8) := v.1.records.find? fun d => d.port == port.val
     r.2.failure = none → v.2 = none → ∃ t, exec (.loadTableLast seq 0 bytes) s = .next t ∧ t.roles = s.roles
      ∧ ∀ port : Fin 8,
          (let was := s.ports[port]
           (was.link ≠ .locked ∨ was.kind = none ∨ recordOf port = none → t.ports[port] = was)
            ∧ ∀ d kind, recordOf port = some d → was.link = .locked → was.kind = some kind →
                (kind = d.kind → t.ports[port] = was)
                ∧ (kind ≠ d.kind →
                    t.ports[port] =
                      { was with
                        link := .barred
                        badFrames := 0
                        badRun := 0 }
                    ∧ ∀ role, d.role = .named role → (∀ e ∈ v.1.records, e.role = d.role → e = d) →
                        (let presence := (roleOf s role).presence
                         let report : Report := .headState role (some port.val) presence presence .barred (some .barred) (some kind)
                          was.serial (some d.kind) none
                         t.ru.slots[slotOf report].report = some report))))
  ) ∧ (
  ∀ (s : State) (seq : Nat) (bytes : List Byte), Ready s → s.vl.mode = .standby → s.vl.tables.inputs.load = .loading →
    (let r := s.vl.tables.inputs.append inputForm bytes
     let v := r.1.validated inputForm
     let valid : State := { framed s with vl := { (framed s).vl with tables := { s.vl.tables with inputs := v.1 } } }
     let becomesActive (f : InputFunction) : Prop := ∃ (line : Fin 12) (d : InputMapRecord) (level : Level),
      (v.1.records.find? fun d => d.line == line.val) = some d ∧ d.function = .named f ∧ d.active = .named level
        ∧ filteredLevel s.inputs[line].filtered = some level
     r.2.failure = none → v.2 = none →
     (∀ f, functionActive valid f = true ↔ becomesActive f)
      ∧ ∃ (order : List InputFunction) (choices : List Nat), order.Nodup ∧ (∀ f, f ∈ order ↔ becomesActive f)
          ∧ exec (.loadTableLast seq 4 bytes) s = .next (complete (reply seq 0x01 { result := .done, clamped := r.2.clamped }
              (order.foldl (fun x f => functionChange f true x) { s := { valid with choices } }))).s)
  ) ∧ (
  ∀ (s : State) (seq : Nat) (bytes : List Byte), Ready s → s.vl.mode = .standby → s.vl.tables.directory.load = .valid →
    (let empty : Table DirectoryRecord := { load := .loading, records := [] }
     let r := empty.append directoryForm bytes
     let v := r.1.validated directoryForm
     let recordOf (port : Fin 8) := v.1.records.find? fun d => d.port == port.val
     let away (role : Role) : Report :=
      .headState role none (roleOf s role).presence .absent .directory none none none none none
     let told (x : Act) (report : Report) : Prop := x.s.ru.slots[slotOf report].report = some report
     let unbarred (port : Fin 8) : PortRecord :=
      if s.ports[port].link = .barred then { s.ports[port] with link := .locked } else s.ports[port]
     let unmapped (x : Act) : Prop :=
      x.notes = (([.switchgear, .panA, .panB, .line, .heater, .climate, .aux1, .aux2] : List Role).filter (rolePresent s)).flatMap
          leavingNotes
        ∧ ∀ role, roleOf x.s role =
            { roleOf s role with
              presence := .absent
              silenceDeadline := if (roleOf s role).presence = .absent then (roleOf s role).silenceDeadline else none
              lastForwarded := if (roleOf s role).presence = .absent then (roleOf s role).lastForwarded else none }
     let leftOnly (x : Act) : Prop :=
      (∀ port : Fin 8, x.s.ports[port] = unbarred port) ∧ ∀ role, (roleOf s role).presence ≠ .absent → told x (away role)
     (∃ x, exec (.loadTableFirst seq 0 bytes) s = .next (complete x).s ∧ unmapped x ∧ leftOnly x)
      ∧ ∃ x, exec (.loadTableOnly seq 0 bytes) s = .next (complete x).s ∧ unmapped x
        ∧ (r.2.failure ≠ none ∨ v.2 ≠ none → leftOnly x)
        ∧ (r.2.failure = none → v.2 = none →
            (∀ port : Fin 8,
              (let was := unbarred port
               (was.link ≠ .locked ∨ was.kind = none ∨ recordOf port = none → x.s.ports[port] = was)
                ∧ ∀ d kind, recordOf port = some d → was.link = .locked → was.kind = some kind →
                    (kind = d.kind → x.s.ports[port] = was)
                    ∧ (kind ≠ d.kind →
                        x.s.ports[port] = { was with link := .barred, badFrames := 0, badRun := 0 }
                        ∧ ∀ role, d.role = .named role → (∀ e ∈ v.1.records, e.role = d.role → e = d) →
                            told x (.headState role (some port.val) .absent .absent .barred (some .barred) (some kind) was.serial
                              (some d.kind) none))))
            ∧ ∀ role, (roleOf s role).presence ≠ .absent →
                (∀ (port : Fin 8) (d : DirectoryRecord), recordOf port = some d → d.role = .named role →
                  (unbarred port).link = .locked → (unbarred port).kind = none ∨ (unbarred port).kind = some d.kind) →
                told x (away role)))
  ) ∧ (
  ∀ (s : State) (seq : Nat) (bytes : List Byte), Ready s → s.vl.mode = .standby → s.vl.tables.inputs.load = .valid →
    (let tabled (t : Table InputMapRecord) (choices : List Nat) (x : Act) : Act :=
      { x with s := { x.s with choices, vl := { x.s.vl with tables := { x.s.vl.tables with inputs := t } } } }
     let empty : Table InputMapRecord := { load := .loading, records := [] }
     let r := empty.append inputForm bytes
     let v := r.1.validated inputForm
     let change (active : Bool) (order : List InputFunction) (x : Act) : Act :=
      order.foldl (fun x f => functionChange f active x) x
     let disarmed (x : Act) : Act :=
      { x with s := { x.s with inputs := x.s.inputs.map fun (i : InputRecord) => { i with latch := .disarmed } } }
     let becomesActive (f : InputFunction) : Prop := ∃ (line : Fin 12) (d : InputMapRecord) (level : Level),
      (v.1.records.find? fun d => d.line == line.val) = some d ∧ d.function = .named f ∧ d.active = .named level
        ∧ filteredLevel s.inputs[line].filtered = some level
     ∃ (order : List InputFunction) (choices : List Nat), order.Nodup ∧ (∀ f, f ∈ order ↔ functionActive s f = true)
      ∧ (let left : Act := disarmed (change false order (tabled empty choices { s := framed s }))
         let ends (c : Instr) (x : Act) : Prop := ∃ answer, exec c s = .next (complete (reply seq 0x01 answer x)).s
         ends (.loadTableFirst seq 4 bytes) (tabled r.1 choices left)
          ∧ (r.2.failure ≠ none → ends (.loadTableOnly seq 4 bytes) (tabled r.1 choices left))
          ∧ (r.2.failure = none → v.2 ≠ none → ends (.loadTableOnly seq 4 bytes) (tabled v.1 choices left))
          ∧ (r.2.failure = none → v.2 = none →
              ∃ (order' : List InputFunction) (choices' : List Nat), order'.Nodup ∧ (∀ f, f ∈ order' ↔ becomesActive f)
                ∧ ends (.loadTableOnly seq 4 bytes) (change true order' (tabled v.1 choices' left)))))
  ) ∧ (
  ∀ (s : State) (seq : Nat) (bytes : List Byte), Ready s → Sending s → s.vl.mode = .standby →
    (let tabled (t : Table HeaterRecord) (x : Act) : Act :=
      { x with s := { x.s with vl := { x.s.vl with tables := { x.s.vl.tables with heater := t } } } }
     let empty : Table HeaterRecord := { load := .loading, records := [] }
     let before : Act := { s := framed s }
     let discarded : Act := if s.vl.tables.heater.load = .loading then tabled empty before else allocate (tabled empty before)
     let appended (t : Table HeaterRecord) (x : Act) : Act :=
      (let r := t.append heaterForm bytes
       if r.2.failure = none then tabled r.1 x else allocate (tabled r.1 x))
     let validated (t : Table HeaterRecord) (x : Act) : Act :=
      (let r := t.append heaterForm bytes
       if r.2.failure = none then allocate (tabled (r.1.validated heaterForm).1 x) else allocate (tabled r.1 x))
     let ends (c : Instr) (x : Act) : Prop :=
      ∃ r : Reply, exec c s = .next { x.s with vl := { x.s.vl with replies := x.s.vl.replies ++ [r] } }
     ends (.loadTableFirst seq 6 bytes) (appended empty discarded) ∧ ends (.loadTableOnly seq 6 bytes) (validated empty discarded)
      ∧ (s.vl.tables.heater.load = .loading →
          ends (.loadTableMiddle seq 6 bytes) (appended s.vl.tables.heater before)
          ∧ ends (.loadTableLast seq 6 bytes) (validated s.vl.tables.heater before)))
  )

/-- R196, R197: SET_MODE: ALREADY in the mode named; RUN is NOT_READY with the first entry check that fails, and otherwise the
mode is RUN and the blocks that read it are told; STANDBY is taken at once, and the blocks that act on it are told. R196, R177,
R27, R87: the entry checks in their order: the six required tables VALID, DIRECTORY_ROLES, SYSTEM_PANS, SYSTEM_PROFILE and
INPUT_CONTACTS. What the blocks that are told do: the open of MB that PROTECTION requests (R70), the evaluation of the queue's
head (R129; the series it begins: assumption log 69), the trigger timer cancelled and nothing else of the route (R128), the
changeover aborted (R153), the evaluation of the ice state (R162; with a change of step waiting, assumption log 51), both
pantographs lowered (R65; PAN_A first, the model's choice: assumption log 66), and every hold slot judged again (R107; in role
order, the model's choice: log 68). R190, R52: after a silence under LOWER, too, no pantograph is raised. An event that aborts a
changeover leaves it in IDLE and in ABORTING. -/
def Obligations.SetModeChangesTheMode : Prop :=
  (
  ∀ (s : State) (seq : Nat), Ready s →
    (let mode (m : Mode) : State := { framed s with vl := { (framed s).vl with mode := m } }
     (s.vl.mode = .run → Sending s → exec (.setModeRun seq) s = .next ((framed s).replied seq 0x04 .already))
      ∧ (∀ check, s.vl.mode = .standby → Sending s → failedEntryCheck s = some check →
          exec (.setModeRun seq) s = .next ((framed s).replied seq 0x04 .notReady (put8 check)))
      ∧ (s.vl.mode = .standby → failedEntryCheck s = none → exec (.setModeRun seq) s = .next (complete
          { s := ({ mode .run with ice := { s.ice with holdOff := false } }).replied seq 0x04 .done
            notes := [.routeRun, .iceEvaluate .mode, .gateReview] }).s)
      ∧ (s.vl.mode = .standby → Sending s → exec (.setModeStandby seq) s = .next ((framed s).replied seq 0x04 .already))
      ∧ (s.vl.mode = .run → exec (.setModeStandby seq) s = .next (complete
          { s := (mode .standby).replied seq 0x04 .done
            notes := [.panLowerBoth .standby .orderly, .mbOpenProtect, .coStandby, .iceEvaluate .mode, .routeStandby,
                      .gateReview] }).s)
      ∧ (s.vl.mode = .run → Sending s → ∃ t, exec (.setModeStandby seq) s = .next t ∧ t.vl.mode = .standby
          ∧ ∀ p, (panOf t p).raised = false))
  ) ∧ (
  ∀ s : State,
    (let tables := s.vl.tables
     let mapped (role : Role) : Prop := directoryOfRole s role ≠ none
     let named (p : Pan) : Prop := ∃ r ∈ validRecords tables.system, ∃ set, r.panSet = .named set ∧ set.holds p = true
     let assigned (f : InputFunction) : Prop := ∃ r ∈ validRecords tables.inputs, r.function = .named f
     let checks : List (Nat × Prop) :=
      [(0, tables.directory.load = .valid), (1, tables.gate.load = .valid), (2, tables.system.load = .valid),
       (3, tables.profiles.load = .valid), (4, tables.inputs.load = .valid), (5, tables.settings.load = .valid),
       (8, mapped .switchgear ∧ mapped .line ∧ (mapped .panA ∨ mapped .panB)),
       (9, ∀ p, named p → mapped (panRole p)),
       (10, ∀ r ∈ validRecords tables.system, profileRecord s r.raiseProfile ≠ none
          ∧ ∀ n, r.scrapeProfile = some n → profileRecord s n ≠ none),
       (11, ∀ p, named p → assigned (upFunction p) ∧ assigned (downFunction p))]
     (∀ before n p after, checks = before ++ (n, p) :: after → (∀ x ∈ before, x.2) → ¬ p → failedEntryCheck s = some n)
      ∧ ((∀ x ∈ checks, x.2) → failedEntryCheck s = none))
  ) ∧ (
  ∀ a : Act,
    takeNote .mbOpenProtect a = (moveRequest .mb .opened .protection a).1
      ∧ takeNote .routeRun a = evaluateQueue a
      ∧ takeNote .routeStandby a = a.modPr (fun r => { r with triggerTimer := none })
      ∧ takeNote .coStandby a = abortOnEvent .standby a
      ∧ (∀ reason, ((a.s.co.step = .idle ∨ a.s.co.step = .aborting) → abortOnEvent reason a = a)
          ∧ (a.s.co.step ≠ .idle → a.s.co.step ≠ .aborting → abortOnEvent reason a = abort reason none a.s.co.step [] a))
      ∧ (∀ trigger, Note.iceEvaluate .step ∉ a.notes → takeNote (.iceEvaluate trigger) a = evaluateIce trigger a)
      ∧ (∀ cause kind,
          takeNote (.panLowerBoth cause kind) a = (lowerPan .b cause kind false (lowerPan .a cause kind false a).1).1)
      ∧ takeNote .gateReview a = [Role.switchgear, .panA, .panB, .heater, .aux1, .aux2].foldl reviewSlot a
  ) ∧ (
  ∀ (s : State) (t : Nat), s.powered = true → Sending s → s.vl.silenceDeadline = some t → (settings s).policy = .named .lower →
    ∃ u, exec .vlSilenceExpiry s = .next u ∧ ∀ p, (panOf u p).raised = false
  )

/-- R198, R199: RESTART is answered DONE and waits for its reply to be taken. CLEAR_COUNTERS sets the counts that R199 lists to 0
in one act, replies DONE, and leaves the queue counters. -/
def Obligations.RestartWaitsAndCountersClear : Prop :=
  ∀ (s : State) (seq : Nat), Ready s → Sending s →
    exec (.restart seq) s = .next
        (({ framed s with vl := { (framed s).vl with restartPending := true } }).replied seq 0x05 .done)
      ∧ exec (.clearCounters seq) s = .next
        (({ framed s with
            vl := { (framed s).vl with badFrames := 0 }
            lm := { s.lm with gapCount := 0 }
            inputs := s.inputs.map fun (r : InputRecord) => { r with bounce := 0 }
            ports := s.ports.map fun (r : PortRecord) => { r with badFrames := 0 }
            roles := s.roles.map fun (r : RoleRecord) => { r with undelivered := 0 }
            pr := { s.pr with position := { s.pr.position with jumps := 0 } } }).replied seq 0x06 .done)

/-- R198, R203, R208: when the transmitter takes the reply of the pending RESTART, its effects follow in the same act: the mode
is STANDBY, no RESTART is pending, the tables and the link stand, every report slot and hold slot is empty, the route plan is
empty, the changeover is over, the line state is NO_SENSE, no pantograph is raised, every event latch is DISARMED, and the ice
state is INACTIVE (R94, R173). That the effects' own reports leave no slot filled, and the order of the effects, are assumption
logs 20 and 21. R80: MB is asked to open, whatever its position: from IDLE a move begins, a close in flight is reversed, an open
in flight is joined; MB_TRIP stands but for its release by R76. That the move's origin is PAN where the lowering of a collecting
pantograph asked first with MB engaged, and PROTECTION otherwise, follows from the order of log 21. R67: each Pan Record. R173:
the scrape inhibit and the hold-off are cleared, the setting, the climate and the actual on-set stand, the budget is 0 and the
empty on-set is commanded where the HEATER is PRESENT. R22, R40: the line records. R132, R156, R187, R94: the position, the
changeover record, the links and the inputs. -/
def Obligations.RestartTakesEffectWithItsReply : Prop :=
  ∀ (s : State) (r : Reply) (rest : List Reply), s.powered = true → s.vl.link = .locked → s.vl.restartPending = true →
    s.vl.replies = r :: rest → r.code = 0x05 → r.result = .done →
    ∃ t, exec .transmitterFree s = .next t
      ∧ t.ru.sending = some { cls := .reply, flags := 0, seq := r.seq, payload := replyPayload r }
      ∧ t.vl = { s.vl with replies := rest, restartPending := false, mode := .standby }
      ∧ (∀ i : Fin 44, t.ru.slots[i] = {}) ∧ (∀ role, holdOf t role = none)
      ∧ t.pr.queue = [] ∧ t.pr.m0 = [] ∧ t.pr.m1 = [] ∧ t.pr.appended = 0 ∧ t.pr.fired = 0 ∧ t.pr.flushed = 0
      ∧ t.co.step = .idle ∧ t.lm.confirmed = .noSense ∧ t.lm.digests = [] ∧ t.lm.arcs = [] ∧ t.ice.state = .inactive
      ∧ (∀ p, (panOf t p).raised = false) ∧ (∀ line : Fin 12, t.inputs[line].latch = .disarmed)
      ∧ (let e := s.sg.mb
         let timeout := (settings s).mbOpen
         let asks : Prop := e.move = none ∨ e.target = some .closed
         let collector (p : Pan) : Prop :=
          ((panOf s p).state = .raising ∨ (panOf s p).state = .up) ∧ (panOf s p).role = some .collect
         let engaged : Prop := e.reported = .closed ∨ e.move ≠ none ∧ e.target = some .closed
         let origin (o : Origin) : Prop :=
          (o = .pan ↔ engaged ∧ ∃ p, collector p) ∧ (o = .protection ↔ ¬ (engaged ∧ ∃ p, collector p))
         let opening (port : Nat) : SentCommand := { port, payload := [0, 0, 0] }
         let releases : Prop := e.reported = .opened ∧ e.mark = none
         (∀ d, d ≠ .mb → devOf t d = devOf s d)
          ∧ (¬ asks ∨ rolePresent s .switchgear = false → t.sg.mb = e)
          ∧ (∀ d, asks → rolePresent s .switchgear = true → directoryOfRole s .switchgear = some d →
              ∃ o, origin o ∧ t.sg.mb = { e with target := some .opened, move := some { origin := o, deadline := s.now + timeout, timeout } }
                ∧ ∃ before after, t.sent = s.sent ++ (before ++ opening d.port :: after))
          ∧ (¬ releases → t.sg.mbTrip = s.sg.mbTrip) ∧ (releases → s.lm.confirmed = .over → t.sg.mbTrip = false))
      ∧ (let i := s.ice
         t.ice.inhibit = false ∧ t.ice.holdOff = false ∧ t.ice.scrapePan = none ∧ t.ice.phase = none
          ∧ t.ice.setting = i.setting ∧ t.ice.climate = i.climate ∧ t.ice.actual = i.actual
          ∧ (t.ice.headroom = 0 ∧ t.ice.budget = 0 ∧ t.ice.allocated = 0)
          ∧ (∀ c, i.climate = some c → c.current = true → t.ice.arcCount = 0 ∧ t.ice.score = min 100 t.ice.base)
          ∧ ((∀ c, i.climate = some c → c.current = false) →
              t.ice.arcCount = i.arcCount ∧ t.ice.base = i.base ∧ t.ice.score = i.score)
          ∧ (rolePresent s .heater = false → t.ice.commanded = i.commanded)
          ∧ ∀ d, rolePresent s .heater = true → directoryOfRole s .heater = some d → t.ice.commanded = some 0
              ∧ (i.commanded ≠ some 0 → ({ port := d.port, payload := [4, 0] } : SentCommand) ∈ t.sent))
      ∧ (∀ p, (panOf s p).state = .down ∨ (panOf s p).state = .fault → panOf t p = panOf s p)
      ∧ (∀ p, ((panOf s p).state = .raising ∨ (panOf s p).state = .up) → downActive s p = false →
          panOf t p = loweringRecord (panOf s p) .protect (s.now + (settings s).lowerTimeout) .venting none true)
      ∧ (∀ p, (panOf s p).state = .lowering → downActive s p = false →
          (let r := panOf s p
           panOf t p =
            { r with
              causes := if LowerCause.protect ∈ r.causes then r.causes else r.causes ++ [.protect]
              phase := if r.phase = some .awaitMb then some .venting else r.phase
              ventGuard := if r.phase = some .awaitMb then none else r.ventGuard
              vent := true }))
      ∧ t.co =
          { s.co with
            step := .idle, lastResult := some (.aborted .restart), abortReason := some .restart, usable := none
            verifyDeadline := none, raiseTimer := none, requested := [], awaited := [] }
      ∧ t.lm =
          { s.lm with
            acc := {}, expected := none, digests := [], overflow := false, confirmed := .noSense, candidate := none
            deadRun := 0, runStart := none, arcs := [], confirmedSince := estimate s }
      ∧ t.pr.position = s.pr.position ∧ t.pr.triggerTimer = none ∧ t.ports = s.ports
      ∧ (∀ role, (roleOf t role).presence = (roleOf s role).presence
          ∧ (roleOf t role).silenceDeadline = (roleOf s role).silenceDeadline
          ∧ (roleOf t role).lastForwarded = (roleOf s role).lastForwarded)
      ∧ (∀ line : Fin 12, t.inputs[line] = { s.inputs[line] with latch := .disarmed })
      ∧ t.ru.telemetry = s.ru.telemetry ∧ t.ru.statusTimer = s.ru.statusTimer ∧ t.ru.statusDue = s.ru.statusDue
      ∧ t.ru.upSequence = s.ru.upSequence ∧ t.ru.dropped = s.ru.dropped ∧ t.now = s.now

/-! ## Reports and status (12) -/

/-- R203, R204, R206, R19: what a free transmitter takes on a LOCKED link, in its order: a reply, a STATUS frame that is due, a
report, a DIGEST frame at the threshold, a telemetry item; and what each take leaves. A reply that is not the one of the pending
RESTART is taken alike while a RESTART is pending. R202, R204: of the reports the first in urgent kind order goes first, then
the first in normal kind order, where the HEAD_STATE slots stand after the GATE slots; a HEAD_STATE slot is urgent where its
report says LOST after the event. The order holds from the power-on reset on (R208; assumption log 58). With nothing waiting it
stays free. The kind byte of a command that has no kind is free (assumption log 26). R205: the status timer marks a STATUS frame
due and runs again for the status period in force; the clock is that of assumption log 2. R204: what an act places is taken in
that act where the transmitter is free and the link LOCKED, at the end of the act (assumption log 6): the act then ends as the
transmitter's becoming free would; so a refused INPUT_ARM's reply goes at once. R205: every byte of a STATUS payload, the urgent
kinds waiting and the normal reports among them. R201, R110: every REPORT payload begins with its kind, its place among the
slots of the kind, and the overrun mark; the content of each of the 17 kinds follows byte by byte, and the DIGEST, telemetry and
reply payloads are given too. Their layouts are the model's where Frame layouts leaves them open (assumption logs 15, 31, 39,
43, 59, 61, 63, 65). -/
def Obligations.TransmitterTakesInItsOrder : Prop :=
  (
  ∀ s : State, s.powered = true → s.vl.link = .locked →
    (let u := s.ru
     let own (cls : UpClass) (flags : Byte) (payload : List Byte) : UpFrame := { cls, flags, seq := u.upSequence, payload }
     let next := (u.upSequence + 1) % 256
     let took (t : State) : Prop := exec .transmitterFree s = .next t
     let free : State := { s with ru := { u with sending := none } }
     (∀ r rest, s.vl.replies = r :: rest → s.vl.restartPending = false ∨ r.code ≠ 0x05 ∨ r.result ≠ .done → took
        { s with
          vl := { s.vl with replies := rest }
          ru := { u with sending := some { cls := .reply, flags := 0, seq := r.seq, payload := replyPayload r } } })
      ∧ (s.vl.replies = [] →
          (u.statusDue = true → took
            { s with
              vl := { s.vl with replyOverrun := false }
              ru := { u with
                statusDue := false, dropped := false, upSequence := next
                sending := some (own .status (if u.dropped then 0x20 else 0) (statusPayload free)) } })
          ∧ (u.statusDue = false →
              (∀ i r, firstSlot u = some (i, r) → took
                { s with ru := { u with
                    slots := updAt u.slots i fun _ => {}, upSequence := next
                    sending := some (own .report 0
                      (reportPayload (Config.unnamedKind s.now u.upSequence) r u.slots[i].overrun)) } })
              ∧ (firstSlot u = none →
                  ((settings s).digestThreshold ≤ s.lm.digests.length → took
                    { s with
                      lm := { s.lm with digests := s.lm.digests.drop 16, overflow := false }
                      ru := { u with
                        upSequence := next
                        sending := some (own .digest (if s.lm.overflow then 0x10 else 0)
                          (putList putDigest (s.lm.digests.take 16))) } })
                  ∧ (s.lm.digests.length < (settings s).digestThreshold →
                      (∀ item rest, u.telemetry = item :: rest → took
                        { s with ru := { u with
                            telemetry := rest, upSequence := next
                            sending := some (own .telemetry 0 (telemetryPayload item)) } })
                      ∧ (u.telemetry = [] → took free))))))
  ) ∧ (
  ∀ s : State, s.powered = true → Sending s →
    (let now := max s.now s.ru.statusTimer
     exec .statusTimerExpiry s = .next
      { s with now, ru := { s.ru with statusDue := true, statusTimer := now + (settings s).statusPeriod } })
  ) ∧ (
  ∀ u : ReportUnit,
    (let lost (i : Fin 44) : Prop := ∃ role port before cause link announced serial expected command,
      u.slots[i].report = some (.headState role port before .lost cause link announced serial expected command)
     let headState (i : Fin 44) : Prop := 5 ≤ i.val ∧ i.val ≤ 12
     let urgent (i : Fin 44) : Prop := i.val ≤ 4 ∨ i.val = 13 ∨ headState i ∧ lost i
     let normalPlace (i : Fin 44) : Nat := if i.val ≤ 12 then i.val + 36 else if i.val ≤ 40 then i.val else i.val + 8
     let ahead (i j : Fin 44) : Prop :=
      urgent i ∧ ¬ urgent j ∨ urgent i ∧ urgent j ∧ i.val < j.val ∨ ¬ urgent i ∧ ¬ urgent j ∧ normalPlace i < normalPlace j
     ((∀ i : Fin 44, u.slots[i].report = none) ↔ firstSlot u = none)
      ∧ (∀ (i : Fin 44) (r : Report), firstSlot u = some (i, r) ↔ u.slots[i].report = some r
          ∧ ∀ j : Fin 44, j ≠ i → u.slots[j].report ≠ none → ahead i j)
      ∧ ∀ (role : Role) (port : Option Nat) (before after : Presence) (cause : HeadCause) (link : Option PortLink)
            (announced serial expected : Option Nat) (command : Option (Option Kind × Origin × Option Nat)),
          (slotOf (.headState role port before after cause link announced serial expected command)).val
            = 5 + (roleIndex role).val)
  ) ∧ (
  (∀ a : Act,
    (let b := settle noteBound a
     (b.s.ru.sending ≠ none ∨ b.s.vl.link ≠ .locked → complete a = b)
      ∧ (b.s.powered = true → b.s.ru.sending = none → b.s.vl.link = .locked → exec .transmitterFree b.s = .next (complete a).s)))
  ∧ (∀ s : State, settle noteBound { s } = { s })
  ∧ ∀ (s : State) (seq : Nat), Ready s → s.ru.sending = none → s.vl.replies = [] →
      exec (.inputArm seq 12) s = .next
        { framed s with
          ru := { s.ru with
            sending := some
              { cls := .reply
                flags := 0
                seq
                payload := [0x50, 0x1D, 0] } } }
  ) ∧ (
  ∀ s : State,
    (let est := estimate s
     let pan (r : PanRecord) : Byte := BitVec.ofNat 8 ([PanState.down, .raising, .up, .lowering, .fault].idxOf r.state
        + (if r.role = some .collect then 16 else 0) + (if r.role = some .scrape then 32 else 0))
     let place (list : List Pos) (d : Dev) : Byte := BitVec.ofNat 8 (list.idxOf (devOf s d).reported)
     let bit (b : Bool) (n : Nat) : Nat := if b then n else 0
     let e := est.getD 4294967295
     let lost (r : Report) : Bool := match r with
      | .headState _ _ _ after _ _ _ _ _ _ => after == .lost
      | _ => false
     let urgent (i : Fin 44) : Bool := match s.ru.slots[i].report with
      | none => false
      | some r => if 5 ≤ i.val ∧ i.val ≤ 12 then lost r else i.val ≤ 4 || i.val == 13
     let kindPlace (i : Fin 44) : Nat := if i.val ≤ 2 then min 1 i.val else if i.val ≤ 4 then i.val - 1 else if i.val ≤ 12 then 4 else 5
     ∃ marks : Byte,
      (∀ k : Fin 8, marks.getLsbD k.val = true ↔ ∃ i : Fin 44, urgent i = true ∧ kindPlace i = k.val)
      ∧ statusPayload s =
        [match s.vl.mode with
            | .standby => 0
            | .run => 1,
          match s.lm.confirmed with
            | .noSense => 0
            | .system c => BitVec.ofNat 8 c
            | .dead => 16
            | .unknown => 17
            | .over => 18,
          pan s.pans.a, pan s.pans.b, place [.opened, .closed, .unknown] .mb, place [.ac, .dc, .mid, .unknown] .ss,
          place [.opened, .closed, .unknown] .isoA, place [.opened, .closed, .unknown] .isoB,
          place [.opened, .earthed, .unknown] .es,
          BitVec.ofNat 8 (bit s.sg.mbTrip 1 + bit s.vl.replyOverrun 2 + bit (!s.vl.active) 4 + bit est.isSome 8),
          BitVec.ofNat 8 ([CoStep.idle, .opening, .loweringOld, .selecting, .awaitRaise, .raisingNew, .verifying, .closing, .halted,
            .aborting].idxOf s.co.step),
          BitVec.ofNat 8 ([IceState.inactive, .watch, .heat, .scrape].idxOf s.ice.state), BitVec.ofNat 8 s.ice.score,
          BitVec.ofNat 8 s.pr.queue.length, BitVec.ofNat 8 (e / 16777216), BitVec.ofNat 8 (e / 65536),
          BitVec.ofNat 8 (e / 256), BitVec.ofNat 8 e, if s.pr.position.fresh then 0 else 1,
          BitVec.ofNat 8 s.ru.telemetry.length, BitVec.ofNat 8 s.vl.replies.length, BitVec.ofNat 8 s.lm.digests.length, marks,
          BitVec.ofNat 8 ((List.finRange 44).filter fun i => s.ru.slots[i].report.isSome && !urgent i).length])
  ) ∧ (
  ∀ (noKind : Byte) (r : Report) (overrun : Bool),
    (let named : Nat × Nat :=
      match r with
      | .protectiveTrip _ _ _ _ _ => (0, 0)
      | .panFault p _ _ _ => (1, if p = .a then 0 else 1)
      | .switchgearFault _ _ _ _ _ => (2, 0)
      | .queueFlushed _ => (3, 0)
      | .headState role _ _ _ _ _ _ _ _ _ => (4, (roleIndex role).val)
      | .changeoverResult _ _ _ _ _ _ _ _ _ _ _ _ => (5, 0)
      | .line _ _ _ _ _ => (6, 0)
      | .panState p _ _ _ _ _ => (7, if p = .a then 0 else 1)
      | .switchgearState _ _ _ _ _ _ => (8, 0)
      | .changeoverStep _ _ _ _ _ _ _ => (9, 0)
      | .actionFired _ _ _ _ _ => (10, 0)
      | .ice _ _ _ _ _ _ _ _ => (11, 0)
      | .inputEvent l _ _ _ => (12, l.val)
      | .gate role _ _ _ _ _ _ _ => (13, (roleIndex role).val)
      | .contactLoss _ _ => (14, 0)
      | .markerUnused _ _ _ _ _ => (15, 0)
      | .reportMark _ _ _ => (16, 0)
     let head : List Byte := [BitVec.ofNat 8 named.1, BitVec.ofNat 8 named.2, if overrun then 1 else 0]
     let opt (present : Option (List Byte)) : List Byte := match present with
      | none => [0]
      | some l => 1 :: l
     let two (n : Nat) : List Byte := [BitVec.ofNat 8 (n / 256), BitVec.ofNat 8 n]
     let four (n : Nat) : List Byte := two (n / 65536) ++ two n
     let line (l : LineState) : Byte := match l with
      | .noSense => 0
      | .system c => BitVec.ofNat 8 c
      | .dead => 16
      | .unknown => 17
      | .over => 18
     let signed (v : Int) : List Byte := two (v % 65536).toNat
     let one (n : Nat) : Byte := BitVec.ofNat 8 n
     let yes (b : Bool) : Byte := if b then 0 else 1
     let origin (o : Origin) : Byte := one ([Origin.vehicle, .sequencer, .pan, .ice, .protection].idxOf o)
     let source (x : Source) : Byte := one ([Source.queue, .m0, .m1].idxOf x)
     let presence (x : Presence) : Byte := one ([Presence.absent, .present, .lost].idxOf x)
     let pan (p : Pan) : Byte := if p = .a then 0 else 1
     let panState (x : PanState) : Byte := one ([PanState.down, .raising, .up, .lowering, .fault].idxOf x)
     let latch (x : FaultLatch) : Byte := one ([FaultLatch.strip, .drop, .raiseTimeout, .lowerTimeout].idxOf x)
     let causes : List LowerCause :=
      [.vehicle, .changeover, .scrapeEnd, .standby, .protect, .strip, .drop, .raiseTimeout, .roofAccess, .headLost]
     let causeSet (set : List LowerCause) : List Byte :=
      two ((causes.map fun c => if c ∈ set then 2 ^ causes.idxOf c else 0).sum)
     let devs : List Dev := [.mb, .ss, .isoA, .isoB, .es]
     let pos (d : Dev) (p : Pos) : Byte := match d with
      | .mb => one ([Pos.opened, .closed, .unknown].idxOf p)
      | .ss => one ([Pos.ac, .dc, .mid, .unknown].idxOf p)
      | .isoA => one ([Pos.opened, .closed, .unknown].idxOf p)
      | .isoB => one ([Pos.opened, .closed, .unknown].idxOf p)
      | .es => one ([Pos.opened, .earthed, .unknown].idxOf p)
     let reason (x : AbortReason) : Byte :=
      one ([AbortReason.mbStuck, .switchgearFault, .panFault, .panLowered, .wrongSystem, .over, .interlock, .refused, .mbClosed,
        .mbOpened, .senseLost, .headLost, .standby, .linkLost, .vehicle, .restart].idxOf x)
     let step (x : CoStep) : Byte :=
      one ([CoStep.idle, .opening, .loweringOld, .selecting, .awaitRaise, .raisingNew, .verifying, .closing, .halted,
        .aborting].idxOf x)
     let ice (x : IceState) : Byte := one ([IceState.inactive, .watch, .heat, .scrape].idxOf x)
     let edge (x : Edge) : Byte := one ([Edge.toActive, .toInactive].idxOf x)
     let failed (x : Failed) : Byte :=
      one ([Failed.kind, .masked, .origin, .h11, .h12, .h13, .h14, .h15, .h16, .h17, .h2, .h3, .h41, .h42, .h51, .h52, .h53,
        .mbOpen, .mbClosed, .ssAc, .ssDc, .lineSystem, .lineDead, .positionFresh, .noChangeover, .belowSpeed, .busy,
        .deviceMoving, .range, .expired, .headLost, .table, .raiseRoofAccess, .raiseEs, .raiseOther, .raiseIso].idxOf x)
     let kind (k : Option Kind) : Byte := match k with
      | some k => one ([Kind.mbClose, .mbOpen, .ssMove, .isoAMove, .isoBMove, .esEarth, .esOpen, .ramp, .hold, .vent, .setGroups,
        .aux].idxOf k)
      | none => noKind
     let result (x : Result) : Byte := match x with
      | .done => 0x00
      | .accepted => 0x01
      | .already => 0x02
      | .noop => 0x03
      | .busy => 0x10
      | .mode => 0x11
      | .notReady => 0x12
      | .tableInvalid => 0x13
      | .sequence => 0x14
      | .full => 0x15
      | .markerInUse => 0x16
      | .unknownSystem => 0x17
      | .headAbsent => 0x18
      | .interlock => 0x19
      | .notCleared => 0x1A
      | .notActive => 0x1B
      | .fault => 0x1C
      | .range => 0x1D
     let action (x : Action) : List Byte := match x with
      | .changeover target raise => [0, one target] ++ opt (raise.map four)
      | .lowerAll => [1]
      | .scrapeInhibit on => [2, if on then 0 else 1]
      | .reportMark tag => [3, one tag]
     let trigger (t : Trigger) : List Byte := match t with
      | .atPosition p => 0 :: four p
      | .onMarker m => [1, one m]
     let content : List Byte := match r with
      | .protectiveTrip cause state mb moving window =>
        [one ([TripCause.over, .wrongSelector, .dead, .noSense].idxOf cause), line state, pos .mb mb, if moving then 1 else 0]
          ++ two window
      | .panFault _ x set measured => [latch x] ++ causeSet set ++ opt (measured.map two)
      | .switchgearFault d target o reported timeout =>
        [one (devs.idxOf d), pos d target, origin o, pos d reported] ++ two timeout
      | .queueFlushed (.jump removed est position) => [0, one removed] ++ four est ++ four position
      | .queueFlushed (.refused x removed a answer) => [1, source x, one removed] ++ action a ++ [result answer]
      | .headState role port before after cause link announced serial expected command =>
        [one (roleIndex role).val] ++ opt (port.map fun n => [one n]) ++ [presence before, presence after,
            one ([HeadCause.present, .silence, .link, .headChanged, .directory, .barred, .undelivered].idxOf cause)]
          ++ opt (link.map fun x => [one ([PortLink.down, .acquiring, .locked, .barred].idxOf x)])
          ++ opt (announced.map fun n => [one n]) ++ opt (serial.map four)
          ++ (match expected with
              | some n => [one n]
              | none => [])
          ++ (match command with
              | some (k, o, seq) => [kind k, origin o] ++ opt (seq.map fun n => [one n])
              | none => [])
      | .changeoverResult res why detail target o old new kept at' state mb est =>
        (match res with
          | .done => [0]
          | .noop => [1]
          | .aborted x => [2, reason x])
          ++ opt (why.map fun x => [reason x])
          ++ opt (detail.map fun x => match x with
              | .failed f => [failed f]
              | .answer a => [result a])
          ++ opt (target.map fun n => [one n]) ++ opt (o.map fun x => [one ([CoOrigin.route, .marker, .vehicle].idxOf x)])
          ++ opt (old.map fun n => [one n]) ++ opt (new.map fun p => [pan p]) ++ [yes kept] ++ opt (at'.map fun x => [step x])
          ++ [line state, pos .mb mb] ++ opt (est.map four)
      | .line new previous cause window since =>
        [line new, line previous, one ([LineCause.window, .fastDead, .lineLost, .table].idxOf cause)] ++ two window
          ++ opt (since.map four)
      | .panState _ new previous role set x =>
        [panState new, panState previous] ++ opt (role.map fun x => [one ([PanRole.collect, .scrape].idxOf x)])
          ++ opt (set.map fun x => [one (causes.idxOf x.1)]) ++ opt (set.map fun x => causeSet x.2)
          ++ opt (x.map fun x => [latch x])
      | .switchgearState mb ss isoA isoB es marks =>
        [pos .mb mb, pos .ss ss, pos .isoA isoA, pos .isoB isoB, pos .es es, one marks.length]
          ++ (marks.map fun m =>
            [one (devs.idxOf m.1), one ([ChangeMark.ended, .during, .uncommanded].idxOf m.2)]).flatten
      | .changeoverStep new left passed target pan' kept est =>
        [step new, step left, one passed.length] ++ passed.map step ++ opt (target.map fun n => [one n])
          ++ opt (pan'.map fun p => [pan p]) ++ [yes kept] ++ opt (est.map four)
      | .actionFired x a t est answer =>
        [source x] ++ action a ++ opt (t.map trigger) ++ opt (est.map four) ++ [result answer]
      | .ice before after cause score base arcs budget allocated =>
        [ice before, ice after]
          ++ (match cause with
              | .score => [0]
              | .permission k => [1, one k]
              | .mode => [2]
              | .setting => [3]
              | .entryFailed answer => 4 :: opt (answer.map fun x => [result x])
              | .scrapePan x => [5, panState x]
              | .heaterMismatch g => [6, one g.toNat])
          ++ [one score, one base, one arcs] ++ two budget ++ [one allocated.toNat]
      | .inputEvent l f x at' =>
        [one l.val] ++ opt (f.map fun f => [one ([InputFunction.panAUp, .panADown, .panBUp, .panBDown, .stripA, .stripB, .marker0,
            .marker1, .roofAccess, .general].idxOf f)]) ++ [edge x] ++ opt (at'.map four)
      | .gate role k o seq outcome f last joined =>
        [one (roleIndex role).val, kind k, origin o] ++ opt (seq.map fun n => [one n])
          ++ [one ([GateOutcome.refused, .held, .admitted].idxOf outcome)] ++ opt (f.map fun f => [failed f])
          ++ (if f = some .expired then opt (last.map fun f => [failed f]) else [])
          ++ (if outcome = .admitted then [yes joined] else [])
      | .contactLoss e level => opt (e.position.map four) ++ [one e.length, line e.state, one level]
      | .markerUnused m mode est depth t =>
        [one m, match mode with
          | .standby => 0
          | .run => 1]
          ++ opt (est.map four) ++ [one depth] ++ opt (t.map trigger)
      | .reportMark tag x est => [one tag, source x] ++ opt (est.map four)
     reportPayload noKind r overrun = head ++ content
      ∧ (∀ entries : List DigestEntry, putList putDigest entries =
          one entries.length :: (entries.map fun e =>
            two e.sequence ++ signed e.m ++ two e.vac ++ one (e.f / 65536) :: two e.f
              ++ [line (match e.cls with
                  | .over => .over
                  | .dead => .dead
                  | .unknown => .unknown
                  | .system code => .system code), if e.sat then 1 else 0] ++ two e.iw).flatten)
      ∧ (∀ item : TelemetryItem, telemetryPayload item =
          [one ([Role.switchgear, .panA, .panB, .line, .heater, .climate, .aux1, .aux2].idxOf item.role), one item.port,
            one item.kind] ++ item.payload)
      ∧ ∀ x : Reply, replyPayload x = [one x.code, result x.result, one x.clamped] ++ x.data)
  )

/-! ## Frames (11) -/

/-- Frame layouts: the bytes of the frame that carries a well-formed command of the vehicle, or of a head, are read as that
command, with every operand at every value its field holds; the frame of each of the 25 commands of the vehicle that have one,
and of the three of a head, is given byte by byte with its CRC, and no other command has one (a two-valued field: assumption log
15). R188: a frame whose CRC is not its own is no command but a bad frame, as is one of a class that is no down class, one whose
payload is shorter or longer than its class allows, and a HEAD_COMMAND for a role above 7; R175: the like on a Head Link. R192: a
request code that names no request makes an UNKNOWN_REQUEST. -/
def Obligations.FramesCarryTheirCommands : Prop :=
  (∀ (c : Instr) (bytes : List Byte), c.wf = true → vehicleBytes c = some bytes → bytes.length ≤ 246 → vehicleFrame bytes = c)
  ∧ (∀ (port : Fin 8) (kind serial : Nat), (Instr.announce port kind serial).wf = true →
      ∃ bytes, headBytes (.announce port kind serial) = some bytes ∧ headFrame port bytes = .announce port kind serial)
  ∧ (∀ (port : Fin 8) (payload : List Byte), (Instr.headStatus port payload).wf = true →
      ∃ bytes, headBytes (.headStatus port payload) = some bytes ∧ headFrame port bytes = .headStatus port payload)
  ∧ (∀ (port : Fin 8) (sequence current : Nat) (fault : Bool) (samples : List Int),
      (Instr.cell port sequence fault samples current).wf = true →
      ∃ bytes, headBytes (.cell port sequence fault samples current) = some bytes
        ∧ headFrame port bytes = .cell port sequence fault samples current)
  ∧ ∀ (bytes : List Byte) (hi lo : Byte) (port : Fin 8), 4 ≤ bytes.length →
      [hi, lo] ≠ put16 (crc16 bytes).toNat →
      vehicleFrame (bytes ++ [hi, lo]) = .vlBadFrame ∧ headFrame port (bytes ++ [hi, lo]) = .headBadFrame port
  ∧ (let one (n : Nat) : Byte := BitVec.ofNat 8 n
     let two (n : Nat) : List Byte := [one (n / 256), one n]
     let four (n : Nat) : List Byte := two (n / 65536) ++ two n
     let opt (present : Option (List Byte)) : List Byte := match present with
      | none => [0]
      | some l => 1 :: l
     let frame (cls flags : Byte) (seq : Nat) (payload : List Byte) : List Byte :=
      (let body := [cls, flags, one seq, one payload.length] ++ payload
       body ++ [one ((crc16 body).toNat / 256), one (crc16 body).toNat])
     let request (seq : Nat) (payload : List Byte) : Option (List Byte) := some (frame 2 0 seq payload)
     let load (marker : Byte) (seq table : Nat) (records : List Byte) : Option (List Byte) :=
      some (frame 2 marker seq ([1, one table] ++ records))
     let pan (p : Pan) : Byte := if p = .a then 0 else 1
     let kind (x : Action) : Byte := match x with
      | .changeover _ _ => 0
      | .lowerAll => 1
      | .scrapeInhibit _ => 2
      | .reportMark _ => 3
     let fields (x : Action) : List Byte := match x with
      | .changeover target raise => one target :: opt (raise.map four)
      | .lowerAll => []
      | .scrapeInhibit on => [if on then 0 else 1]
      | .reportMark tag => [one tag]
     let trigger (x : Trigger) : List Byte := match x with
      | .atPosition p => 0 :: four p
      | .onMarker m => [1, one m]
     (∀ pos speed quality, vehicleBytes (.position pos speed quality) = some (frame 1 0 0 (four pos ++ two speed ++ [one quality])))
      ∧ (∀ seq role payload, vehicleBytes (.headCommand seq role payload) = some (frame 3 0 seq
          (one ([Role.switchgear, .panA, .panB, .line, .heater, .climate, .aux1, .aux2].idxOf role) :: payload)))
      ∧ (∀ seq table records, vehicleBytes (.loadTableFirst seq table records) = load 1 seq table records
          ∧ vehicleBytes (.loadTableMiddle seq table records) = load 2 seq table records
          ∧ vehicleBytes (.loadTableLast seq table records) = load 3 seq table records
          ∧ vehicleBytes (.loadTableOnly seq table records) = load 4 seq table records)
      ∧ (∀ seq n m, vehicleBytes (.readTable seq n m) = request seq [2, one n, one m]
          ∧ vehicleBytes (.readRecord seq n) = request seq [3, one n] ∧ vehicleBytes (.markerFlush seq n) = request seq [0x33, one n]
          ∧ vehicleBytes (.iceMode seq n) = request seq [0x40, one n] ∧ vehicleBytes (.inputArm seq n) = request seq [0x50, one n]
          ∧ vehicleBytes (.inputClear seq n) = request seq [0x51, one n])
      ∧ (∀ seq, vehicleBytes (.setModeStandby seq) = request seq [4, 0] ∧ vehicleBytes (.setModeRun seq) = request seq [4, 1]
          ∧ vehicleBytes (.restart seq) = request seq [5] ∧ vehicleBytes (.clearCounters seq) = request seq [6]
          ∧ vehicleBytes (.changeoverProceed seq) = request seq [0x21] ∧ vehicleBytes (.changeoverAbort seq) = request seq [0x22]
          ∧ vehicleBytes (.queueFlush seq) = request seq [0x31])
      ∧ (∀ seq p role profile, vehicleBytes (.panRaise seq p role profile) =
            request seq [0x10, pan p, if role = .collect then 0 else 1, one profile]
          ∧ vehicleBytes (.panLower seq (.one p)) = request seq [0x11, pan p]
          ∧ vehicleBytes (.panLower seq .both) = request seq [0x11, 2]
          ∧ vehicleBytes (.clearPanFault seq p) = request seq [0x12, pan p])
      ∧ (∀ seq target raise, vehicleBytes (.changeoverStart seq target raise) =
          request seq ([0x20, one target] ++ opt (raise.map four)))
      ∧ (∀ seq entries, vehicleBytes (.queueAppend seq entries) = request seq ([0x30, one entries.length]
          ++ (entries.map fun e => kind e.action :: (trigger e.trigger ++ fields e.action)).flatten))
      ∧ (∀ seq list actions, vehicleBytes (.markerLoad seq list actions) = request seq ([0x32, one list, one actions.length]
          ++ (actions.map fun x => kind x :: fields x).flatten))
      ∧ (∀ c : Instr, vehicleBytes c = none ↔
          (managementCode c = none ∧ (∀ pos speed quality, c ≠ .position pos speed quality)
              ∧ ∀ seq role payload, c ≠ .headCommand seq role payload)
            ∨ ∃ seq code, c = .unknownRequest seq code)
      ∧ (∀ port n serial payload fault samples current,
          headBytes (.announce port n serial) = some (frame 0x10 0 0 (one n :: four serial))
          ∧ headBytes (.headStatus port payload) = some (frame 0x11 0 0 payload)
          ∧ headBytes (.cell port n fault samples current) = some (frame 0x12 0 0 ([one n, if fault then 1 else 0]
              ++ (samples.map fun v => two (v % 65536).toNat).flatten ++ two current)))
      ∧ (∀ (cls flags : Byte) (seq : Nat) (payload : List Byte) (port : Fin 8), payload.length ≤ 240 →
          (cls ∉ [1, 2, 3] ∨ cls = 1 ∧ payload.length ≠ 7 ∨ cls = 2 ∧ payload = [] ∨ cls = 3 ∧ payload.length < 2
              ∨ cls = 3 ∧ 8 ≤ (payload.headD 0).toNat → vehicleFrame (frame cls flags seq payload) = .vlBadFrame)
          ∧ (cls ∉ [0x10, 0x11, 0x12] ∨ cls = 0x10 ∧ payload.length ≠ 5 ∨ cls = 0x11 ∧ 237 < payload.length
              ∨ cls = 0x12 ∧ payload.length ≠ 36 → headFrame port (frame cls flags seq payload) = .headBadFrame port))
      ∧ (∀ (flags code : Byte) (seq : Nat) (rest : List Byte), seq < 256 → rest.length < 240 →
          code ∉ [1, 2, 3, 4, 5, 6, 0x10, 0x11, 0x12, 0x20, 0x21, 0x22, 0x30, 0x31, 0x32, 0x33, 0x40, 0x50, 0x51] →
          vehicleFrame (frame 2 flags seq (code :: rest)) = .unknownRequest seq code.toNat)
      ∧ crc16 [] = 0xFFFF
      ∧ ∀ (bytes : List Byte) (b : Byte), crc16 (bytes ++ [b]) = (List.range 8).foldl
          (fun (c : BitVec 16) (k : Nat) => (c <<< 1) ^^^ (if c.getMsbD 0 = b.getMsbD k then 0 else 0x1021)) (crc16 bytes))
end

