-- ==== Sys2Proof/Laws/State.lean ====
section
/-! SUPPORT. One lemma for each field and each update of an act: what the update makes of the field. All are true by `rfl`, so
no proof has to unfold a record update. -/

namespace Sys2Proof.Machine

/-! ## modLm -/

@[simp] theorem Act.modLm_powered (f : LineMonitor → LineMonitor) (a : Act) : (a.modLm f).s.powered = a.s.powered := rfl
@[simp] theorem Act.modLm_now (f : LineMonitor → LineMonitor) (a : Act) : (a.modLm f).s.now = a.s.now := rfl
@[simp] theorem Act.modLm_lm (f : LineMonitor → LineMonitor) (a : Act) : (a.modLm f).s.lm = f a.s.lm := rfl
@[simp] theorem Act.modLm_pans (f : LineMonitor → LineMonitor) (a : Act) : (a.modLm f).s.pans = a.s.pans := rfl
@[simp] theorem Act.modLm_sg (f : LineMonitor → LineMonitor) (a : Act) : (a.modLm f).s.sg = a.s.sg := rfl
@[simp] theorem Act.modLm_inputs (f : LineMonitor → LineMonitor) (a : Act) : (a.modLm f).s.inputs = a.s.inputs := rfl
@[simp] theorem Act.modLm_holds (f : LineMonitor → LineMonitor) (a : Act) : (a.modLm f).s.holds = a.s.holds := rfl
@[simp] theorem Act.modLm_pr (f : LineMonitor → LineMonitor) (a : Act) : (a.modLm f).s.pr = a.s.pr := rfl
@[simp] theorem Act.modLm_co (f : LineMonitor → LineMonitor) (a : Act) : (a.modLm f).s.co = a.s.co := rfl
@[simp] theorem Act.modLm_ice (f : LineMonitor → LineMonitor) (a : Act) : (a.modLm f).s.ice = a.s.ice := rfl
@[simp] theorem Act.modLm_ports (f : LineMonitor → LineMonitor) (a : Act) : (a.modLm f).s.ports = a.s.ports := rfl
@[simp] theorem Act.modLm_roles (f : LineMonitor → LineMonitor) (a : Act) : (a.modLm f).s.roles = a.s.roles := rfl
@[simp] theorem Act.modLm_vl (f : LineMonitor → LineMonitor) (a : Act) : (a.modLm f).s.vl = a.s.vl := rfl
@[simp] theorem Act.modLm_ru (f : LineMonitor → LineMonitor) (a : Act) : (a.modLm f).s.ru = a.s.ru := rfl
@[simp] theorem Act.modLm_sent (f : LineMonitor → LineMonitor) (a : Act) : (a.modLm f).s.sent = a.s.sent := rfl
@[simp] theorem Act.modLm_choices (f : LineMonitor → LineMonitor) (a : Act) : (a.modLm f).s.choices = a.s.choices := rfl
@[simp] theorem Act.modLm_pending (f : LineMonitor → LineMonitor) (a : Act) : (a.modLm f).s.pending = a.s.pending := rfl
@[simp] theorem Act.modLm_notes (f : LineMonitor → LineMonitor) (a : Act) : (a.modLm f).notes = a.notes := rfl

/-! ## modPans -/

@[simp] theorem Act.modPans_powered (f : Pans → Pans) (a : Act) : (a.modPans f).s.powered = a.s.powered := rfl
@[simp] theorem Act.modPans_now (f : Pans → Pans) (a : Act) : (a.modPans f).s.now = a.s.now := rfl
@[simp] theorem Act.modPans_lm (f : Pans → Pans) (a : Act) : (a.modPans f).s.lm = a.s.lm := rfl
@[simp] theorem Act.modPans_pans (f : Pans → Pans) (a : Act) : (a.modPans f).s.pans = f a.s.pans := rfl
@[simp] theorem Act.modPans_sg (f : Pans → Pans) (a : Act) : (a.modPans f).s.sg = a.s.sg := rfl
@[simp] theorem Act.modPans_inputs (f : Pans → Pans) (a : Act) : (a.modPans f).s.inputs = a.s.inputs := rfl
@[simp] theorem Act.modPans_holds (f : Pans → Pans) (a : Act) : (a.modPans f).s.holds = a.s.holds := rfl
@[simp] theorem Act.modPans_pr (f : Pans → Pans) (a : Act) : (a.modPans f).s.pr = a.s.pr := rfl
@[simp] theorem Act.modPans_co (f : Pans → Pans) (a : Act) : (a.modPans f).s.co = a.s.co := rfl
@[simp] theorem Act.modPans_ice (f : Pans → Pans) (a : Act) : (a.modPans f).s.ice = a.s.ice := rfl
@[simp] theorem Act.modPans_ports (f : Pans → Pans) (a : Act) : (a.modPans f).s.ports = a.s.ports := rfl
@[simp] theorem Act.modPans_roles (f : Pans → Pans) (a : Act) : (a.modPans f).s.roles = a.s.roles := rfl
@[simp] theorem Act.modPans_vl (f : Pans → Pans) (a : Act) : (a.modPans f).s.vl = a.s.vl := rfl
@[simp] theorem Act.modPans_ru (f : Pans → Pans) (a : Act) : (a.modPans f).s.ru = a.s.ru := rfl
@[simp] theorem Act.modPans_sent (f : Pans → Pans) (a : Act) : (a.modPans f).s.sent = a.s.sent := rfl
@[simp] theorem Act.modPans_choices (f : Pans → Pans) (a : Act) : (a.modPans f).s.choices = a.s.choices := rfl
@[simp] theorem Act.modPans_pending (f : Pans → Pans) (a : Act) : (a.modPans f).s.pending = a.s.pending := rfl
@[simp] theorem Act.modPans_notes (f : Pans → Pans) (a : Act) : (a.modPans f).notes = a.notes := rfl

/-! ## modSg -/

@[simp] theorem Act.modSg_powered (f : Switchgear → Switchgear) (a : Act) : (a.modSg f).s.powered = a.s.powered := rfl
@[simp] theorem Act.modSg_now (f : Switchgear → Switchgear) (a : Act) : (a.modSg f).s.now = a.s.now := rfl
@[simp] theorem Act.modSg_lm (f : Switchgear → Switchgear) (a : Act) : (a.modSg f).s.lm = a.s.lm := rfl
@[simp] theorem Act.modSg_pans (f : Switchgear → Switchgear) (a : Act) : (a.modSg f).s.pans = a.s.pans := rfl
@[simp] theorem Act.modSg_sg (f : Switchgear → Switchgear) (a : Act) : (a.modSg f).s.sg = f a.s.sg := rfl
@[simp] theorem Act.modSg_inputs (f : Switchgear → Switchgear) (a : Act) : (a.modSg f).s.inputs = a.s.inputs := rfl
@[simp] theorem Act.modSg_holds (f : Switchgear → Switchgear) (a : Act) : (a.modSg f).s.holds = a.s.holds := rfl
@[simp] theorem Act.modSg_pr (f : Switchgear → Switchgear) (a : Act) : (a.modSg f).s.pr = a.s.pr := rfl
@[simp] theorem Act.modSg_co (f : Switchgear → Switchgear) (a : Act) : (a.modSg f).s.co = a.s.co := rfl
@[simp] theorem Act.modSg_ice (f : Switchgear → Switchgear) (a : Act) : (a.modSg f).s.ice = a.s.ice := rfl
@[simp] theorem Act.modSg_ports (f : Switchgear → Switchgear) (a : Act) : (a.modSg f).s.ports = a.s.ports := rfl
@[simp] theorem Act.modSg_roles (f : Switchgear → Switchgear) (a : Act) : (a.modSg f).s.roles = a.s.roles := rfl
@[simp] theorem Act.modSg_vl (f : Switchgear → Switchgear) (a : Act) : (a.modSg f).s.vl = a.s.vl := rfl
@[simp] theorem Act.modSg_ru (f : Switchgear → Switchgear) (a : Act) : (a.modSg f).s.ru = a.s.ru := rfl
@[simp] theorem Act.modSg_sent (f : Switchgear → Switchgear) (a : Act) : (a.modSg f).s.sent = a.s.sent := rfl
@[simp] theorem Act.modSg_choices (f : Switchgear → Switchgear) (a : Act) : (a.modSg f).s.choices = a.s.choices := rfl
@[simp] theorem Act.modSg_pending (f : Switchgear → Switchgear) (a : Act) : (a.modSg f).s.pending = a.s.pending := rfl
@[simp] theorem Act.modSg_notes (f : Switchgear → Switchgear) (a : Act) : (a.modSg f).notes = a.notes := rfl

/-! ## modInputs -/

@[simp] theorem Act.modInputs_powered (f : Vector InputRecord 12 → Vector InputRecord 12) (a : Act) : (a.modInputs f).s.powered = a.s.powered := rfl
@[simp] theorem Act.modInputs_now (f : Vector InputRecord 12 → Vector InputRecord 12) (a : Act) : (a.modInputs f).s.now = a.s.now := rfl
@[simp] theorem Act.modInputs_lm (f : Vector InputRecord 12 → Vector InputRecord 12) (a : Act) : (a.modInputs f).s.lm = a.s.lm := rfl
@[simp] theorem Act.modInputs_pans (f : Vector InputRecord 12 → Vector InputRecord 12) (a : Act) : (a.modInputs f).s.pans = a.s.pans := rfl
@[simp] theorem Act.modInputs_sg (f : Vector InputRecord 12 → Vector InputRecord 12) (a : Act) : (a.modInputs f).s.sg = a.s.sg := rfl
@[simp] theorem Act.modInputs_inputs (f : Vector InputRecord 12 → Vector InputRecord 12) (a : Act) : (a.modInputs f).s.inputs = f a.s.inputs := rfl
@[simp] theorem Act.modInputs_holds (f : Vector InputRecord 12 → Vector InputRecord 12) (a : Act) : (a.modInputs f).s.holds = a.s.holds := rfl
@[simp] theorem Act.modInputs_pr (f : Vector InputRecord 12 → Vector InputRecord 12) (a : Act) : (a.modInputs f).s.pr = a.s.pr := rfl
@[simp] theorem Act.modInputs_co (f : Vector InputRecord 12 → Vector InputRecord 12) (a : Act) : (a.modInputs f).s.co = a.s.co := rfl
@[simp] theorem Act.modInputs_ice (f : Vector InputRecord 12 → Vector InputRecord 12) (a : Act) : (a.modInputs f).s.ice = a.s.ice := rfl
@[simp] theorem Act.modInputs_ports (f : Vector InputRecord 12 → Vector InputRecord 12) (a : Act) : (a.modInputs f).s.ports = a.s.ports := rfl
@[simp] theorem Act.modInputs_roles (f : Vector InputRecord 12 → Vector InputRecord 12) (a : Act) : (a.modInputs f).s.roles = a.s.roles := rfl
@[simp] theorem Act.modInputs_vl (f : Vector InputRecord 12 → Vector InputRecord 12) (a : Act) : (a.modInputs f).s.vl = a.s.vl := rfl
@[simp] theorem Act.modInputs_ru (f : Vector InputRecord 12 → Vector InputRecord 12) (a : Act) : (a.modInputs f).s.ru = a.s.ru := rfl
@[simp] theorem Act.modInputs_sent (f : Vector InputRecord 12 → Vector InputRecord 12) (a : Act) : (a.modInputs f).s.sent = a.s.sent := rfl
@[simp] theorem Act.modInputs_choices (f : Vector InputRecord 12 → Vector InputRecord 12) (a : Act) : (a.modInputs f).s.choices = a.s.choices := rfl
@[simp] theorem Act.modInputs_pending (f : Vector InputRecord 12 → Vector InputRecord 12) (a : Act) : (a.modInputs f).s.pending = a.s.pending := rfl
@[simp] theorem Act.modInputs_notes (f : Vector InputRecord 12 → Vector InputRecord 12) (a : Act) : (a.modInputs f).notes = a.notes := rfl

/-! ## modHolds -/

@[simp] theorem Act.modHolds_powered (f : Vector (Option Held) 8 → Vector (Option Held) 8) (a : Act) : (a.modHolds f).s.powered = a.s.powered := rfl
@[simp] theorem Act.modHolds_now (f : Vector (Option Held) 8 → Vector (Option Held) 8) (a : Act) : (a.modHolds f).s.now = a.s.now := rfl
@[simp] theorem Act.modHolds_lm (f : Vector (Option Held) 8 → Vector (Option Held) 8) (a : Act) : (a.modHolds f).s.lm = a.s.lm := rfl
@[simp] theorem Act.modHolds_pans (f : Vector (Option Held) 8 → Vector (Option Held) 8) (a : Act) : (a.modHolds f).s.pans = a.s.pans := rfl
@[simp] theorem Act.modHolds_sg (f : Vector (Option Held) 8 → Vector (Option Held) 8) (a : Act) : (a.modHolds f).s.sg = a.s.sg := rfl
@[simp] theorem Act.modHolds_inputs (f : Vector (Option Held) 8 → Vector (Option Held) 8) (a : Act) : (a.modHolds f).s.inputs = a.s.inputs := rfl
@[simp] theorem Act.modHolds_holds (f : Vector (Option Held) 8 → Vector (Option Held) 8) (a : Act) : (a.modHolds f).s.holds = f a.s.holds := rfl
@[simp] theorem Act.modHolds_pr (f : Vector (Option Held) 8 → Vector (Option Held) 8) (a : Act) : (a.modHolds f).s.pr = a.s.pr := rfl
@[simp] theorem Act.modHolds_co (f : Vector (Option Held) 8 → Vector (Option Held) 8) (a : Act) : (a.modHolds f).s.co = a.s.co := rfl
@[simp] theorem Act.modHolds_ice (f : Vector (Option Held) 8 → Vector (Option Held) 8) (a : Act) : (a.modHolds f).s.ice = a.s.ice := rfl
@[simp] theorem Act.modHolds_ports (f : Vector (Option Held) 8 → Vector (Option Held) 8) (a : Act) : (a.modHolds f).s.ports = a.s.ports := rfl
@[simp] theorem Act.modHolds_roles (f : Vector (Option Held) 8 → Vector (Option Held) 8) (a : Act) : (a.modHolds f).s.roles = a.s.roles := rfl
@[simp] theorem Act.modHolds_vl (f : Vector (Option Held) 8 → Vector (Option Held) 8) (a : Act) : (a.modHolds f).s.vl = a.s.vl := rfl
@[simp] theorem Act.modHolds_ru (f : Vector (Option Held) 8 → Vector (Option Held) 8) (a : Act) : (a.modHolds f).s.ru = a.s.ru := rfl
@[simp] theorem Act.modHolds_sent (f : Vector (Option Held) 8 → Vector (Option Held) 8) (a : Act) : (a.modHolds f).s.sent = a.s.sent := rfl
@[simp] theorem Act.modHolds_choices (f : Vector (Option Held) 8 → Vector (Option Held) 8) (a : Act) : (a.modHolds f).s.choices = a.s.choices := rfl
@[simp] theorem Act.modHolds_pending (f : Vector (Option Held) 8 → Vector (Option Held) 8) (a : Act) : (a.modHolds f).s.pending = a.s.pending := rfl
@[simp] theorem Act.modHolds_notes (f : Vector (Option Held) 8 → Vector (Option Held) 8) (a : Act) : (a.modHolds f).notes = a.notes := rfl

/-! ## modPr -/

@[simp] theorem Act.modPr_powered (f : Route → Route) (a : Act) : (a.modPr f).s.powered = a.s.powered := rfl
@[simp] theorem Act.modPr_now (f : Route → Route) (a : Act) : (a.modPr f).s.now = a.s.now := rfl
@[simp] theorem Act.modPr_lm (f : Route → Route) (a : Act) : (a.modPr f).s.lm = a.s.lm := rfl
@[simp] theorem Act.modPr_pans (f : Route → Route) (a : Act) : (a.modPr f).s.pans = a.s.pans := rfl
@[simp] theorem Act.modPr_sg (f : Route → Route) (a : Act) : (a.modPr f).s.sg = a.s.sg := rfl
@[simp] theorem Act.modPr_inputs (f : Route → Route) (a : Act) : (a.modPr f).s.inputs = a.s.inputs := rfl
@[simp] theorem Act.modPr_holds (f : Route → Route) (a : Act) : (a.modPr f).s.holds = a.s.holds := rfl
@[simp] theorem Act.modPr_pr (f : Route → Route) (a : Act) : (a.modPr f).s.pr = f a.s.pr := rfl
@[simp] theorem Act.modPr_co (f : Route → Route) (a : Act) : (a.modPr f).s.co = a.s.co := rfl
@[simp] theorem Act.modPr_ice (f : Route → Route) (a : Act) : (a.modPr f).s.ice = a.s.ice := rfl
@[simp] theorem Act.modPr_ports (f : Route → Route) (a : Act) : (a.modPr f).s.ports = a.s.ports := rfl
@[simp] theorem Act.modPr_roles (f : Route → Route) (a : Act) : (a.modPr f).s.roles = a.s.roles := rfl
@[simp] theorem Act.modPr_vl (f : Route → Route) (a : Act) : (a.modPr f).s.vl = a.s.vl := rfl
@[simp] theorem Act.modPr_ru (f : Route → Route) (a : Act) : (a.modPr f).s.ru = a.s.ru := rfl
@[simp] theorem Act.modPr_sent (f : Route → Route) (a : Act) : (a.modPr f).s.sent = a.s.sent := rfl
@[simp] theorem Act.modPr_choices (f : Route → Route) (a : Act) : (a.modPr f).s.choices = a.s.choices := rfl
@[simp] theorem Act.modPr_pending (f : Route → Route) (a : Act) : (a.modPr f).s.pending = a.s.pending := rfl
@[simp] theorem Act.modPr_notes (f : Route → Route) (a : Act) : (a.modPr f).notes = a.notes := rfl

/-! ## modCo -/

@[simp] theorem Act.modCo_powered (f : Changeover → Changeover) (a : Act) : (a.modCo f).s.powered = a.s.powered := rfl
@[simp] theorem Act.modCo_now (f : Changeover → Changeover) (a : Act) : (a.modCo f).s.now = a.s.now := rfl
@[simp] theorem Act.modCo_lm (f : Changeover → Changeover) (a : Act) : (a.modCo f).s.lm = a.s.lm := rfl
@[simp] theorem Act.modCo_pans (f : Changeover → Changeover) (a : Act) : (a.modCo f).s.pans = a.s.pans := rfl
@[simp] theorem Act.modCo_sg (f : Changeover → Changeover) (a : Act) : (a.modCo f).s.sg = a.s.sg := rfl
@[simp] theorem Act.modCo_inputs (f : Changeover → Changeover) (a : Act) : (a.modCo f).s.inputs = a.s.inputs := rfl
@[simp] theorem Act.modCo_holds (f : Changeover → Changeover) (a : Act) : (a.modCo f).s.holds = a.s.holds := rfl
@[simp] theorem Act.modCo_pr (f : Changeover → Changeover) (a : Act) : (a.modCo f).s.pr = a.s.pr := rfl
@[simp] theorem Act.modCo_co (f : Changeover → Changeover) (a : Act) : (a.modCo f).s.co = f a.s.co := rfl
@[simp] theorem Act.modCo_ice (f : Changeover → Changeover) (a : Act) : (a.modCo f).s.ice = a.s.ice := rfl
@[simp] theorem Act.modCo_ports (f : Changeover → Changeover) (a : Act) : (a.modCo f).s.ports = a.s.ports := rfl
@[simp] theorem Act.modCo_roles (f : Changeover → Changeover) (a : Act) : (a.modCo f).s.roles = a.s.roles := rfl
@[simp] theorem Act.modCo_vl (f : Changeover → Changeover) (a : Act) : (a.modCo f).s.vl = a.s.vl := rfl
@[simp] theorem Act.modCo_ru (f : Changeover → Changeover) (a : Act) : (a.modCo f).s.ru = a.s.ru := rfl
@[simp] theorem Act.modCo_sent (f : Changeover → Changeover) (a : Act) : (a.modCo f).s.sent = a.s.sent := rfl
@[simp] theorem Act.modCo_choices (f : Changeover → Changeover) (a : Act) : (a.modCo f).s.choices = a.s.choices := rfl
@[simp] theorem Act.modCo_pending (f : Changeover → Changeover) (a : Act) : (a.modCo f).s.pending = a.s.pending := rfl
@[simp] theorem Act.modCo_notes (f : Changeover → Changeover) (a : Act) : (a.modCo f).notes = a.notes := rfl

/-! ## modIce -/

@[simp] theorem Act.modIce_powered (f : Ice → Ice) (a : Act) : (a.modIce f).s.powered = a.s.powered := rfl
@[simp] theorem Act.modIce_now (f : Ice → Ice) (a : Act) : (a.modIce f).s.now = a.s.now := rfl
@[simp] theorem Act.modIce_lm (f : Ice → Ice) (a : Act) : (a.modIce f).s.lm = a.s.lm := rfl
@[simp] theorem Act.modIce_pans (f : Ice → Ice) (a : Act) : (a.modIce f).s.pans = a.s.pans := rfl
@[simp] theorem Act.modIce_sg (f : Ice → Ice) (a : Act) : (a.modIce f).s.sg = a.s.sg := rfl
@[simp] theorem Act.modIce_inputs (f : Ice → Ice) (a : Act) : (a.modIce f).s.inputs = a.s.inputs := rfl
@[simp] theorem Act.modIce_holds (f : Ice → Ice) (a : Act) : (a.modIce f).s.holds = a.s.holds := rfl
@[simp] theorem Act.modIce_pr (f : Ice → Ice) (a : Act) : (a.modIce f).s.pr = a.s.pr := rfl
@[simp] theorem Act.modIce_co (f : Ice → Ice) (a : Act) : (a.modIce f).s.co = a.s.co := rfl
@[simp] theorem Act.modIce_ice (f : Ice → Ice) (a : Act) : (a.modIce f).s.ice = f a.s.ice := rfl
@[simp] theorem Act.modIce_ports (f : Ice → Ice) (a : Act) : (a.modIce f).s.ports = a.s.ports := rfl
@[simp] theorem Act.modIce_roles (f : Ice → Ice) (a : Act) : (a.modIce f).s.roles = a.s.roles := rfl
@[simp] theorem Act.modIce_vl (f : Ice → Ice) (a : Act) : (a.modIce f).s.vl = a.s.vl := rfl
@[simp] theorem Act.modIce_ru (f : Ice → Ice) (a : Act) : (a.modIce f).s.ru = a.s.ru := rfl
@[simp] theorem Act.modIce_sent (f : Ice → Ice) (a : Act) : (a.modIce f).s.sent = a.s.sent := rfl
@[simp] theorem Act.modIce_choices (f : Ice → Ice) (a : Act) : (a.modIce f).s.choices = a.s.choices := rfl
@[simp] theorem Act.modIce_pending (f : Ice → Ice) (a : Act) : (a.modIce f).s.pending = a.s.pending := rfl
@[simp] theorem Act.modIce_notes (f : Ice → Ice) (a : Act) : (a.modIce f).notes = a.notes := rfl

/-! ## modPorts -/

@[simp] theorem Act.modPorts_powered (f : Vector PortRecord 8 → Vector PortRecord 8) (a : Act) : (a.modPorts f).s.powered = a.s.powered := rfl
@[simp] theorem Act.modPorts_now (f : Vector PortRecord 8 → Vector PortRecord 8) (a : Act) : (a.modPorts f).s.now = a.s.now := rfl
@[simp] theorem Act.modPorts_lm (f : Vector PortRecord 8 → Vector PortRecord 8) (a : Act) : (a.modPorts f).s.lm = a.s.lm := rfl
@[simp] theorem Act.modPorts_pans (f : Vector PortRecord 8 → Vector PortRecord 8) (a : Act) : (a.modPorts f).s.pans = a.s.pans := rfl
@[simp] theorem Act.modPorts_sg (f : Vector PortRecord 8 → Vector PortRecord 8) (a : Act) : (a.modPorts f).s.sg = a.s.sg := rfl
@[simp] theorem Act.modPorts_inputs (f : Vector PortRecord 8 → Vector PortRecord 8) (a : Act) : (a.modPorts f).s.inputs = a.s.inputs := rfl
@[simp] theorem Act.modPorts_holds (f : Vector PortRecord 8 → Vector PortRecord 8) (a : Act) : (a.modPorts f).s.holds = a.s.holds := rfl
@[simp] theorem Act.modPorts_pr (f : Vector PortRecord 8 → Vector PortRecord 8) (a : Act) : (a.modPorts f).s.pr = a.s.pr := rfl
@[simp] theorem Act.modPorts_co (f : Vector PortRecord 8 → Vector PortRecord 8) (a : Act) : (a.modPorts f).s.co = a.s.co := rfl
@[simp] theorem Act.modPorts_ice (f : Vector PortRecord 8 → Vector PortRecord 8) (a : Act) : (a.modPorts f).s.ice = a.s.ice := rfl
@[simp] theorem Act.modPorts_ports (f : Vector PortRecord 8 → Vector PortRecord 8) (a : Act) : (a.modPorts f).s.ports = f a.s.ports := rfl
@[simp] theorem Act.modPorts_roles (f : Vector PortRecord 8 → Vector PortRecord 8) (a : Act) : (a.modPorts f).s.roles = a.s.roles := rfl
@[simp] theorem Act.modPorts_vl (f : Vector PortRecord 8 → Vector PortRecord 8) (a : Act) : (a.modPorts f).s.vl = a.s.vl := rfl
@[simp] theorem Act.modPorts_ru (f : Vector PortRecord 8 → Vector PortRecord 8) (a : Act) : (a.modPorts f).s.ru = a.s.ru := rfl
@[simp] theorem Act.modPorts_sent (f : Vector PortRecord 8 → Vector PortRecord 8) (a : Act) : (a.modPorts f).s.sent = a.s.sent := rfl
@[simp] theorem Act.modPorts_choices (f : Vector PortRecord 8 → Vector PortRecord 8) (a : Act) : (a.modPorts f).s.choices = a.s.choices := rfl
@[simp] theorem Act.modPorts_pending (f : Vector PortRecord 8 → Vector PortRecord 8) (a : Act) : (a.modPorts f).s.pending = a.s.pending := rfl
@[simp] theorem Act.modPorts_notes (f : Vector PortRecord 8 → Vector PortRecord 8) (a : Act) : (a.modPorts f).notes = a.notes := rfl

/-! ## modRoles -/

@[simp] theorem Act.modRoles_powered (f : Vector RoleRecord 8 → Vector RoleRecord 8) (a : Act) : (a.modRoles f).s.powered = a.s.powered := rfl
@[simp] theorem Act.modRoles_now (f : Vector RoleRecord 8 → Vector RoleRecord 8) (a : Act) : (a.modRoles f).s.now = a.s.now := rfl
@[simp] theorem Act.modRoles_lm (f : Vector RoleRecord 8 → Vector RoleRecord 8) (a : Act) : (a.modRoles f).s.lm = a.s.lm := rfl
@[simp] theorem Act.modRoles_pans (f : Vector RoleRecord 8 → Vector RoleRecord 8) (a : Act) : (a.modRoles f).s.pans = a.s.pans := rfl
@[simp] theorem Act.modRoles_sg (f : Vector RoleRecord 8 → Vector RoleRecord 8) (a : Act) : (a.modRoles f).s.sg = a.s.sg := rfl
@[simp] theorem Act.modRoles_inputs (f : Vector RoleRecord 8 → Vector RoleRecord 8) (a : Act) : (a.modRoles f).s.inputs = a.s.inputs := rfl
@[simp] theorem Act.modRoles_holds (f : Vector RoleRecord 8 → Vector RoleRecord 8) (a : Act) : (a.modRoles f).s.holds = a.s.holds := rfl
@[simp] theorem Act.modRoles_pr (f : Vector RoleRecord 8 → Vector RoleRecord 8) (a : Act) : (a.modRoles f).s.pr = a.s.pr := rfl
@[simp] theorem Act.modRoles_co (f : Vector RoleRecord 8 → Vector RoleRecord 8) (a : Act) : (a.modRoles f).s.co = a.s.co := rfl
@[simp] theorem Act.modRoles_ice (f : Vector RoleRecord 8 → Vector RoleRecord 8) (a : Act) : (a.modRoles f).s.ice = a.s.ice := rfl
@[simp] theorem Act.modRoles_ports (f : Vector RoleRecord 8 → Vector RoleRecord 8) (a : Act) : (a.modRoles f).s.ports = a.s.ports := rfl
@[simp] theorem Act.modRoles_roles (f : Vector RoleRecord 8 → Vector RoleRecord 8) (a : Act) : (a.modRoles f).s.roles = f a.s.roles := rfl
@[simp] theorem Act.modRoles_vl (f : Vector RoleRecord 8 → Vector RoleRecord 8) (a : Act) : (a.modRoles f).s.vl = a.s.vl := rfl
@[simp] theorem Act.modRoles_ru (f : Vector RoleRecord 8 → Vector RoleRecord 8) (a : Act) : (a.modRoles f).s.ru = a.s.ru := rfl
@[simp] theorem Act.modRoles_sent (f : Vector RoleRecord 8 → Vector RoleRecord 8) (a : Act) : (a.modRoles f).s.sent = a.s.sent := rfl
@[simp] theorem Act.modRoles_choices (f : Vector RoleRecord 8 → Vector RoleRecord 8) (a : Act) : (a.modRoles f).s.choices = a.s.choices := rfl
@[simp] theorem Act.modRoles_pending (f : Vector RoleRecord 8 → Vector RoleRecord 8) (a : Act) : (a.modRoles f).s.pending = a.s.pending := rfl
@[simp] theorem Act.modRoles_notes (f : Vector RoleRecord 8 → Vector RoleRecord 8) (a : Act) : (a.modRoles f).notes = a.notes := rfl

/-! ## modVl -/

@[simp] theorem Act.modVl_powered (f : VehicleLink → VehicleLink) (a : Act) : (a.modVl f).s.powered = a.s.powered := rfl
@[simp] theorem Act.modVl_now (f : VehicleLink → VehicleLink) (a : Act) : (a.modVl f).s.now = a.s.now := rfl
@[simp] theorem Act.modVl_lm (f : VehicleLink → VehicleLink) (a : Act) : (a.modVl f).s.lm = a.s.lm := rfl
@[simp] theorem Act.modVl_pans (f : VehicleLink → VehicleLink) (a : Act) : (a.modVl f).s.pans = a.s.pans := rfl
@[simp] theorem Act.modVl_sg (f : VehicleLink → VehicleLink) (a : Act) : (a.modVl f).s.sg = a.s.sg := rfl
@[simp] theorem Act.modVl_inputs (f : VehicleLink → VehicleLink) (a : Act) : (a.modVl f).s.inputs = a.s.inputs := rfl
@[simp] theorem Act.modVl_holds (f : VehicleLink → VehicleLink) (a : Act) : (a.modVl f).s.holds = a.s.holds := rfl
@[simp] theorem Act.modVl_pr (f : VehicleLink → VehicleLink) (a : Act) : (a.modVl f).s.pr = a.s.pr := rfl
@[simp] theorem Act.modVl_co (f : VehicleLink → VehicleLink) (a : Act) : (a.modVl f).s.co = a.s.co := rfl
@[simp] theorem Act.modVl_ice (f : VehicleLink → VehicleLink) (a : Act) : (a.modVl f).s.ice = a.s.ice := rfl
@[simp] theorem Act.modVl_ports (f : VehicleLink → VehicleLink) (a : Act) : (a.modVl f).s.ports = a.s.ports := rfl
@[simp] theorem Act.modVl_roles (f : VehicleLink → VehicleLink) (a : Act) : (a.modVl f).s.roles = a.s.roles := rfl
@[simp] theorem Act.modVl_vl (f : VehicleLink → VehicleLink) (a : Act) : (a.modVl f).s.vl = f a.s.vl := rfl
@[simp] theorem Act.modVl_ru (f : VehicleLink → VehicleLink) (a : Act) : (a.modVl f).s.ru = a.s.ru := rfl
@[simp] theorem Act.modVl_sent (f : VehicleLink → VehicleLink) (a : Act) : (a.modVl f).s.sent = a.s.sent := rfl
@[simp] theorem Act.modVl_choices (f : VehicleLink → VehicleLink) (a : Act) : (a.modVl f).s.choices = a.s.choices := rfl
@[simp] theorem Act.modVl_pending (f : VehicleLink → VehicleLink) (a : Act) : (a.modVl f).s.pending = a.s.pending := rfl
@[simp] theorem Act.modVl_notes (f : VehicleLink → VehicleLink) (a : Act) : (a.modVl f).notes = a.notes := rfl

/-! ## modRu -/

@[simp] theorem Act.modRu_powered (f : ReportUnit → ReportUnit) (a : Act) : (a.modRu f).s.powered = a.s.powered := rfl
@[simp] theorem Act.modRu_now (f : ReportUnit → ReportUnit) (a : Act) : (a.modRu f).s.now = a.s.now := rfl
@[simp] theorem Act.modRu_lm (f : ReportUnit → ReportUnit) (a : Act) : (a.modRu f).s.lm = a.s.lm := rfl
@[simp] theorem Act.modRu_pans (f : ReportUnit → ReportUnit) (a : Act) : (a.modRu f).s.pans = a.s.pans := rfl
@[simp] theorem Act.modRu_sg (f : ReportUnit → ReportUnit) (a : Act) : (a.modRu f).s.sg = a.s.sg := rfl
@[simp] theorem Act.modRu_inputs (f : ReportUnit → ReportUnit) (a : Act) : (a.modRu f).s.inputs = a.s.inputs := rfl
@[simp] theorem Act.modRu_holds (f : ReportUnit → ReportUnit) (a : Act) : (a.modRu f).s.holds = a.s.holds := rfl
@[simp] theorem Act.modRu_pr (f : ReportUnit → ReportUnit) (a : Act) : (a.modRu f).s.pr = a.s.pr := rfl
@[simp] theorem Act.modRu_co (f : ReportUnit → ReportUnit) (a : Act) : (a.modRu f).s.co = a.s.co := rfl
@[simp] theorem Act.modRu_ice (f : ReportUnit → ReportUnit) (a : Act) : (a.modRu f).s.ice = a.s.ice := rfl
@[simp] theorem Act.modRu_ports (f : ReportUnit → ReportUnit) (a : Act) : (a.modRu f).s.ports = a.s.ports := rfl
@[simp] theorem Act.modRu_roles (f : ReportUnit → ReportUnit) (a : Act) : (a.modRu f).s.roles = a.s.roles := rfl
@[simp] theorem Act.modRu_vl (f : ReportUnit → ReportUnit) (a : Act) : (a.modRu f).s.vl = a.s.vl := rfl
@[simp] theorem Act.modRu_ru (f : ReportUnit → ReportUnit) (a : Act) : (a.modRu f).s.ru = f a.s.ru := rfl
@[simp] theorem Act.modRu_sent (f : ReportUnit → ReportUnit) (a : Act) : (a.modRu f).s.sent = a.s.sent := rfl
@[simp] theorem Act.modRu_choices (f : ReportUnit → ReportUnit) (a : Act) : (a.modRu f).s.choices = a.s.choices := rfl
@[simp] theorem Act.modRu_pending (f : ReportUnit → ReportUnit) (a : Act) : (a.modRu f).s.pending = a.s.pending := rfl
@[simp] theorem Act.modRu_notes (f : ReportUnit → ReportUnit) (a : Act) : (a.modRu f).notes = a.notes := rfl

/-! ## setNow -/

@[simp] theorem Act.setNow_powered (t : Nat) (a : Act) : (a.setNow t).s.powered = a.s.powered := rfl
@[simp] theorem Act.setNow_now (t : Nat) (a : Act) : (a.setNow t).s.now = t := rfl
@[simp] theorem Act.setNow_lm (t : Nat) (a : Act) : (a.setNow t).s.lm = a.s.lm := rfl
@[simp] theorem Act.setNow_pans (t : Nat) (a : Act) : (a.setNow t).s.pans = a.s.pans := rfl
@[simp] theorem Act.setNow_sg (t : Nat) (a : Act) : (a.setNow t).s.sg = a.s.sg := rfl
@[simp] theorem Act.setNow_inputs (t : Nat) (a : Act) : (a.setNow t).s.inputs = a.s.inputs := rfl
@[simp] theorem Act.setNow_holds (t : Nat) (a : Act) : (a.setNow t).s.holds = a.s.holds := rfl
@[simp] theorem Act.setNow_pr (t : Nat) (a : Act) : (a.setNow t).s.pr = a.s.pr := rfl
@[simp] theorem Act.setNow_co (t : Nat) (a : Act) : (a.setNow t).s.co = a.s.co := rfl
@[simp] theorem Act.setNow_ice (t : Nat) (a : Act) : (a.setNow t).s.ice = a.s.ice := rfl
@[simp] theorem Act.setNow_ports (t : Nat) (a : Act) : (a.setNow t).s.ports = a.s.ports := rfl
@[simp] theorem Act.setNow_roles (t : Nat) (a : Act) : (a.setNow t).s.roles = a.s.roles := rfl
@[simp] theorem Act.setNow_vl (t : Nat) (a : Act) : (a.setNow t).s.vl = a.s.vl := rfl
@[simp] theorem Act.setNow_ru (t : Nat) (a : Act) : (a.setNow t).s.ru = a.s.ru := rfl
@[simp] theorem Act.setNow_sent (t : Nat) (a : Act) : (a.setNow t).s.sent = a.s.sent := rfl
@[simp] theorem Act.setNow_choices (t : Nat) (a : Act) : (a.setNow t).s.choices = a.s.choices := rfl
@[simp] theorem Act.setNow_pending (t : Nat) (a : Act) : (a.setNow t).s.pending = a.s.pending := rfl
@[simp] theorem Act.setNow_notes (t : Nat) (a : Act) : (a.setNow t).notes = a.notes := rfl

/-! ## send -/

@[simp] theorem Act.send_powered (c : SentCommand) (a : Act) : (a.send c).s.powered = a.s.powered := rfl
@[simp] theorem Act.send_now (c : SentCommand) (a : Act) : (a.send c).s.now = a.s.now := rfl
@[simp] theorem Act.send_lm (c : SentCommand) (a : Act) : (a.send c).s.lm = a.s.lm := rfl
@[simp] theorem Act.send_pans (c : SentCommand) (a : Act) : (a.send c).s.pans = a.s.pans := rfl
@[simp] theorem Act.send_sg (c : SentCommand) (a : Act) : (a.send c).s.sg = a.s.sg := rfl
@[simp] theorem Act.send_inputs (c : SentCommand) (a : Act) : (a.send c).s.inputs = a.s.inputs := rfl
@[simp] theorem Act.send_holds (c : SentCommand) (a : Act) : (a.send c).s.holds = a.s.holds := rfl
@[simp] theorem Act.send_pr (c : SentCommand) (a : Act) : (a.send c).s.pr = a.s.pr := rfl
@[simp] theorem Act.send_co (c : SentCommand) (a : Act) : (a.send c).s.co = a.s.co := rfl
@[simp] theorem Act.send_ice (c : SentCommand) (a : Act) : (a.send c).s.ice = a.s.ice := rfl
@[simp] theorem Act.send_ports (c : SentCommand) (a : Act) : (a.send c).s.ports = a.s.ports := rfl
@[simp] theorem Act.send_roles (c : SentCommand) (a : Act) : (a.send c).s.roles = a.s.roles := rfl
@[simp] theorem Act.send_vl (c : SentCommand) (a : Act) : (a.send c).s.vl = a.s.vl := rfl
@[simp] theorem Act.send_ru (c : SentCommand) (a : Act) : (a.send c).s.ru = a.s.ru := rfl
@[simp] theorem Act.send_sent (c : SentCommand) (a : Act) : (a.send c).s.sent = a.s.sent ++ [c] := rfl
@[simp] theorem Act.send_choices (c : SentCommand) (a : Act) : (a.send c).s.choices = a.s.choices := rfl
@[simp] theorem Act.send_pending (c : SentCommand) (a : Act) : (a.send c).s.pending = a.s.pending := rfl
@[simp] theorem Act.send_notes (c : SentCommand) (a : Act) : (a.send c).notes = a.notes := rfl

/-! ## setChoices -/

@[simp] theorem Act.setChoices_powered (cs : List Nat) (a : Act) : (a.setChoices cs).s.powered = a.s.powered := rfl
@[simp] theorem Act.setChoices_now (cs : List Nat) (a : Act) : (a.setChoices cs).s.now = a.s.now := rfl
@[simp] theorem Act.setChoices_lm (cs : List Nat) (a : Act) : (a.setChoices cs).s.lm = a.s.lm := rfl
@[simp] theorem Act.setChoices_pans (cs : List Nat) (a : Act) : (a.setChoices cs).s.pans = a.s.pans := rfl
@[simp] theorem Act.setChoices_sg (cs : List Nat) (a : Act) : (a.setChoices cs).s.sg = a.s.sg := rfl
@[simp] theorem Act.setChoices_inputs (cs : List Nat) (a : Act) : (a.setChoices cs).s.inputs = a.s.inputs := rfl
@[simp] theorem Act.setChoices_holds (cs : List Nat) (a : Act) : (a.setChoices cs).s.holds = a.s.holds := rfl
@[simp] theorem Act.setChoices_pr (cs : List Nat) (a : Act) : (a.setChoices cs).s.pr = a.s.pr := rfl
@[simp] theorem Act.setChoices_co (cs : List Nat) (a : Act) : (a.setChoices cs).s.co = a.s.co := rfl
@[simp] theorem Act.setChoices_ice (cs : List Nat) (a : Act) : (a.setChoices cs).s.ice = a.s.ice := rfl
@[simp] theorem Act.setChoices_ports (cs : List Nat) (a : Act) : (a.setChoices cs).s.ports = a.s.ports := rfl
@[simp] theorem Act.setChoices_roles (cs : List Nat) (a : Act) : (a.setChoices cs).s.roles = a.s.roles := rfl
@[simp] theorem Act.setChoices_vl (cs : List Nat) (a : Act) : (a.setChoices cs).s.vl = a.s.vl := rfl
@[simp] theorem Act.setChoices_ru (cs : List Nat) (a : Act) : (a.setChoices cs).s.ru = a.s.ru := rfl
@[simp] theorem Act.setChoices_sent (cs : List Nat) (a : Act) : (a.setChoices cs).s.sent = a.s.sent := rfl
@[simp] theorem Act.setChoices_choices (cs : List Nat) (a : Act) : (a.setChoices cs).s.choices = cs := rfl
@[simp] theorem Act.setChoices_pending (cs : List Nat) (a : Act) : (a.setChoices cs).s.pending = a.s.pending := rfl
@[simp] theorem Act.setChoices_notes (cs : List Nat) (a : Act) : (a.setChoices cs).notes = a.notes := rfl

/-! ## notify -/

@[simp] theorem Act.notify_s (ns : List Note) (a : Act) : (a.notify ns).s = a.s := rfl
@[simp] theorem Act.notify_notes (ns : List Note) (a : Act) : (a.notify ns).notes = a.notes ++ ns := rfl

/-! ## Records by their keys -/

@[simp] theorem updAt_same {α : Type} {n : Nat} (v : Vector α n) (i : Fin n) (f : α → α) : (updAt v i f)[i] = f v[i] := by
  simp [updAt]

theorem updAt_other {α : Type} {n : Nat} (v : Vector α n) (i j : Fin n) (f : α → α) (h : i ≠ j) : (updAt v i f)[j] = v[j] := by
  have h' : i.val ≠ j.val := fun e => h (Fin.ext e)
  simp [updAt, h']

@[simp] theorem Pans.get_set_same (ps : Pans) (p : Pan) (r : PanRecord) : (ps.set p r).get p = r := by cases p <;> rfl

theorem Pans.get_set_other (ps : Pans) (p q : Pan) (r : PanRecord) (h : p ≠ q) : (ps.set p r).get q = ps.get q := by
  cases p <;> cases q <;> first | rfl | exact absurd rfl h

@[simp] theorem Switchgear.get_set_same (g : Switchgear) (d : Dev) (e : Device) : (g.set d e).get d = e := by cases d <;> rfl

theorem Switchgear.get_set_other (g : Switchgear) (d d' : Dev) (e : Device) (h : d ≠ d') : (g.set d e).get d' = g.get d' := by
  cases d <;> cases d' <;> first | rfl | exact absurd rfl h

@[simp] theorem Switchgear.set_mbTrip (g : Switchgear) (d : Dev) (e : Device) : (g.set d e).mbTrip = g.mbTrip := by
  cases d <;> rfl

theorem roleIndex_injective {r r' : Role} (h : roleIndex r = roleIndex r') : r = r' := by
  cases r <;> cases r' <;> first | rfl | exact absurd h (by decide)

/-! ## modPan -/

@[simp] theorem Act.modPan_powered (p : Pan) (f : PanRecord → PanRecord) (a : Act) : (a.modPan p f).s.powered = a.s.powered := rfl
@[simp] theorem Act.modPan_now (p : Pan) (f : PanRecord → PanRecord) (a : Act) : (a.modPan p f).s.now = a.s.now := rfl
@[simp] theorem Act.modPan_lm (p : Pan) (f : PanRecord → PanRecord) (a : Act) : (a.modPan p f).s.lm = a.s.lm := rfl
@[simp] theorem Act.modPan_pans (p : Pan) (f : PanRecord → PanRecord) (a : Act) : (a.modPan p f).s.pans = a.s.pans.set p (f (a.s.pans.get p)) := rfl
@[simp] theorem Act.modPan_sg (p : Pan) (f : PanRecord → PanRecord) (a : Act) : (a.modPan p f).s.sg = a.s.sg := rfl
@[simp] theorem Act.modPan_inputs (p : Pan) (f : PanRecord → PanRecord) (a : Act) : (a.modPan p f).s.inputs = a.s.inputs := rfl
@[simp] theorem Act.modPan_holds (p : Pan) (f : PanRecord → PanRecord) (a : Act) : (a.modPan p f).s.holds = a.s.holds := rfl
@[simp] theorem Act.modPan_pr (p : Pan) (f : PanRecord → PanRecord) (a : Act) : (a.modPan p f).s.pr = a.s.pr := rfl
@[simp] theorem Act.modPan_co (p : Pan) (f : PanRecord → PanRecord) (a : Act) : (a.modPan p f).s.co = a.s.co := rfl
@[simp] theorem Act.modPan_ice (p : Pan) (f : PanRecord → PanRecord) (a : Act) : (a.modPan p f).s.ice = a.s.ice := rfl
@[simp] theorem Act.modPan_ports (p : Pan) (f : PanRecord → PanRecord) (a : Act) : (a.modPan p f).s.ports = a.s.ports := rfl
@[simp] theorem Act.modPan_roles (p : Pan) (f : PanRecord → PanRecord) (a : Act) : (a.modPan p f).s.roles = a.s.roles := rfl
@[simp] theorem Act.modPan_vl (p : Pan) (f : PanRecord → PanRecord) (a : Act) : (a.modPan p f).s.vl = a.s.vl := rfl
@[simp] theorem Act.modPan_ru (p : Pan) (f : PanRecord → PanRecord) (a : Act) : (a.modPan p f).s.ru = a.s.ru := rfl
@[simp] theorem Act.modPan_sent (p : Pan) (f : PanRecord → PanRecord) (a : Act) : (a.modPan p f).s.sent = a.s.sent := rfl
@[simp] theorem Act.modPan_choices (p : Pan) (f : PanRecord → PanRecord) (a : Act) : (a.modPan p f).s.choices = a.s.choices := rfl
@[simp] theorem Act.modPan_pending (p : Pan) (f : PanRecord → PanRecord) (a : Act) : (a.modPan p f).s.pending = a.s.pending := rfl
@[simp] theorem Act.modPan_notes (p : Pan) (f : PanRecord → PanRecord) (a : Act) : (a.modPan p f).notes = a.notes := rfl

/-! ## modDev -/

@[simp] theorem Act.modDev_powered (d : Dev) (f : Device → Device) (a : Act) : (a.modDev d f).s.powered = a.s.powered := rfl
@[simp] theorem Act.modDev_now (d : Dev) (f : Device → Device) (a : Act) : (a.modDev d f).s.now = a.s.now := rfl
@[simp] theorem Act.modDev_lm (d : Dev) (f : Device → Device) (a : Act) : (a.modDev d f).s.lm = a.s.lm := rfl
@[simp] theorem Act.modDev_pans (d : Dev) (f : Device → Device) (a : Act) : (a.modDev d f).s.pans = a.s.pans := rfl
@[simp] theorem Act.modDev_sg (d : Dev) (f : Device → Device) (a : Act) : (a.modDev d f).s.sg = a.s.sg.set d (f (a.s.sg.get d)) := rfl
@[simp] theorem Act.modDev_inputs (d : Dev) (f : Device → Device) (a : Act) : (a.modDev d f).s.inputs = a.s.inputs := rfl
@[simp] theorem Act.modDev_holds (d : Dev) (f : Device → Device) (a : Act) : (a.modDev d f).s.holds = a.s.holds := rfl
@[simp] theorem Act.modDev_pr (d : Dev) (f : Device → Device) (a : Act) : (a.modDev d f).s.pr = a.s.pr := rfl
@[simp] theorem Act.modDev_co (d : Dev) (f : Device → Device) (a : Act) : (a.modDev d f).s.co = a.s.co := rfl
@[simp] theorem Act.modDev_ice (d : Dev) (f : Device → Device) (a : Act) : (a.modDev d f).s.ice = a.s.ice := rfl
@[simp] theorem Act.modDev_ports (d : Dev) (f : Device → Device) (a : Act) : (a.modDev d f).s.ports = a.s.ports := rfl
@[simp] theorem Act.modDev_roles (d : Dev) (f : Device → Device) (a : Act) : (a.modDev d f).s.roles = a.s.roles := rfl
@[simp] theorem Act.modDev_vl (d : Dev) (f : Device → Device) (a : Act) : (a.modDev d f).s.vl = a.s.vl := rfl
@[simp] theorem Act.modDev_ru (d : Dev) (f : Device → Device) (a : Act) : (a.modDev d f).s.ru = a.s.ru := rfl
@[simp] theorem Act.modDev_sent (d : Dev) (f : Device → Device) (a : Act) : (a.modDev d f).s.sent = a.s.sent := rfl
@[simp] theorem Act.modDev_choices (d : Dev) (f : Device → Device) (a : Act) : (a.modDev d f).s.choices = a.s.choices := rfl
@[simp] theorem Act.modDev_pending (d : Dev) (f : Device → Device) (a : Act) : (a.modDev d f).s.pending = a.s.pending := rfl
@[simp] theorem Act.modDev_notes (d : Dev) (f : Device → Device) (a : Act) : (a.modDev d f).notes = a.notes := rfl

/-! ## modRole -/

@[simp] theorem Act.modRole_powered (r : Role) (f : RoleRecord → RoleRecord) (a : Act) : (a.modRole r f).s.powered = a.s.powered := rfl
@[simp] theorem Act.modRole_now (r : Role) (f : RoleRecord → RoleRecord) (a : Act) : (a.modRole r f).s.now = a.s.now := rfl
@[simp] theorem Act.modRole_lm (r : Role) (f : RoleRecord → RoleRecord) (a : Act) : (a.modRole r f).s.lm = a.s.lm := rfl
@[simp] theorem Act.modRole_pans (r : Role) (f : RoleRecord → RoleRecord) (a : Act) : (a.modRole r f).s.pans = a.s.pans := rfl
@[simp] theorem Act.modRole_sg (r : Role) (f : RoleRecord → RoleRecord) (a : Act) : (a.modRole r f).s.sg = a.s.sg := rfl
@[simp] theorem Act.modRole_inputs (r : Role) (f : RoleRecord → RoleRecord) (a : Act) : (a.modRole r f).s.inputs = a.s.inputs := rfl
@[simp] theorem Act.modRole_holds (r : Role) (f : RoleRecord → RoleRecord) (a : Act) : (a.modRole r f).s.holds = a.s.holds := rfl
@[simp] theorem Act.modRole_pr (r : Role) (f : RoleRecord → RoleRecord) (a : Act) : (a.modRole r f).s.pr = a.s.pr := rfl
@[simp] theorem Act.modRole_co (r : Role) (f : RoleRecord → RoleRecord) (a : Act) : (a.modRole r f).s.co = a.s.co := rfl
@[simp] theorem Act.modRole_ice (r : Role) (f : RoleRecord → RoleRecord) (a : Act) : (a.modRole r f).s.ice = a.s.ice := rfl
@[simp] theorem Act.modRole_ports (r : Role) (f : RoleRecord → RoleRecord) (a : Act) : (a.modRole r f).s.ports = a.s.ports := rfl
@[simp] theorem Act.modRole_roles (r : Role) (f : RoleRecord → RoleRecord) (a : Act) : (a.modRole r f).s.roles = updAt a.s.roles (roleIndex r) f := rfl
@[simp] theorem Act.modRole_vl (r : Role) (f : RoleRecord → RoleRecord) (a : Act) : (a.modRole r f).s.vl = a.s.vl := rfl
@[simp] theorem Act.modRole_ru (r : Role) (f : RoleRecord → RoleRecord) (a : Act) : (a.modRole r f).s.ru = a.s.ru := rfl
@[simp] theorem Act.modRole_sent (r : Role) (f : RoleRecord → RoleRecord) (a : Act) : (a.modRole r f).s.sent = a.s.sent := rfl
@[simp] theorem Act.modRole_choices (r : Role) (f : RoleRecord → RoleRecord) (a : Act) : (a.modRole r f).s.choices = a.s.choices := rfl
@[simp] theorem Act.modRole_pending (r : Role) (f : RoleRecord → RoleRecord) (a : Act) : (a.modRole r f).s.pending = a.s.pending := rfl
@[simp] theorem Act.modRole_notes (r : Role) (f : RoleRecord → RoleRecord) (a : Act) : (a.modRole r f).notes = a.notes := rfl

/-! ## setHold -/

@[simp] theorem Act.setHold_powered (r : Role) (h : Option Held) (a : Act) : (a.setHold r h).s.powered = a.s.powered := rfl
@[simp] theorem Act.setHold_now (r : Role) (h : Option Held) (a : Act) : (a.setHold r h).s.now = a.s.now := rfl
@[simp] theorem Act.setHold_lm (r : Role) (h : Option Held) (a : Act) : (a.setHold r h).s.lm = a.s.lm := rfl
@[simp] theorem Act.setHold_pans (r : Role) (h : Option Held) (a : Act) : (a.setHold r h).s.pans = a.s.pans := rfl
@[simp] theorem Act.setHold_sg (r : Role) (h : Option Held) (a : Act) : (a.setHold r h).s.sg = a.s.sg := rfl
@[simp] theorem Act.setHold_inputs (r : Role) (h : Option Held) (a : Act) : (a.setHold r h).s.inputs = a.s.inputs := rfl
@[simp] theorem Act.setHold_holds (r : Role) (h : Option Held) (a : Act) : (a.setHold r h).s.holds = updAt a.s.holds (roleIndex r) fun _ => h := rfl
@[simp] theorem Act.setHold_pr (r : Role) (h : Option Held) (a : Act) : (a.setHold r h).s.pr = a.s.pr := rfl
@[simp] theorem Act.setHold_co (r : Role) (h : Option Held) (a : Act) : (a.setHold r h).s.co = a.s.co := rfl
@[simp] theorem Act.setHold_ice (r : Role) (h : Option Held) (a : Act) : (a.setHold r h).s.ice = a.s.ice := rfl
@[simp] theorem Act.setHold_ports (r : Role) (h : Option Held) (a : Act) : (a.setHold r h).s.ports = a.s.ports := rfl
@[simp] theorem Act.setHold_roles (r : Role) (h : Option Held) (a : Act) : (a.setHold r h).s.roles = a.s.roles := rfl
@[simp] theorem Act.setHold_vl (r : Role) (h : Option Held) (a : Act) : (a.setHold r h).s.vl = a.s.vl := rfl
@[simp] theorem Act.setHold_ru (r : Role) (h : Option Held) (a : Act) : (a.setHold r h).s.ru = a.s.ru := rfl
@[simp] theorem Act.setHold_sent (r : Role) (h : Option Held) (a : Act) : (a.setHold r h).s.sent = a.s.sent := rfl
@[simp] theorem Act.setHold_choices (r : Role) (h : Option Held) (a : Act) : (a.setHold r h).s.choices = a.s.choices := rfl
@[simp] theorem Act.setHold_pending (r : Role) (h : Option Held) (a : Act) : (a.setHold r h).s.pending = a.s.pending := rfl
@[simp] theorem Act.setHold_notes (r : Role) (h : Option Held) (a : Act) : (a.setHold r h).notes = a.notes := rfl

/-! ## modPort -/

@[simp] theorem Act.modPort_powered (port : Fin 8) (f : PortRecord → PortRecord) (a : Act) : (a.modPort port f).s.powered = a.s.powered := rfl
@[simp] theorem Act.modPort_now (port : Fin 8) (f : PortRecord → PortRecord) (a : Act) : (a.modPort port f).s.now = a.s.now := rfl
@[simp] theorem Act.modPort_lm (port : Fin 8) (f : PortRecord → PortRecord) (a : Act) : (a.modPort port f).s.lm = a.s.lm := rfl
@[simp] theorem Act.modPort_pans (port : Fin 8) (f : PortRecord → PortRecord) (a : Act) : (a.modPort port f).s.pans = a.s.pans := rfl
@[simp] theorem Act.modPort_sg (port : Fin 8) (f : PortRecord → PortRecord) (a : Act) : (a.modPort port f).s.sg = a.s.sg := rfl
@[simp] theorem Act.modPort_inputs (port : Fin 8) (f : PortRecord → PortRecord) (a : Act) : (a.modPort port f).s.inputs = a.s.inputs := rfl
@[simp] theorem Act.modPort_holds (port : Fin 8) (f : PortRecord → PortRecord) (a : Act) : (a.modPort port f).s.holds = a.s.holds := rfl
@[simp] theorem Act.modPort_pr (port : Fin 8) (f : PortRecord → PortRecord) (a : Act) : (a.modPort port f).s.pr = a.s.pr := rfl
@[simp] theorem Act.modPort_co (port : Fin 8) (f : PortRecord → PortRecord) (a : Act) : (a.modPort port f).s.co = a.s.co := rfl
@[simp] theorem Act.modPort_ice (port : Fin 8) (f : PortRecord → PortRecord) (a : Act) : (a.modPort port f).s.ice = a.s.ice := rfl
@[simp] theorem Act.modPort_ports (port : Fin 8) (f : PortRecord → PortRecord) (a : Act) : (a.modPort port f).s.ports = updAt a.s.ports port f := rfl
@[simp] theorem Act.modPort_roles (port : Fin 8) (f : PortRecord → PortRecord) (a : Act) : (a.modPort port f).s.roles = a.s.roles := rfl
@[simp] theorem Act.modPort_vl (port : Fin 8) (f : PortRecord → PortRecord) (a : Act) : (a.modPort port f).s.vl = a.s.vl := rfl
@[simp] theorem Act.modPort_ru (port : Fin 8) (f : PortRecord → PortRecord) (a : Act) : (a.modPort port f).s.ru = a.s.ru := rfl
@[simp] theorem Act.modPort_sent (port : Fin 8) (f : PortRecord → PortRecord) (a : Act) : (a.modPort port f).s.sent = a.s.sent := rfl
@[simp] theorem Act.modPort_choices (port : Fin 8) (f : PortRecord → PortRecord) (a : Act) : (a.modPort port f).s.choices = a.s.choices := rfl
@[simp] theorem Act.modPort_pending (port : Fin 8) (f : PortRecord → PortRecord) (a : Act) : (a.modPort port f).s.pending = a.s.pending := rfl
@[simp] theorem Act.modPort_notes (port : Fin 8) (f : PortRecord → PortRecord) (a : Act) : (a.modPort port f).notes = a.notes := rfl

/-! ## modInput -/

@[simp] theorem Act.modInput_powered (line : Fin 12) (f : InputRecord → InputRecord) (a : Act) : (a.modInput line f).s.powered = a.s.powered := rfl
@[simp] theorem Act.modInput_now (line : Fin 12) (f : InputRecord → InputRecord) (a : Act) : (a.modInput line f).s.now = a.s.now := rfl
@[simp] theorem Act.modInput_lm (line : Fin 12) (f : InputRecord → InputRecord) (a : Act) : (a.modInput line f).s.lm = a.s.lm := rfl
@[simp] theorem Act.modInput_pans (line : Fin 12) (f : InputRecord → InputRecord) (a : Act) : (a.modInput line f).s.pans = a.s.pans := rfl
@[simp] theorem Act.modInput_sg (line : Fin 12) (f : InputRecord → InputRecord) (a : Act) : (a.modInput line f).s.sg = a.s.sg := rfl
@[simp] theorem Act.modInput_inputs (line : Fin 12) (f : InputRecord → InputRecord) (a : Act) : (a.modInput line f).s.inputs = updAt a.s.inputs line f := rfl
@[simp] theorem Act.modInput_holds (line : Fin 12) (f : InputRecord → InputRecord) (a : Act) : (a.modInput line f).s.holds = a.s.holds := rfl
@[simp] theorem Act.modInput_pr (line : Fin 12) (f : InputRecord → InputRecord) (a : Act) : (a.modInput line f).s.pr = a.s.pr := rfl
@[simp] theorem Act.modInput_co (line : Fin 12) (f : InputRecord → InputRecord) (a : Act) : (a.modInput line f).s.co = a.s.co := rfl
@[simp] theorem Act.modInput_ice (line : Fin 12) (f : InputRecord → InputRecord) (a : Act) : (a.modInput line f).s.ice = a.s.ice := rfl
@[simp] theorem Act.modInput_ports (line : Fin 12) (f : InputRecord → InputRecord) (a : Act) : (a.modInput line f).s.ports = a.s.ports := rfl
@[simp] theorem Act.modInput_roles (line : Fin 12) (f : InputRecord → InputRecord) (a : Act) : (a.modInput line f).s.roles = a.s.roles := rfl
@[simp] theorem Act.modInput_vl (line : Fin 12) (f : InputRecord → InputRecord) (a : Act) : (a.modInput line f).s.vl = a.s.vl := rfl
@[simp] theorem Act.modInput_ru (line : Fin 12) (f : InputRecord → InputRecord) (a : Act) : (a.modInput line f).s.ru = a.s.ru := rfl
@[simp] theorem Act.modInput_sent (line : Fin 12) (f : InputRecord → InputRecord) (a : Act) : (a.modInput line f).s.sent = a.s.sent := rfl
@[simp] theorem Act.modInput_choices (line : Fin 12) (f : InputRecord → InputRecord) (a : Act) : (a.modInput line f).s.choices = a.s.choices := rfl
@[simp] theorem Act.modInput_pending (line : Fin 12) (f : InputRecord → InputRecord) (a : Act) : (a.modInput line f).s.pending = a.s.pending := rfl
@[simp] theorem Act.modInput_notes (line : Fin 12) (f : InputRecord → InputRecord) (a : Act) : (a.modInput line f).notes = a.notes := rfl

end Sys2Proof.Machine
end

