-- ==== Sys2Proof/Laws/Acts.lean ====
section
/-! SUPPORT. What the shared frame of every command does, said once: an act, the request envelope, a deadline, a frame of the
Vehicle Link, a reply and a report. -/

namespace Sys2Proof.Machine

/-! ## Acts -/

/-- With no note waiting, the readers of an act change nothing. -/
theorem settle_of_quiet (fuel : Nat) (a : Act) (h : a.notes = []) : settle fuel a = a := by
  cases fuel <;> cases a <;> simp_all [settle]

/-- While the transmitter is sending it takes nothing. -/
theorem taken_of_sending (s : State) (h : Sending s) : taken s = none := by
  unfold Sending at h
  simp [taken, mayTake, Option.isSome_iff_ne_none.1 h]

/-- An act that tells no block, at a busy transmitter, is complete as it stands. -/
theorem complete_of_quiet (a : Act) (h : a.notes = []) (hs : Sending a.s) : complete a = a := by
  simp [complete, settle_of_quiet noteBound a h, taken_of_sending a.s hs]

/-- A powered part takes an event as one act. -/
theorem perform_of_powered (f : Act → Act) (s : State) (h : s.powered = true) :
    perform f s = .next (complete (f { s })).s := by
  simp [perform, h]

/-- A powered part whose transmitter is busy, and an event that tells no block: the next state is that of the act. -/
theorem perform_of_quiet (f : Act → Act) (s : State) (h : s.powered = true) (hn : (f { s }).notes = [])
    (hs : Sending (f { s }).s) : perform f s = .next (f { s }).s := by
  rw [perform_of_powered f s h, complete_of_quiet _ hn hs]

/-- An unpowered part takes nothing. -/
theorem perform_of_unpowered (f : Act → Act) (s : State) (h : s.powered = false) : perform f s = .next s := by
  simp [perform, h]

/-! ## Frames, requests and deadlines -/

/-- A frame on a LOCKED link is taken after it has ended the bad run and restarted silence. -/
theorem onFrame_of_locked (f : Act → Act) (s : State) (h : s.vl.link = .locked) :
    onFrame f { s } = f { s := framed s } := by
  simp [onFrame, h, downFrame, framed, Act.modVl]

/-- A frame on a link that is not LOCKED is not delimited. -/
theorem onFrame_of_unlocked (f : Act → Act) (a : Act) (h : a.s.vl.link ≠ .locked) : onFrame f a = a := by
  simp [onFrame, h]

/-- R192: a request that finds the part ready is taken by its owner, and answered. -/
theorem requestWith_of_ready (pending : Result) (seq code : Nat) (owner : Act → Act × Answered) (s : State) (h : Ready s) :
    requestWith pending seq code owner { s } =
      reply seq code (owner { s := framed s }).2 (owner { s := framed s }).1 := by
  obtain ⟨-, hl, hr, hp⟩ := h
  have hf : repliesFull (framed s) = false := decide_eq_false (Nat.not_le.2 hr)
  have hq : (framed s).vl.restartPending = false := hp
  rw [requestWith, onFrame_of_locked _ s hl]
  simp [hf, hq]

/-- R191: a request at a full Reply Queue is discarded. -/
theorem requestWith_of_full (pending : Result) (seq code : Nat) (owner : Act → Act × Answered) (s : State)
    (hl : s.vl.link = .locked) (hr : replyCapacity ≤ s.vl.replies.length) :
    requestWith pending seq code owner { s } = discardRequest { s := framed s } := by
  have hf : repliesFull (framed s) = true := decide_eq_true hr
  rw [requestWith, onFrame_of_locked _ s hl]
  simp [hf]

/-- R192: a request while a RESTART is pending is answered without its owner. -/
theorem requestWith_of_pending (pending : Result) (seq code : Nat) (owner : Act → Act × Answered) (s : State)
    (hl : s.vl.link = .locked) (hr : s.vl.replies.length < replyCapacity) (hp : s.vl.restartPending = true) :
    requestWith pending seq code owner { s } = reply seq code { result := pending } { s := framed s } := by
  have hf : repliesFull (framed s) = false := decide_eq_false (Nat.not_le.2 hr)
  have hq : (framed s).vl.restartPending = true := hp
  rw [requestWith, onFrame_of_locked _ s hl]
  simp [hf, hq]

/-- A reply changes the Reply Queue alone. -/
@[simp] theorem reply_state (seq code : Nat) (r : Answered) (a : Act) :
    (reply seq code r a).s = a.s.replied seq code r.result r.data r.clamped := rfl

/-- A reply tells no block. -/
@[simp] theorem reply_notes (seq code : Nat) (r : Answered) (a : Act) : (reply seq code r a).notes = a.notes := rfl

/-- A report changes its slot alone. -/
@[simp] theorem placeReport_state (r : Report) (a : Act) : (placeReport r a).s = a.s.reported r := rfl

/-- A report tells no block. -/
@[simp] theorem placeReport_notes (r : Report) (a : Act) : (placeReport r a).notes = a.notes := rfl

/-- A deadline that does not run does not expire. -/
@[simp] theorem atDeadline_none (effect : Act → Act) (a : Act) : atDeadline none effect a = a := rfl

/-- A deadline that runs sets the clock at least to itself, and its owner acts. -/
@[simp] theorem atDeadline_some (t : Nat) (effect : Act → Act) (a : Act) :
    atDeadline (some t) effect a = effect (a.setNow (max a.s.now t)) := rfl

/-! ## Events of Ice Control -/

/-- Notes of which none is a change to a step other than IDLE are seen as they stand. -/
theorem stepSeen_of_noStep (notes : List Note) (h : notes.any Note.stepLeft = false) : notes.map Note.stepSeen = notes := by
  induction notes with
  | nil => rfl
  | cons n rest ih =>
    simp only [List.any_cons, Bool.or_eq_false_iff] at h
    rw [List.map_cons, ih h.2]
    congr 1
    unfold Note.stepSeen
    split
    · exact absurd h.1 (by simp [Note.stepLeft])
    · rfl

/-- R162: with no change of step waiting, an event of Ice Control is its one evaluation. -/
theorem iceEvent_of_noStep (t : IceTrigger) (a : Act) (h : a.notes.any Note.stepLeft = false) :
    iceEvent t a = evaluateIce t a := by
  simp [iceEvent, evaluateSteps, h, stepSeen_of_noStep a.notes h]

/-- R162: outside SCRAPE the changes of step that wait are seen, and the event is evaluated. -/
theorem iceEvent_of_notScrape (t : IceTrigger) (a : Act) (h : a.s.ice.state ≠ .scrape) :
    iceEvent t a = evaluateIce t { a with notes := a.notes.map Note.stepSeen } := by
  simp [iceEvent, evaluateSteps, h]

/-- R162: in SCRAPE a change of step that waits is evaluated before the event. -/
theorem iceEvent_of_scrape (t : IceTrigger) (a : Act) (h : a.notes.any Note.stepLeft = true) (hs : a.s.ice.state = .scrape) :
    iceEvent t a = evaluateIce t (evaluateIce .step { a with notes := a.notes.map Note.stepSeen }) := by
  simp [iceEvent, evaluateSteps, h, hs]

/-! ## Commands toward the heads -/

/-- R183: an admitted command leaves while its role is PRESENT. -/
theorem deliver_of_present (c : Command) (a : Act) (d : DirectoryRecord) (hp : rolePresent a.s c.role = true)
    (hd : directoryOfRole a.s c.role = some d) : deliver c a = ({ a with s := a.s.sentOn d.port c.payload }, true) := by
  simp only [deliver, hp, hd]
  rfl

/-- R95: a command that the gate refuses makes a GATE report. -/
theorem present_of_refused (c : Command) (a : Act) (f : Failed) (ht : c.content.taken c.role = true)
    (hj : judge a.s c = some f) : present c a = (refuse c f a, .refused f) := by
  simp [present, ht, hj]

/-- R95: a command that the gate admits is handed to its head's port. -/
theorem present_of_admitted (c : Command) (a : Act) (ht : c.content.taken c.role = true) (hj : judge a.s c = none) :
    present c a = match deliver c a with
      | (a, true) => (a, .sent)
      | (a, false) => (a, .absent) := by
  simp only [present, ht, hj]
  rfl

/-- An admitted command of a PRESENT role is sent. -/
theorem present_of_sent (c : Command) (a : Act) (d : DirectoryRecord) (ht : c.content.taken c.role = true)
    (hj : judge a.s c = none) (hp : rolePresent a.s c.role = true) (hd : directoryOfRole a.s c.role = some d) :
    present c a = ({ a with s := a.s.sentOn d.port c.payload }, .sent) := by
  rw [present_of_admitted c a ht hj, deliver_of_present c a d hp hd]

/-- R98: VENT is always admitted. -/
@[simp] theorem judge_vent (s : State) (p : Pan) : judge s (ventCommand p) = none := rfl

/-- R98: MB_OPEN is always admitted. -/
@[simp] theorem judge_mbOpen (s : State) (o : Origin) : judge s (moveCommand .mb .opened o) = none := rfl

end Sys2Proof.Machine
end

