-- ==== Sys2Proof/Laws/Bytes.lean ====
section
/-! SUPPORT. What each reader of a field takes, said once: exactly the bytes that its writer gives for a value in range, whatever
follows them. -/

namespace Sys2Proof.Machine

/-! ## Numbers -/

/-- A byte is its own number's byte. -/
theorem ofNat_toNat_byte (b : Byte) : BitVec.ofNat 8 b.toNat = b := by simp

/-- The two bytes of a number. -/
theorem put16_of_bytes (x y : Byte) : put16 (x.toNat * 256 + y.toNat) = [x, y] := by
  have hx := x.isLt
  have hy := y.isLt
  simp only [put16, List.cons.injEq, and_true]
  constructor <;> apply BitVec.eq_of_toNat_eq <;> simp only [BitVec.toNat_ofNat] <;> omega

/-- The three bytes of a number. -/
theorem put24_of_bytes (x y z : Byte) : put24 ((x.toNat * 256 + y.toNat) * 256 + z.toNat) = [x, y, z] := by
  have hx := x.isLt
  have hy := y.isLt
  have hz := z.isLt
  simp only [put24, put16, List.cons.injEq, and_true]
  refine ⟨?_, ?_, ?_⟩ <;> apply BitVec.eq_of_toNat_eq <;> simp only [BitVec.toNat_ofNat] <;> omega

/-- A field of one byte is read from the byte that writes it, and from no other. -/
@[simp] theorem get8_eq_some (l : List Byte) (n : Nat) (rest : List Byte) :
    get8 l = some (n, rest) ↔ n < 256 ∧ l = put8 n ++ rest := by
  cases l with
  | nil => simp [get8, put8]
  | cons b r =>
    simp only [get8, put8, Option.some.injEq, Prod.mk.injEq, List.cons_append, List.nil_append, List.cons.injEq]
    constructor
    · rintro ⟨rfl, rfl⟩
      exact ⟨b.isLt, (ofNat_toNat_byte b).symm, rfl⟩
    · rintro ⟨hn, rfl, rfl⟩
      simpa using hn

/-- A field of two bytes is read from the bytes that write it, and from no others. -/
@[simp] theorem get16_eq_some (l : List Byte) (n : Nat) (rest : List Byte) :
    get16 l = some (n, rest) ↔ n < 65536 ∧ l = put16 n ++ rest := by
  constructor
  · unfold get16
    split
    · rename_i x y r
      simp only [Option.some.injEq, Prod.mk.injEq]
      rintro ⟨rfl, rfl⟩
      have hx := x.isLt
      have hy := y.isLt
      exact ⟨by omega, by rw [put16_of_bytes]; rfl⟩
    · simp
  · rintro ⟨hn, rfl⟩
    simp only [get16, put16, List.cons_append, List.nil_append, BitVec.toNat_ofNat, Option.some.injEq, Prod.mk.injEq, and_true]
    omega

/-- A field of three bytes is read from the bytes that write it, and from no others. -/
@[simp] theorem get24_eq_some (l : List Byte) (n : Nat) (rest : List Byte) :
    get24 l = some (n, rest) ↔ n < 16777216 ∧ l = put24 n ++ rest := by
  constructor
  · unfold get24
    split
    · rename_i x y z r
      simp only [Option.some.injEq, Prod.mk.injEq]
      rintro ⟨rfl, rfl⟩
      have hx := x.isLt
      have hy := y.isLt
      have hz := z.isLt
      exact ⟨by omega, by rw [put24_of_bytes]; rfl⟩
    · simp
  · rintro ⟨hn, rfl⟩
    simp only [get24, put24, put16, List.cons_append, List.nil_append, BitVec.toNat_ofNat, Option.some.injEq, Prod.mk.injEq,
      and_true]
    omega

/-- Two's complement of two bytes takes each number of the field once. -/
theorem signed16_eq_iff (n : Nat) (h : n < 65536) (v : Int) :
    signed16 n = v ↔ (-32768 ≤ v ∧ v ≤ 32767) ∧ n = (v % 65536).toNat := by
  unfold signed16
  split <;> omega

/-- A signed field of two bytes is read from the bytes that write it, and from no others. -/
@[simp] theorem getSigned16_eq_some (l : List Byte) (v : Int) (rest : List Byte) :
    getSigned16 l = some (v, rest) ↔ (-32768 ≤ v ∧ v ≤ 32767) ∧ l = putSigned16 v ++ rest := by
  unfold getSigned16 putSigned16
  cases hg : get16 l with
  | none =>
    simp only [reduceCtorEq, false_iff, not_and]
    rintro ⟨h1, h2⟩ rfl
    have := (get16_eq_some (put16 (v % 65536).toNat ++ rest) (v % 65536).toNat rest).2 ⟨by omega, rfl⟩
    simp [hg] at this
  | some p =>
    obtain ⟨n, r⟩ := p
    obtain ⟨hn, rfl⟩ := (get16_eq_some l n r).1 hg
    simp only [Option.some.injEq, Prod.mk.injEq, signed16_eq_iff n hn]
    constructor
    · rintro ⟨⟨hv, rfl⟩, rfl⟩
      exact ⟨hv, rfl⟩
    · rintro ⟨hv, he⟩
      have := (get16_eq_some _ (v % 65536).toNat rest).2 ⟨by omega, he⟩
      rw [hg] at this
      simp only [Option.some.injEq, Prod.mk.injEq] at this
      exact ⟨⟨hv, this.1⟩, this.2⟩

/-- The next field of a record: it reads its own bytes, and what follows reads the rest. -/
theorem bind_reader_eq_some {α β : Type} {get : List Byte → Option (α × List Byte)} {put : α → List Byte} {fits : α → Prop}
    (h : ∀ l v rest, get l = some (v, rest) ↔ fits v ∧ l = put v ++ rest) (l : List Byte) (f : α × List Byte → Option β) (q : β) :
    (get l >>= f) = some q ↔ ∃ v r, fits v ∧ l = put v ++ r ∧ f (v, r) = some q := by
  simp only [Option.bind_eq_bind, Option.bind_eq_some_iff, Prod.exists, h, and_assoc]

/-! ## Optional fields, lists and enumerated values -/

/-- An optional field is read from what writes it, and from nothing else, where its reader is so. -/
theorem getOption_eq_some {α : Type} (get : List Byte → Option (α × List Byte)) (put : α → List Byte) (fits : α → Prop)
    (h : ∀ l v rest, get l = some (v, rest) ↔ fits v ∧ l = put v ++ rest) (l : List Byte) (o : Option α) (rest : List Byte) :
    getOption get l = some (o, rest) ↔ (∀ v, o = some v → fits v) ∧ l = putOption put o ++ rest := by
  cases l with
  | nil => cases o <;> simp [getOption, putOption]
  | cons b r =>
    dsimp only [getOption]
    by_cases h0 : b = 0
    · subst h0
      cases o <;> simp [putOption]
    · by_cases h1 : b = 1
      · subst h1
        cases o with
        | none =>
          rcases hg : get r with - | ⟨v, r'⟩ <;> simp [putOption]
        | some v =>
          rw [if_neg h0, if_pos rfl]
          have hv := h r v rest
          rcases hg : get r with - | ⟨w, r'⟩ <;> rw [hg] at hv <;> simpa [putOption] using hv
      · rw [if_neg h0, if_neg h1]
        have h0' : ¬ b = 0#8 := h0
        have h1' : ¬ b = 1#8 := h1
        cases o <;> simp [putOption, h0', h1']

/-- Items in a row are read from what writes them, where their reader is so. -/
theorem getMany_eq_some {α : Type} (get : List Byte → Option (α × List Byte)) (put : α → List Byte) (fits : α → Prop)
    (h : ∀ l v rest, get l = some (v, rest) ↔ fits v ∧ l = put v ++ rest) (n : Nat) (l : List Byte) (vs : List α)
    (rest : List Byte) :
    getMany get n l = some (vs, rest) ↔ vs.length = n ∧ (∀ v ∈ vs, fits v) ∧ l = vs.flatMap put ++ rest := by
  induction n generalizing l vs with
  | zero =>
    simp only [getMany, Option.some.injEq, Prod.mk.injEq, List.length_eq_zero_iff]
    constructor
    · rintro ⟨rfl, rfl⟩
      simp
    · rintro ⟨rfl, -, rfl⟩
      simp
  | succ n ih =>
    cases vs with
    | nil =>
      simp only [getMany, List.length_nil, Nat.zero_ne_add_one, false_and, iff_false]
      rcases get l with - | ⟨w, r⟩
      · simp
      · dsimp only
        rcases getMany get n r with - | ⟨ws, r'⟩ <;> simp
    | cons v vs =>
      have step : getMany get (n + 1) l = some (v :: vs, rest) ↔
          ∃ r, get l = some (v, r) ∧ getMany get n r = some (vs, rest) := by
        simp only [getMany]
        rcases get l with - | ⟨w, r⟩
        · simp
        · dsimp only
          rcases hm : getMany get n r with - | ⟨ws, r'⟩
          · simp only [reduceCtorEq, Option.some.injEq, Prod.mk.injEq, false_iff, not_exists, not_and]
            rintro r2 ⟨-, rfl⟩
            simp [hm]
          · simp only [Option.some.injEq, Prod.mk.injEq, List.cons.injEq]
            constructor
            · rintro ⟨⟨rfl, rfl⟩, rfl⟩
              exact ⟨r, ⟨rfl, rfl⟩, hm⟩
            · rintro ⟨r2, ⟨rfl, rfl⟩, h2⟩
              rw [hm] at h2
              simp only [Option.some.injEq, Prod.mk.injEq] at h2
              exact ⟨⟨rfl, h2.1⟩, h2.2⟩
      simp only [step, h, ih, List.length_cons, Nat.add_right_cancel_iff, List.mem_cons, forall_eq_or_imp, List.flatMap_cons,
        List.append_assoc]
      constructor
      · rintro ⟨r, ⟨hv, rfl⟩, hl, hs, rfl⟩
        exact ⟨hl, ⟨hv, hs⟩, rfl⟩
      · rintro ⟨hl, ⟨hv, hs⟩, rfl⟩
        exact ⟨_, ⟨hv, rfl⟩, hl, hs, rfl⟩

/-- A list behind its count byte is read from what writes it, where the reader of its items is so. -/
theorem getList_eq_some {α : Type} (get : List Byte → Option (α × List Byte)) (put : α → List Byte) (fits : α → Prop)
    (h : ∀ l v rest, get l = some (v, rest) ↔ fits v ∧ l = put v ++ rest) (l : List Byte) (vs : List α) (rest : List Byte) :
    getList get l = some (vs, rest) ↔ vs.length < 256 ∧ (∀ v ∈ vs, fits v) ∧ l = putList put vs ++ rest := by
  have step : getList get l = some (vs, rest) ↔ ∃ n r, get8 l = some (n, r) ∧ getMany get n r = some (vs, rest) := by
    unfold getList
    cases get8 l with
    | none => simp
    | some p => simp [Prod.ext_iff]
  simp only [step, get8_eq_some, getMany_eq_some get put fits h, putList, List.append_assoc]
  constructor
  · rintro ⟨n, r, ⟨hn, rfl⟩, rfl, hs, rfl⟩
    exact ⟨hn, hs, rfl⟩
  · rintro ⟨hn, hs, rfl⟩
    exact ⟨_, _, ⟨hn, rfl⟩, rfl, hs, rfl⟩

/-- What an enumerated field of a list can hold as received: a value of the list, or a byte past it. -/
def Coded.Fits {α : Type} (list : List α) : Coded α → Prop
  | .named v => v ∈ list
  | .unnamed b => list.length ≤ b.toNat

/-- An enumerated field is read from the byte that writes it, and from no other. -/
theorem getCoded_eq_some {α : Type} [DecidableEq α] (list : List α) (hd : list.Nodup) (hl : list.length ≤ 256) (l : List Byte)
    (c : Coded α) (rest : List Byte) :
    getCoded list l = some (c, rest) ↔ c.Fits list ∧ l = putCoded list c ++ rest := by
  cases l with
  | nil => cases c <;> simp [getCoded, putCoded, putPlace, put8]
  | cons b r =>
    simp only [getCoded, Option.some.injEq, Prod.mk.injEq]
    have key : codedOf list b = c ↔ c.Fits list ∧ [b] = putCoded list c := by
      unfold codedOf
      by_cases hb : b.toNat < list.length
      · rw [List.getElem?_eq_getElem hb]
        cases c with
        | named v =>
          simp only [Coded.named.injEq, Coded.Fits, putCoded, putPlace, put8, placeIn, List.cons.injEq, and_true]
          constructor
          · rintro rfl
            exact ⟨List.getElem_mem hb, by rw [hd.idxOf_getElem]; exact (ofNat_toNat_byte b).symm⟩
          · rintro ⟨hv, rfl⟩
            have hi : list.idxOf v < list.length := List.idxOf_lt_length_iff.2 hv
            have : (BitVec.ofNat 8 (list.idxOf v)).toNat = list.idxOf v := by
              simp only [BitVec.toNat_ofNat]
              omega
            simp [this]
        | unnamed x =>
          simp only [reduceCtorEq, Coded.Fits, putCoded, List.cons.injEq, and_true, false_iff, not_and]
          rintro hx rfl
          omega
      · rw [List.getElem?_eq_none (by omega)]
        cases c with
        | named v =>
          simp only [reduceCtorEq, Coded.Fits, putCoded, putPlace, put8, placeIn, List.cons.injEq, and_true, false_iff, not_and]
          rintro hv rfl
          have hi : list.idxOf v < list.length := List.idxOf_lt_length_iff.2 hv
          simp only [BitVec.toNat_ofNat] at hb
          omega
        | unnamed x =>
          simp only [Coded.unnamed.injEq, Coded.Fits, putCoded, List.cons.injEq, and_true]
          constructor
          · rintro rfl
            exact ⟨by omega, rfl⟩
          · rintro ⟨-, rfl⟩
            rfl
    rw [key]
    have one : ∃ x, putCoded list c = [x] := by cases c <;> simp [putCoded, putPlace, put8]
    obtain ⟨x, hx⟩ := one
    simp [hx, and_assoc]

end Sys2Proof.Machine
end

