-- ==== Sys2Proof/Laws/PerInstr.lean ====
section
/-! SUPPORT. What holds of every command as syntax, one lemma for each constructor. -/

namespace Sys2Proof.Laws

/-- The sequence of the Vehicle Link frame that carries a command, where the command keeps one: a management request or a
HEAD_COMMAND (11, Frame layouts, Common frame). -/
def sequenceOf : Instr → Option Nat
  | .powerOnReset _ => none
  | .headLinkLightAppears _ => none
  | .headLinkLockAchieved _ => none
  | .headLinkLockLost _ => none
  | .headLinkLightLost _ => none
  | .headBadFrame _ => none
  | .announce _ _ _ => none
  | .headStatus _ _ => none
  | .cell _ _ _ _ _ => none
  | .roleSilenceExpiry _ => none
  | .panRaise seq _ _ _ => some seq
  | .stageDeadlineExpiry _ => none
  | .raiseDeadlineExpiry _ => none
  | .ventGuardExpiry _ => none
  | .lowerDeadlineExpiry _ => none
  | .panLower seq _ => some seq
  | .clearPanFault seq _ => some seq
  | .moveDeadlineExpiry _ => none
  | .inputRawChange _ _ => none
  | .filterDeadlineExpiry _ => none
  | .inputArm seq _ => some seq
  | .inputClear seq _ => some seq
  | .headCommand seq _ _ => some seq
  | .holdDeadlineExpiry _ => none
  | .position _ _ _ => none
  | .staleDeadlineExpiry => none
  | .queueAppend seq _ => some seq
  | .triggerTimerExpiry => none
  | .markerLoad seq _ _ => some seq
  | .queueFlush seq => some seq
  | .markerFlush seq _ => some seq
  | .changeoverStart seq _ _ => some seq
  | .raiseTimerExpiry => none
  | .changeoverProceed seq => some seq
  | .verifyDeadlineExpiry => none
  | .changeoverAbort seq => some seq
  | .iceMode seq _ => some seq
  | .vlLightAppears => none
  | .vlLockAchieved => none
  | .vlLockLost => none
  | .vlLightLost => none
  | .vlBadFrame => none
  | .vlSilenceExpiry => none
  | .mgmtRequestDiscarded => none
  | .loadTableFirst seq _ _ => some seq
  | .loadTableMiddle seq _ _ => some seq
  | .loadTableLast seq _ _ => some seq
  | .loadTableOnly seq _ _ => some seq
  | .readTable seq _ _ => some seq
  | .readRecord seq _ => some seq
  | .setModeRun seq => some seq
  | .setModeStandby seq => some seq
  | .restart seq => some seq
  | .clearCounters seq => some seq
  | .statusTimerExpiry => none
  | .transmitterFree => none
  | .unknownRequest seq _ => some seq
  | .powerLoss => none

/-- The first of the fields that a command's well-formedness asks for. -/
theorem fits8_first {n : Nat} (h : fits8 n = true) : n < 256 := of_decide_eq_true h

/-- The first of two. -/
theorem and_first {x y : Bool} (h : (x && y) = true) : x = true := by cases x <;> first | rfl | exact absurd h (by simp)

/-- A well-formed command that keeps its frame's sequence keeps one of a byte. -/
def Sequenced.Statement (i : Instr) : Prop := i.wf = true → ∀ n, sequenceOf i = some n → n < 256

theorem Sequenced.powerOnReset (levels : LineLevels) : Sequenced.Statement (.powerOnReset levels) :=
  fun _ _ h => nomatch h

theorem Sequenced.headLinkLightAppears (port : Fin 8) : Sequenced.Statement (.headLinkLightAppears port) :=
  fun _ _ h => nomatch h

theorem Sequenced.headLinkLockAchieved (port : Fin 8) : Sequenced.Statement (.headLinkLockAchieved port) :=
  fun _ _ h => nomatch h

theorem Sequenced.headLinkLockLost (port : Fin 8) : Sequenced.Statement (.headLinkLockLost port) :=
  fun _ _ h => nomatch h

theorem Sequenced.headLinkLightLost (port : Fin 8) : Sequenced.Statement (.headLinkLightLost port) :=
  fun _ _ h => nomatch h

theorem Sequenced.headBadFrame (port : Fin 8) : Sequenced.Statement (.headBadFrame port) :=
  fun _ _ h => nomatch h

theorem Sequenced.announce (port : Fin 8) (kind serial : Nat) : Sequenced.Statement (.announce port kind serial) :=
  fun _ _ h => nomatch h

theorem Sequenced.headStatus (port : Fin 8) (payload : List Byte) : Sequenced.Statement (.headStatus port payload) :=
  fun _ _ h => nomatch h

theorem Sequenced.cell (port : Fin 8) (sequence : Nat) (dividerFault : Bool) (samples : List Int) (current : Nat) : Sequenced.Statement (.cell port sequence dividerFault samples current) :=
  fun _ _ h => nomatch h

theorem Sequenced.roleSilenceExpiry (role : Role) : Sequenced.Statement (.roleSilenceExpiry role) :=
  fun _ _ h => nomatch h

theorem Sequenced.panRaise (seq : Nat) (pan : Pan) (role : PanRole) (profile : Nat) : Sequenced.Statement (.panRaise seq pan role profile) :=
  fun w _ h => Option.some.inj h ▸ fits8_first (and_first w)

theorem Sequenced.stageDeadlineExpiry (pan : Pan) : Sequenced.Statement (.stageDeadlineExpiry pan) :=
  fun _ _ h => nomatch h

theorem Sequenced.raiseDeadlineExpiry (pan : Pan) : Sequenced.Statement (.raiseDeadlineExpiry pan) :=
  fun _ _ h => nomatch h

theorem Sequenced.ventGuardExpiry (pan : Pan) : Sequenced.Statement (.ventGuardExpiry pan) :=
  fun _ _ h => nomatch h

theorem Sequenced.lowerDeadlineExpiry (pan : Pan) : Sequenced.Statement (.lowerDeadlineExpiry pan) :=
  fun _ _ h => nomatch h

theorem Sequenced.panLower (seq : Nat) (pans : PanChoice) : Sequenced.Statement (.panLower seq pans) :=
  fun w _ h => Option.some.inj h ▸ fits8_first w

theorem Sequenced.clearPanFault (seq : Nat) (pan : Pan) : Sequenced.Statement (.clearPanFault seq pan) :=
  fun w _ h => Option.some.inj h ▸ fits8_first w

theorem Sequenced.moveDeadlineExpiry (dev : Dev) : Sequenced.Statement (.moveDeadlineExpiry dev) :=
  fun _ _ h => nomatch h

theorem Sequenced.inputRawChange (line : Fin 12) (level : Level) : Sequenced.Statement (.inputRawChange line level) :=
  fun _ _ h => nomatch h

theorem Sequenced.filterDeadlineExpiry (line : Fin 12) : Sequenced.Statement (.filterDeadlineExpiry line) :=
  fun _ _ h => nomatch h

theorem Sequenced.inputArm (seq line : Nat) : Sequenced.Statement (.inputArm seq line) :=
  fun w _ h => Option.some.inj h ▸ fits8_first (and_first w)

theorem Sequenced.inputClear (seq line : Nat) : Sequenced.Statement (.inputClear seq line) :=
  fun w _ h => Option.some.inj h ▸ fits8_first (and_first w)

theorem Sequenced.headCommand (seq : Nat) (role : Role) (payload : List Byte) : Sequenced.Statement (.headCommand seq role payload) :=
  fun w _ h => Option.some.inj h ▸ fits8_first (and_first (and_first w))

theorem Sequenced.holdDeadlineExpiry (role : Role) : Sequenced.Statement (.holdDeadlineExpiry role) :=
  fun _ _ h => nomatch h

theorem Sequenced.position (position speed quality : Nat) : Sequenced.Statement (.position position speed quality) :=
  fun _ _ h => nomatch h

theorem Sequenced.staleDeadlineExpiry : Sequenced.Statement (.staleDeadlineExpiry) :=
  fun _ _ h => nomatch h

theorem Sequenced.queueAppend (seq : Nat) (entries : List QueueEntry) : Sequenced.Statement (.queueAppend seq entries) :=
  fun w _ h => Option.some.inj h ▸ fits8_first (and_first (and_first w))

theorem Sequenced.triggerTimerExpiry : Sequenced.Statement (.triggerTimerExpiry) :=
  fun _ _ h => nomatch h

theorem Sequenced.markerLoad (seq list : Nat) (actions : List Action) : Sequenced.Statement (.markerLoad seq list actions) :=
  fun w _ h => Option.some.inj h ▸ fits8_first (and_first (and_first (and_first w)))

theorem Sequenced.queueFlush (seq : Nat) : Sequenced.Statement (.queueFlush seq) :=
  fun w _ h => Option.some.inj h ▸ fits8_first w

theorem Sequenced.markerFlush (seq list : Nat) : Sequenced.Statement (.markerFlush seq list) :=
  fun w _ h => Option.some.inj h ▸ fits8_first (and_first w)

theorem Sequenced.changeoverStart (seq target : Nat) (raisePosition : Option Nat) : Sequenced.Statement (.changeoverStart seq target raisePosition) :=
  match raisePosition with
  | none => fun w _ h => Option.some.inj h ▸ fits8_first (and_first w)
  | some _ => fun w _ h => Option.some.inj h ▸ fits8_first (and_first (and_first w))

theorem Sequenced.raiseTimerExpiry : Sequenced.Statement (.raiseTimerExpiry) :=
  fun _ _ h => nomatch h

theorem Sequenced.changeoverProceed (seq : Nat) : Sequenced.Statement (.changeoverProceed seq) :=
  fun w _ h => Option.some.inj h ▸ fits8_first w

theorem Sequenced.verifyDeadlineExpiry : Sequenced.Statement (.verifyDeadlineExpiry) :=
  fun _ _ h => nomatch h

theorem Sequenced.changeoverAbort (seq : Nat) : Sequenced.Statement (.changeoverAbort seq) :=
  fun w _ h => Option.some.inj h ▸ fits8_first w

theorem Sequenced.iceMode (seq setting : Nat) : Sequenced.Statement (.iceMode seq setting) :=
  fun w _ h => Option.some.inj h ▸ fits8_first (and_first w)

theorem Sequenced.vlLightAppears : Sequenced.Statement (.vlLightAppears) :=
  fun _ _ h => nomatch h

theorem Sequenced.vlLockAchieved : Sequenced.Statement (.vlLockAchieved) :=
  fun _ _ h => nomatch h

theorem Sequenced.vlLockLost : Sequenced.Statement (.vlLockLost) :=
  fun _ _ h => nomatch h

theorem Sequenced.vlLightLost : Sequenced.Statement (.vlLightLost) :=
  fun _ _ h => nomatch h

theorem Sequenced.vlBadFrame : Sequenced.Statement (.vlBadFrame) :=
  fun _ _ h => nomatch h

theorem Sequenced.vlSilenceExpiry : Sequenced.Statement (.vlSilenceExpiry) :=
  fun _ _ h => nomatch h

theorem Sequenced.mgmtRequestDiscarded : Sequenced.Statement (.mgmtRequestDiscarded) :=
  fun _ _ h => nomatch h

theorem Sequenced.loadTableFirst (seq table : Nat) (records : List Byte) : Sequenced.Statement (.loadTableFirst seq table records) :=
  fun w _ h => Option.some.inj h ▸ fits8_first (and_first (and_first w))

theorem Sequenced.loadTableMiddle (seq table : Nat) (records : List Byte) : Sequenced.Statement (.loadTableMiddle seq table records) :=
  fun w _ h => Option.some.inj h ▸ fits8_first (and_first (and_first w))

theorem Sequenced.loadTableLast (seq table : Nat) (records : List Byte) : Sequenced.Statement (.loadTableLast seq table records) :=
  fun w _ h => Option.some.inj h ▸ fits8_first (and_first (and_first w))

theorem Sequenced.loadTableOnly (seq table : Nat) (records : List Byte) : Sequenced.Statement (.loadTableOnly seq table records) :=
  fun w _ h => Option.some.inj h ▸ fits8_first (and_first (and_first w))

theorem Sequenced.readTable (seq table start : Nat) : Sequenced.Statement (.readTable seq table start) :=
  fun w _ h => Option.some.inj h ▸ fits8_first (and_first (and_first w))

theorem Sequenced.readRecord (seq record : Nat) : Sequenced.Statement (.readRecord seq record) :=
  fun w _ h => Option.some.inj h ▸ fits8_first (and_first w)

theorem Sequenced.setModeRun (seq : Nat) : Sequenced.Statement (.setModeRun seq) :=
  fun w _ h => Option.some.inj h ▸ fits8_first w

theorem Sequenced.setModeStandby (seq : Nat) : Sequenced.Statement (.setModeStandby seq) :=
  fun w _ h => Option.some.inj h ▸ fits8_first w

theorem Sequenced.restart (seq : Nat) : Sequenced.Statement (.restart seq) :=
  fun w _ h => Option.some.inj h ▸ fits8_first w

theorem Sequenced.clearCounters (seq : Nat) : Sequenced.Statement (.clearCounters seq) :=
  fun w _ h => Option.some.inj h ▸ fits8_first w

theorem Sequenced.statusTimerExpiry : Sequenced.Statement (.statusTimerExpiry) :=
  fun _ _ h => nomatch h

theorem Sequenced.transmitterFree : Sequenced.Statement (.transmitterFree) :=
  fun _ _ h => nomatch h

theorem Sequenced.unknownRequest (seq code : Nat) : Sequenced.Statement (.unknownRequest seq code) :=
  fun w _ h => Option.some.inj h ▸ fits8_first (and_first w)

theorem Sequenced.powerLoss : Sequenced.Statement (.powerLoss) :=
  fun _ _ h => nomatch h

end Sys2Proof.Laws
end

