-- ==== Sys2Proof/Laws/Still.lean ====
section
/-! SUPPORT. What the blocks leave alone when they take what other blocks tell them: said once for each shared operation, up to
`settle`. The supply, the clock, the input lines, the head ports, the Vehicle Link with its tables, mode and queue, the
Position Record, the presence of the roles, the Report Unit apart from its slots, and the waiting commands stand. -/

namespace Sys2Proof.Machine

/-- The part of the state that no telling changes. -/
structure Outside where
  powered : Bool
  now : Nat
  inputs : Vector InputRecord 12
  position : PositionRecord
  ports : Vector PortRecord 8
  roles : Vector RoleRecord 8
  vl : VehicleLink
  telemetry : List TelemetryItem
  statusTimer : Nat
  statusDue : Bool
  upSequence : Nat
  sending : Option UpFrame
  dropped : Bool
  pending : List Instr

/-- What of a Role Record a telling may change is the undelivered count (R183). -/
def RoleRecord.presenceOnly (r : RoleRecord) : RoleRecord := { r with undelivered := 0 }

/-- The part of a state that no telling changes. -/
def State.outside (s : State) : Outside :=
  { powered := s.powered, now := s.now, inputs := s.inputs, position := s.pr.position, ports := s.ports
    roles := s.roles.map RoleRecord.presenceOnly, vl := s.vl, telemetry := s.ru.telemetry, statusTimer := s.ru.statusTimer
    statusDue := s.ru.statusDue, upSequence := s.ru.upSequence, sending := s.ru.sending, dropped := s.ru.dropped
    pending := s.pending }

/-! ## Updates -/

@[simp] theorem Act.notify_outside (ns : List Note) (a : Act) : (a.notify ns).s.outside = a.s.outside := rfl
@[simp] theorem Act.modLm_outside (f : LineMonitor → LineMonitor) (a : Act) : (a.modLm f).s.outside = a.s.outside := rfl
@[simp] theorem Act.modPans_outside (f : Pans → Pans) (a : Act) : (a.modPans f).s.outside = a.s.outside := rfl
@[simp] theorem Act.modPan_outside (p : Pan) (f : PanRecord → PanRecord) (a : Act) :
    (a.modPan p f).s.outside = a.s.outside := rfl
@[simp] theorem Act.modSg_outside (f : Switchgear → Switchgear) (a : Act) : (a.modSg f).s.outside = a.s.outside := rfl
@[simp] theorem Act.modDev_outside (d : Dev) (f : Device → Device) (a : Act) :
    (a.modDev d f).s.outside = a.s.outside := rfl
@[simp] theorem Act.modHolds_outside (f : Vector (Option Held) 8 → Vector (Option Held) 8) (a : Act) :
    (a.modHolds f).s.outside = a.s.outside := rfl
@[simp] theorem Act.setHold_outside (r : Role) (h : Option Held) (a : Act) : (a.setHold r h).s.outside = a.s.outside := rfl
@[simp] theorem Act.modCo_outside (f : Changeover → Changeover) (a : Act) : (a.modCo f).s.outside = a.s.outside := rfl
@[simp] theorem Act.modIce_outside (f : Ice → Ice) (a : Act) : (a.modIce f).s.outside = a.s.outside := rfl
@[simp] theorem Act.send_outside (c : SentCommand) (a : Act) : (a.send c).s.outside = a.s.outside := rfl
@[simp] theorem Act.setChoices_outside (cs : List Nat) (a : Act) : (a.setChoices cs).s.outside = a.s.outside := rfl
@[simp] theorem Act.tellLine_outside (a : Act) : a.tellLine.s.outside = a.s.outside := rfl
@[simp] theorem Act.tellSwitchgear_outside (moved : Bool) (a : Act) : (a.tellSwitchgear moved).s.outside = a.s.outside := rfl
@[simp] theorem Act.tellPan_outside (p : Pan) (new : PanState) (cause : Option LowerCause) (a : Act) :
    (a.tellPan p new cause).s.outside = a.s.outside := rfl
@[simp] theorem Act.tellStep_outside (a : Act) : a.tellStep.s.outside = a.s.outside := rfl
@[simp] theorem State.reported_outside (s : State) (r : Report) : (s.reported r).outside = s.outside := rfl
@[simp] theorem placeReport_outside (r : Report) (a : Act) : (placeReport r a).s.outside = a.s.outside := rfl

/-- The route plan may change where the Position Record does not. -/
theorem Act.modPr_outside (f : Route → Route) (a : Act) (h : (f a.s.pr).position = a.s.pr.position) :
    (a.modPr f).s.outside = a.s.outside := by
  simp [Act.modPr, State.outside, h]

/-- A record replaced in a bank by one that a reading does not tell apart changes nothing of the reading of the bank. -/
theorem updAt_map {α β : Type} {n : Nat} (v : Vector α n) (i : Fin n) (f : α → α) (g : α → β) (h : ∀ x, g (f x) = g x) :
    (updAt v i f).map g = v.map g := by
  ext j hj
  by_cases hij : i.val = j
  · subst hij
    simp [updAt, h]
  · simp [updAt, Vector.getElem_set_ne, hij]

/-- A Role Record may change its undelivered count. -/
theorem Act.modRole_outside (r : Role) (f : RoleRecord → RoleRecord) (a : Act)
    (h : ∀ x, (f x).presenceOnly = x.presenceOnly) : (a.modRole r f).s.outside = a.s.outside := by
  simp [Act.modRole, Act.modRoles, State.outside, updAt_map _ _ _ _ h]

/-- A list of operations that each leave the outside alone leaves it alone. -/
theorem foldl_outside {α : Type} (f : Act → α → Act) (h : ∀ a x, (f a x).s.outside = a.s.outside) (l : List α) (a : Act) :
    (l.foldl f a).s.outside = a.s.outside := by
  induction l generalizing a with
  | nil => rfl
  | cons x l ih => rw [List.foldl_cons, ih, h]

/-! ## Commands toward the heads, and the gate (05, 06, 10) -/

@[simp] theorem deliver_outside (c : Command) (a : Act) : (deliver c a).1.s.outside = a.s.outside := by
  unfold deliver
  split
  · rfl
  · exact Act.modRole_outside c.role (fun r => { r with undelivered := bump16 r.undelivered }) a fun _ => rfl

@[simp] theorem reportGate_outside (c : Command) (o : GateOutcome) (f l : Option Failed) (j : Bool) (a : Act) :
    (reportGate c o f l j a).s.outside = a.s.outside := rfl

@[simp] theorem refuse_outside (c : Command) (f : Failed) (a : Act) : (refuse c f a).s.outside = a.s.outside := rfl

@[simp] theorem present_outside (c : Command) (a : Act) : (present c a).1.s.outside = a.s.outside := by
  have h := deliver_outside c a
  unfold present
  split
  · split
    · rfl
    · split <;> simp_all
  · rfl

theorem present_eq_outside {c : Command} {a b : Act} {r : Answer} (e : present c a = (b, r)) :
    b.s.outside = a.s.outside := by
  have h := present_outside c a
  rwa [e] at h

/-! ## Switchgear (04) -/

@[simp] theorem assertTrip_outside (a : Act) : (assertTrip a).s.outside = a.s.outside := rfl

@[simp] theorem evaluateTrip_outside (a : Act) : (evaluateTrip a).s.outside = a.s.outside := by
  unfold evaluateTrip
  split <;> rfl

@[simp] theorem beginMove_outside (d : Dev) (t : Pos) (o : Origin) (a : Act) :
    (beginMove d t o a).s.outside = a.s.outside := rfl

@[simp] theorem moveRequest_outside (d : Dev) (t : Pos) (o : Origin) (a : Act) :
    (moveRequest d t o a).1.s.outside = a.s.outside := by
  have h := present_outside (moveCommand d t o) a
  unfold moveRequest
  split
  · split
    · rfl
    · rfl
    · split <;> simp_all
  · rfl

@[simp] theorem requestMbOpen_outside (o : Origin) (a : Act) : (requestMbOpen o a).s.outside = a.s.outside :=
  moveRequest_outside _ _ _ a

@[simp] theorem switchgearLost_outside (a : Act) : (switchgearLost a).s.outside = a.s.outside := rfl

/-! ## Line Monitor (02) -/

@[simp] theorem raiseDemand_outside (c : TripCause) (a : Act) : (raiseDemand c a).s.outside = a.s.outside := by
  unfold raiseDemand
  dsimp only
  split <;> simp

@[simp] theorem setConfirmed_outside (n : LineState) (c : LineCause) (a : Act) :
    (setConfirmed n c a).s.outside = a.s.outside := by
  unfold setConfirmed
  dsimp only
  split
  · rfl
  · split <;> simp

@[simp] theorem persist_outside (w : WindowClass) (a : Act) : (persist w a).s.outside = a.s.outside := by
  unfold persist
  split
  · rfl
  · split <;> simp

@[simp] theorem closeWindow_outside (a : Act) : (closeWindow a).s.outside = a.s.outside := by simp [closeWindow]

@[simp] theorem joinWindow_outside (samples : List Int) (current : Nat) (a : Act) :
    (joinWindow samples current a).s.outside = a.s.outside := by
  unfold joinWindow
  dsimp only
  split <;> simp

@[simp] theorem lineLost_outside (a : Act) : (lineLost a).s.outside = a.s.outside := by simp [lineLost]

/-! ## Pantographs (03) -/

@[simp] theorem changedPan_outside (p : Pan) (s : PanState) (c : Option (LowerCause × List LowerCause)) (q : Bool) (a : Act) :
    (changedPan p s c q a).s.outside = a.s.outside := by
  unfold changedPan
  dsimp only
  split <;> rfl

@[simp] theorem finishLowering_outside (p : Pan) (l : Option FaultLatch) (v q : Bool) (a : Act) :
    (finishLowering p l v q a).s.outside = a.s.outside := by
  unfold finishLowering
  dsimp only
  split <;> simp

@[simp] theorem presentVent_outside (p : Pan) (a : Act) : (presentVent p a).s.outside = a.s.outside :=
  present_outside _ a

@[simp] theorem endAtContact_outside (p : Pan) (q : Bool) (a : Act) : (endAtContact p q a).s.outside = a.s.outside := by
  unfold endAtContact
  dsimp only
  split <;> simp

@[simp] theorem enterVenting_outside (p : Pan) (i : Bool) (a : Act) : (enterVenting p i a).s.outside = a.s.outside := by
  simp [enterVenting]

@[simp] theorem testContact_outside (p : Pan) (q : Bool) (a : Act) : (testContact p q a).s.outside = a.s.outside := by
  unfold testContact
  split <;> simp

@[simp] theorem leaveAwaitMb_outside (p : Pan) (i q : Bool) (a : Act) : (leaveAwaitMb p i q a).s.outside = a.s.outside := by
  simp [leaveAwaitMb]

@[simp] theorem testAwaitMb_outside (p : Pan) (q : Bool) (a : Act) : (testAwaitMb p q a).s.outside = a.s.outside := by
  unfold testAwaitMb
  split <;> simp

@[simp] theorem enterAwaitMb_outside (p : Pan) (q : Bool) (a : Act) : (enterAwaitMb p q a).s.outside = a.s.outside := by
  simp [enterAwaitMb]

@[simp] theorem beginLowering_outside (p : Pan) (c : LowerCause) (k : CauseKind) (q : Bool) (a : Act) :
    (beginLowering p c k q a).s.outside = a.s.outside := by
  unfold beginLowering
  dsimp only
  split
  · split <;> simp
  · simp only [testContact_outside]
    split <;> simp

@[simp] theorem joinLowering_outside (p : Pan) (c : LowerCause) (k : CauseKind) (q : Bool) (a : Act) :
    (joinLowering p c k q a).s.outside = a.s.outside := by
  unfold joinLowering
  dsimp only
  split
  · simp
  · split <;> simp

@[simp] theorem lowerPan_outside (p : Pan) (c : LowerCause) (k : CauseKind) (q : Bool) (a : Act) :
    (lowerPan p c k q a).1.s.outside = a.s.outside := by
  unfold lowerPan
  split <;> simp

@[simp] theorem lowerBoth_outside (c : LowerCause) (k : CauseKind) (a : Act) :
    (lowerBoth c k a).1.s.outside = a.s.outside := by
  simp [lowerBoth]

@[simp] theorem takeRaise_outside (p : Pan) (r : PanRole) (pr : ProfileRecord) (st : Stage) (o : Origin) (a : Act) :
    (takeRaise p r pr st o a).s.outside = a.s.outside := by
  unfold takeRaise
  dsimp only
  split <;> simp

@[simp] theorem raisePan_outside (p : Pan) (r : PanRole) (n : Nat) (o : Origin) (a : Act) :
    (raisePan p r n o a).1.s.outside = a.s.outside := by
  unfold raisePan
  split
  · rfl
  · split
    · rfl
    · split
      · rfl
      · dsimp only
        split <;> rename_i e <;> simp [present_eq_outside e]

@[simp] theorem presentHold_outside (p : Pan) (n : Nat) (a : Act) : (presentHold p n a).s.outside = a.s.outside := by
  have h := present_outside (holdCommand p n) a
  unfold presentHold
  split <;> simp_all

@[simp] theorem updateHold_outside (p : Pan) (a : Act) : (updateHold p a).s.outside = a.s.outside := by
  unfold updateHold
  dsimp only
  split
  · split <;> simp
  · rfl

@[simp] theorem panHeadLost_outside (p : Pan) (a : Act) : (panHeadLost p a).s.outside = a.s.outside := by
  simp [panHeadLost]

/-! ## Hold slots (06) -/

@[simp] theorem sendVehicle_outside (c : Command) (a : Act) : (sendVehicle c a).s.outside = a.s.outside := by
  have h := deliver_outside c a
  unfold sendVehicle
  split
  · simp_all
  · split <;> simp_all

@[simp] theorem admitHeld_outside (c : Command) (a : Act) : (admitHeld c a).s.outside = a.s.outside := by
  unfold admitHeld
  split
  · split <;> simp
  all_goals simp

@[simp] theorem reviewSlot_outside (a : Act) (r : Role) : (reviewSlot a r).s.outside = a.s.outside := by
  unfold reviewSlot
  split
  · rfl
  · split
    · split <;> simp
    · rfl

@[simp] theorem reviewHolds_outside (a : Act) : (reviewHolds a).s.outside = a.s.outside :=
  foldl_outside _ reviewSlot_outside _ a

@[simp] theorem dropHold_outside (r : Role) (f : Failed) (l : Held → Option Failed) (a : Act) :
    (dropHold r f l a).s.outside = a.s.outside := by
  unfold dropHold
  split <;> simp

@[simp] theorem holdHeadLost_outside (r : Role) (a : Act) : (holdHeadLost r a).s.outside = a.s.outside :=
  dropHold_outside _ _ _ a

/-! ## Changeover (08) -/

@[simp] theorem reportStep_outside (l : CoStep) (ps : List CoStep) (a : Act) : (reportStep l ps a).s.outside = a.s.outside := rfl

@[simp] theorem reportResult_outside (r : CoResult) (x : Option AbortReason) (a : Act) :
    (reportResult r x a).s.outside = a.s.outside := rfl

@[simp] theorem toStep_outside (st : CoStep) (a : Act) : (toStep st a).s.outside = a.s.outside := rfl

@[simp] theorem endChangeover_outside (r : CoResult) (x : Option AbortReason) (l : CoStep) (ps : List CoStep) (a : Act) :
    (endChangeover r x l ps a).s.outside = a.s.outside := rfl

@[simp] theorem finishAbort_outside (l : CoStep) (ps : List CoStep) (a : Act) : (finishAbort l ps a).s.outside = a.s.outside :=
  rfl

@[simp] theorem abortRaise_outside (a : Act) (p : Pan) : (abortRaise a p).s.outside = a.s.outside := by
  unfold abortRaise
  split <;> simp

@[simp] theorem abortOpen_outside (a : Act) : (abortOpen a).s.outside = a.s.outside := by
  unfold abortOpen
  split <;> simp

@[simp] theorem abortWrongPan_outside (r : AbortReason) (a : Act) : (abortWrongPan r a).s.outside = a.s.outside := by
  unfold abortWrongPan
  split <;> simp

@[simp] theorem abort_outside (r : AbortReason) (d : Option AbortDetail) (l : CoStep) (ps : List CoStep) (a : Act) :
    (abort r d l ps a).s.outside = a.s.outside := by
  unfold abort
  dsimp only
  split <;> simp [foldl_outside _ abortRaise_outside]

@[simp] theorem abortOnEvent_outside (r : AbortReason) (a : Act) : (abortOnEvent r a).s.outside = a.s.outside := by
  unfold abortOnEvent
  split <;> simp

@[simp] theorem seqMove_outside (d : Dev) (t : Pos) (a : Act) : (seqMove d t a).1.s.outside = a.s.outside := by
  have h := moveRequest_outside d t .sequencer a
  unfold seqMove
  split
  split <;> simp_all

@[simp] theorem enterClosing_outside (l : CoStep) (ps : List CoStep) (a : Act) :
    (enterClosing l ps a).s.outside = a.s.outside := by
  have h := seqMove_outside .mb .closed (toStep .closing a)
  unfold enterClosing
  split
  · simp_all
  · split <;> simp_all

@[simp] theorem enterVerifying_outside (l : CoStep) (ps : List CoStep) (a : Act) :
    (enterVerifying l ps a).s.outside = a.s.outside := by
  unfold enterVerifying
  dsimp only
  split <;> simp

@[simp] theorem testVerifying_outside (a : Act) : (testVerifying a).s.outside = a.s.outside := by
  unfold testVerifying
  split
  · split <;> simp
  · rfl

@[simp] theorem enterRaisingNew_outside (l : CoStep) (ps : List CoStep) (a : Act) :
    (enterRaisingNew l ps a).s.outside = a.s.outside := by
  unfold enterRaisingNew
  dsimp only
  split
  · rename_i r p _ _
    have h := raisePan_outside p .collect r.raiseProfile .sequencer (toStep .raisingNew a)
    split
    · simp_all
    · split <;> simp_all
  · simp

@[simp] theorem enterAwaitRaise_outside (l : CoStep) (ps : List CoStep) (a : Act) :
    (enterAwaitRaise l ps a).s.outside = a.s.outside := by
  unfold enterAwaitRaise
  dsimp only
  split <;> simp

@[simp] theorem testAwaitRaise_outside (a : Act) : (testAwaitRaise a).s.outside = a.s.outside := by
  unfold testAwaitRaise
  split
  · split <;> simp
  · rfl

@[simp] theorem raiseStale_outside (a : Act) : (raiseStale a).s.outside = a.s.outside := rfl

@[simp] theorem leaveSelecting_outside (l : CoStep) (ps : List CoStep) (a : Act) :
    (leaveSelecting l ps a).s.outside = a.s.outside := by
  unfold leaveSelecting
  split <;> simp

@[simp] theorem askMoves_outside (ms : List (Dev × Pos)) (a : Act) : (askMoves ms a).1.s.outside = a.s.outside := by
  induction ms generalizing a with
  | nil => rfl
  | cons m ms ih =>
    obtain ⟨d, t⟩ := m
    have h := seqMove_outside d t a
    unfold askMoves
    split
    · exact ih a
    · split
      · simp_all
      · rw [ih]
        simp_all

@[simp] theorem enterSelecting_outside (l : CoStep) (ps : List CoStep) (a : Act) :
    (enterSelecting l ps a).s.outside = a.s.outside := by
  unfold enterSelecting
  dsimp only
  split
  · simp
  · rename_i r _
    have h := askMoves_outside (selectingGoals (toStep .selecting a).s r) (toStep .selecting a)
    split
    · simp_all
    · split <;> simp_all

@[simp] theorem lowerOld_outside (k : Option Pan) (a : Act) (p : Pan) : (lowerOld k a p).s.outside = a.s.outside := by
  unfold lowerOld
  split <;> simp

@[simp] theorem enterLoweringOld_outside (l : CoStep) (ps : List CoStep) (a : Act) :
    (enterLoweringOld l ps a).s.outside = a.s.outside := by
  unfold enterLoweringOld
  dsimp only
  split
  · simp
  · split <;> simp [foldl_outside _ (lowerOld_outside _)]

@[simp] theorem enterOpening_outside (l : CoStep) (ps : List CoStep) (a : Act) :
    (enterOpening l ps a).s.outside = a.s.outside := by
  have h := seqMove_outside .mb .opened (toStep .opening a)
  unfold enterOpening
  dsimp only
  split
  · simp
  · split
    · simp_all
    · split <;> simp_all

@[simp] theorem coSwitch_outside (a : Act) : (coSwitch a).s.outside = a.s.outside := by
  unfold coSwitch
  split <;> (try rfl) <;> split <;> (try simp) <;> split <;> simp

@[simp] theorem coGaveUp_outside (d : Dev) (t : Pos) (a : Act) : (coGaveUp d t a).s.outside = a.s.outside := by
  unfold coGaveUp
  split <;> simp

@[simp] theorem coPanLowered_outside (p : Pan) (n : PanState) (a : Act) :
    (coPanLowered p n a).s.outside = a.s.outside := by
  unfold coPanLowered
  split
  · split
    · simp
    · dsimp only
      split <;> simp
  · rfl

@[simp] theorem coPan_outside (p : Pan) (n : PanState) (c : Option LowerCause) (a : Act) :
    (coPan p n c a).s.outside = a.s.outside := by
  unfold coPan
  split
  · simp
  · split
    · simp
    · split
      · simp
      · split <;> simp

@[simp] theorem coRole_outside (r : Role) (pr : Bool) (a : Act) : (coRole r pr a).s.outside = a.s.outside := by
  unfold coRole
  dsimp only
  split <;> split <;> simp

@[simp] theorem takeNoop_outside (t : Nat) (x : Option Nat) (o : CoOrigin) (p : Pan) (a : Act) :
    (takeNoop t x o p a).s.outside = a.s.outside := rfl

@[simp] theorem lowerScrape_outside (a : Act) (p : Pan) : (lowerScrape a p).s.outside = a.s.outside := by
  unfold lowerScrape
  split <;> simp

@[simp] theorem takeStart_outside (t : Nat) (x : Option Nat) (o : CoOrigin) (a : Act) :
    (takeStart t x o a).s.outside = a.s.outside := by
  simp [takeStart, foldl_outside _ lowerScrape_outside]

@[simp] theorem startChangeover_outside (t : Nat) (x : Option Nat) (o : CoOrigin) (a : Act) :
    (startChangeover t x o a).1.s.outside = a.s.outside := by
  unfold startChangeover
  split
  · rfl
  · split <;> simp

/-! ## Ice (09) -/

@[simp] theorem presentGroups_outside (a : Act) : (presentGroups a).s.outside = a.s.outside := by
  have h := present_outside (groupsCommand a.s.ice.allocated) a
  unfold presentGroups
  dsimp only
  split
  · split <;> simp_all
  · rfl

@[simp] theorem allocate_outside (a : Act) : (allocate a).s.outside = a.s.outside := by simp [allocate]

@[simp] theorem reportIce_outside (b : IceState) (c : IceCause) (a : Act) : (reportIce b c a).s.outside = a.s.outside := rfl

@[simp] theorem leaveScrape_outside (a : Act) : (leaveScrape a).s.outside = a.s.outside := by
  unfold leaveScrape
  dsimp only
  split <;> simp

@[simp] theorem failEntry_outside (a : Act) : (failEntry a).s.outside = a.s.outside := by simp [failEntry]

@[simp] theorem askScrapeRaise_outside (p : Pan) (a : Act) : (askScrapeRaise p a).1.s.outside = a.s.outside := by
  unfold askScrapeRaise
  dsimp only
  split <;> simp

@[simp] theorem enterScrape_outside (p : Pan) (a : Act) : (enterScrape p a).act.s.outside = a.s.outside := by
  let b := a.modIce fun i => { i with state := .scrape, scrapePan := some (otherPan p), phase := some .isoOpening }
  have h := askScrapeRaise_outside (otherPan p) b
  have g := moveRequest_outside (isoOf (otherPan p)) .opened .ice b
  have hb : b.s.outside = a.s.outside := rfl
  unfold enterScrape
  dsimp only
  split <;> rename_i e <;> split at e <;> have e := congrArg (fun x => x.1.s.outside) e <;> simp_all [b]

theorem testIsoOpening_outside (p : Pan) (a : Act) (m : IceMove) (h : testIsoOpening p a = some m) :
    m.act.s.outside = a.s.outside := by
  have g := askScrapeRaise_outside p a
  unfold testIsoOpening at h
  split at h
  · cases h
  · split at h
    · split at h <;> cases h <;> simp_all
    · cases h
      simp

@[simp] theorem promotePhase_outside (a : Act) : (promotePhase a).s.outside = a.s.outside := by
  unfold promotePhase
  split
  · split <;> simp
  · rfl

theorem scrapeStep_outside (t : IceTrigger) (a : Act) (m : IceMove) (h : scrapeStep t a = some m) : m.act.s.outside = a.s.outside := by
  unfold scrapeStep at h
  split at h
  · cases h
    simp
  · split at h
    · cases h
      simp
    · split at h
      · split at h
        · exact testIsoOpening_outside _ a m h
        · cases h
      · cases h
        simp

theorem autoStep_outside (t : IceTrigger) (a : Act) (m : IceMove) (h : autoStep t a = some m) : m.act.s.outside = a.s.outside := by
  unfold autoStep at h
  dsimp only at h
  split at h
  · cases h
    simp
  · split at h <;> cases h
    simp
  · split at h
    · cases h
      simp
    · split at h
      · obtain ⟨p, -, rfl⟩ := Option.map_eq_some_iff.1 h
        simp
      · cases h
  · exact scrapeStep_outside t a m h

@[simp] theorem autoSteps_outside (t : IceTrigger) (fuel : Nat) (a : Act) (c : Option IceCause) :
    (autoSteps t fuel a c).1.s.outside = a.s.outside := by
  induction fuel generalizing a c with
  | zero => rfl
  | succ n ih =>
    unfold autoSteps
    split
    · rfl
    · rename_i m h
      rw [ih, autoStep_outside t a m h]

@[simp] theorem iceTransition_outside (t : IceTrigger) (a : Act) : (iceTransition t a).1.s.outside = a.s.outside := by
  unfold iceTransition
  split
  · split <;> simp
  · split
    · split <;> simp
    · simp

@[simp] theorem evaluateIce_outside (t : IceTrigger) (a : Act) : (evaluateIce t a).s.outside = a.s.outside := by
  have h := iceTransition_outside t a
  unfold evaluateIce
  dsimp only
  split <;> simp_all

@[simp] theorem evaluateSteps_outside (a : Act) : (evaluateSteps a).s.outside = a.s.outside := by
  unfold evaluateSteps
  dsimp only
  split
  · rw [evaluateIce_outside]
  · rfl

@[simp] theorem iceEvent_outside (t : IceTrigger) (a : Act) : (iceEvent t a).s.outside = a.s.outside := by simp [iceEvent]

@[simp] theorem recomputeScore_outside (a : Act) : (recomputeScore a).1.s.outside = a.s.outside := by
  unfold recomputeScore
  split
  · rfl
  · split <;> simp

@[simp] theorem climateLost_outside (a : Act) : (climateLost a).s.outside = a.s.outside := rfl

@[simp] theorem arcAppended_outside (a : Act) : (arcAppended a).s.outside = a.s.outside := by
  have h := recomputeScore_outside a
  unfold arcAppended
  split <;> simp_all

@[simp] theorem heaterLost_outside (a : Act) : (heaterLost a).s.outside = a.s.outside := rfl

@[simp] theorem setInhibit_outside (on : Bool) (a : Act) : (setInhibit on a).s.outside = a.s.outside := by
  unfold setInhibit
  split <;> simp

/-! ## Route (07) -/

@[simp] theorem handOff_outside (src : Source) (x : Action) (e : Option Nat) (a : Act) :
    (handOff src x e a).1.s.outside = a.s.outside := by
  have h := lowerBoth_outside .vehicle .orderly a
  unfold handOff
  split
  · simp
  · split
    simp_all
  · simp
  · simp

/-- The flush of a collection leaves the Position Record. -/
@[simp] theorem flushSource_position (src : Source) (r : Route) : (flushSource src r).position = r.position := by
  cases src <;> rfl

@[simp] theorem fire_outside (src : Source) (x : Action) (t : Option Trigger) (a : Act) :
    (fire src x t a).1.s.outside = a.s.outside := by
  have h := handOff_outside src x (estimate a.s) (a.modPr fun r => { r with fired := r.fired + 1 })
  rw [Act.modPr_outside _ _ rfl] at h
  unfold fire
  dsimp only
  split
  · simp_all
  · rw [placeReport_outside, Act.modPr_outside _ _ (flushSource_position _ _)]
    simp_all

theorem fire_eq_outside {src : Source} {x : Action} {t : Option Trigger} {a b : Act} {ok : Bool}
    (e : fire src x t a = (b, ok)) : b.s.outside = a.s.outside := by
  have h := fire_outside src x t a
  rwa [e] at h

@[simp] theorem dropHead_outside (a : Act) : (dropHead a).s.outside = a.s.outside := rfl

@[simp] theorem evaluateHead_outside (fuel : Nat) (a : Act) : (evaluateHead fuel a).s.outside = a.s.outside := by
  induction fuel generalizing a with
  | zero => rfl
  | succ n ih =>
    unfold evaluateHead
    split
    · rfl
    · rename_i e _ _
      split
      · rfl
      · split
        · split <;> rename_i h <;> have g := fire_eq_outside h <;> simp_all
        · rfl

@[simp] theorem evaluateQueue_outside (a : Act) : (evaluateQueue a).s.outside = a.s.outside := by
  unfold evaluateQueue
  split <;> simp

@[simp] theorem routeStandby_outside (a : Act) : (routeStandby a).s.outside = a.s.outside := rfl

/-! ## The cascade -/

/-- A block that takes a note leaves the outside alone. -/
@[simp] theorem takeNote_outside (n : Note) (a : Act) : (takeNote n a).s.outside = a.s.outside := by
  cases n <;> simp [takeNote]

/-- The next note leaves the outside alone. -/
@[simp] theorem takeNext_outside (a : Act) : (takeNext a).s.outside = a.s.outside := by
  unfold takeNext
  split
  · rw [takeNote_outside, Act.setChoices_outside]
  · rfl

/-- What the blocks make of what they are told leaves the outside alone. -/
@[simp] theorem settle_outside (fuel : Nat) (a : Act) : (settle fuel a).s.outside = a.s.outside := by
  induction fuel generalizing a with
  | zero => rfl
  | succ n ih =>
    unfold settle
    split
    · rfl
    · rw [ih, takeNext_outside]

/-- While the transmitter is sending, a completed act is the act with its readers told. -/
theorem complete_of_sending (a : Act) (h : Sending a.s) : complete a = settle noteBound a := by
  have hs : Sending (settle noteBound a).s := by
    unfold Sending at *
    rw [show (settle noteBound a).s.ru.sending = a.s.ru.sending from congrArg Outside.sending (settle_outside noteBound a)]
    exact h
  simp [complete, taken_of_sending _ hs]

/-- While the transmitter is sending, completing an act leaves the outside alone. -/
theorem complete_outside (a : Act) (h : Sending a.s) : (complete a).s.outside = a.s.outside := by
  rw [complete_of_sending a h, settle_outside]

end Sys2Proof.Machine
end

