-- ==== Sys2Proof/Tests/Slice0.lean ====
section
/-! SUPPORT. The model's own tests: the well-formedness smoke, the frames of the links, one step of each command against the
spec's worked examples and rules, and for each statement with hypotheses a state and operands that meet them. -/

namespace Sys2Proof.Tests

open Sys2Proof Sys2Proof.Machine

/-! ## Well-formedness: an ill-formed command for each check -/

theorem test_wf_refuses_sequence : (Instr.restart 256).wf = false := by decide
theorem test_wf_refuses_profile : (Instr.panRaise 0 .a .collect 256).wf = false := by decide
theorem test_wf_refuses_announced_kind : (Instr.announce 0 256 0).wf = false := by decide
theorem test_wf_refuses_serial : (Instr.announce 0 0 4294967296).wf = false := by decide
theorem test_wf_refuses_position : (Instr.position 4294967296 0 0).wf = false := by decide
theorem test_wf_refuses_speed : (Instr.position 0 65536 0).wf = false := by decide
theorem test_wf_refuses_quality : (Instr.position 0 0 256).wf = false := by decide
theorem test_wf_refuses_sample : (Instr.cell 0 0 false (32768 :: List.replicate 15 0) 0).wf = false := by decide
theorem test_wf_refuses_sample_count : (Instr.cell 0 0 false (List.replicate 15 0) 0).wf = false := by decide
theorem test_wf_refuses_cell_current : (Instr.cell 0 0 false (List.replicate 16 0) 65536).wf = false := by decide
theorem test_wf_refuses_status_length : (Instr.headStatus 0 (List.replicate 238 0)).wf = false := by decide +kernel
theorem test_wf_refuses_empty_head_command : (Instr.headCommand 0 .aux1 []).wf = false := by decide
theorem test_wf_refuses_long_head_command : (Instr.headCommand 0 .aux1 (List.replicate 240 0)).wf = false := by decide +kernel
theorem test_wf_refuses_long_block : (Instr.loadTableOnly 0 0 (List.replicate 239 0)).wf = false := by decide +kernel
theorem test_wf_refuses_raise_position : (Instr.changeoverStart 0 3 (some 4294967296)).wf = false := by decide
theorem test_wf_refuses_action_tag : (Instr.markerLoad 0 0 [.reportMark 256]).wf = false := by decide
theorem test_wf_refuses_trigger :
    (Instr.queueAppend 0 [{ action := .lowerAll, trigger := .onMarker 256 }]).wf = false := by decide
theorem test_wf_takes_the_largest : (Instr.position 4294967295 65535 255).wf = true := by decide

/-! ## Frames (11, Frame layouts) -/

/-- The check value of the CRC that Frame layouts describe, over the ASCII digits 1 to 9. -/
theorem test_crc_check_value : (crc16 [0x31, 0x32, 0x33, 0x34, 0x35, 0x36, 0x37, 0x38, 0x39]).toNat = 0x29B1 := by decide +kernel

/-- Bytes with their CRC, its high byte first. -/
def framedBytes (bytes : List Byte) : List Byte := bytes ++ put16 (crc16 bytes).toNat

theorem test_frame_position : vehicleFrame (framedBytes [0x01, 0, 9, 7, 0x00, 0x12, 0xD4, 0x50, 0x20, 0x8D, 0]) =
    .position 1234000 8333 0 := by decide +kernel
theorem test_frame_pan_raise : vehicleFrame (framedBytes [0x02, 0, 5, 4, 0x10, 1, 1, 3]) = .panRaise 5 .b .scrape 3 := by
  decide +kernel
theorem test_frame_load_only : vehicleFrame (framedBytes [0x02, 4, 8, 5, 0x01, 6, 1, 40, 0]) = .loadTableOnly 8 6 [1, 40, 0] := by
  decide +kernel
theorem test_frame_queue_append :
    vehicleFrame (framedBytes [0x02, 0, 1, 18, 0x30, 2, 3, 0, 0x00, 0x12, 0xD6, 0x44, 7, 0, 1, 0, 3, 1, 0x00, 0x12, 0xDC, 0xE8]) =
      .queueAppend 1 [{ action := .reportMark 7, trigger := .atPosition 1234500 },
                      { action := .changeover 3 (some 1236200), trigger := .onMarker 0 }] := by decide +kernel
theorem test_frame_head_command : vehicleFrame (framedBytes [0x03, 0, 2, 4, 0, 0, 0, 1]) = .headCommand 2 .switchgear [0, 0, 1] := by
  decide +kernel
theorem test_frame_unknown_code : vehicleFrame (framedBytes [0x02, 0, 3, 1, 0x60]) = .unknownRequest 3 0x60 := by decide +kernel
theorem test_frame_bad_length : vehicleFrame (framedBytes [0x02, 0, 3, 2, 0x05]) = .vlBadFrame := by decide
theorem test_frame_bad_crc : vehicleFrame [0x02, 0, 3, 1, 0x05, 0, 0] = .vlBadFrame := by decide +kernel
theorem test_frame_announce : headFrame 2 (framedBytes [0x10, 0, 0, 5, 17, 0x00, 0x00, 0x9D, 0x77]) = .announce 2 17 40311 := by
  decide +kernel
theorem test_frame_head_status : headFrame 1 (framedBytes [0x11, 0, 0, 3, 0x03, 0xE8, 1]) = .headStatus 1 [0x03, 0xE8, 1] := by
  decide +kernel
theorem test_frame_cell : headFrame 0 (framedBytes ([0x12, 0, 0, 36, 2, 1, 0x80, 0x00] ++ List.replicate 30 0xFF ++ [0x02, 0x76])) =
    .cell 0 2 true (-32768 :: List.replicate 15 (-1)) 630 := by decide +kernel

/-! ## A part in service -/

/-- A HEAD_DIRECTORY record. -/
def dirRecord (role : Role) (port kind silence : Nat) (f : Forwarding) : DirectoryRecord :=
  { role := .named role, port, kind, silence, forwarding := .named f, access := .named .full }

/-- The port of each role, with the announced kind 16 more. -/
def directory : List DirectoryRecord :=
  [dirRecord .line 0 16 50 .none, dirRecord .panA 1 17 200 .none, dirRecord .switchgear 2 18 100 .changes,
   dirRecord .panB 3 19 200 .none, dirRecord .heater 4 20 1000 .none, dirRecord .climate 5 21 5000 .all,
   dirRecord .aux1 6 22 1000 .all]

/-- The SYSTEM record with the figures of 02's worked example. -/
def sysRecord (code : Nat) (vac dc f : Nat × Nat) (selector : Selector) (set : PanSet) (p : Pan) (persistence : Nat) :
    SystemRecord :=
  { code, vacLo := vac.1, vacHi := vac.2, dcLo := dc.1, dcHi := dc.2, fLo := f.1, fHi := f.2, selector := .named selector,
    panSet := .named set, preferred := .named p, raiseProfile := 1, persistence, iMax := 4000, budget := 120,
    scrapePermitted := .named true, scrapeSpeed := some 6944, scrapeProfile := some 3 }

/-- The SYSTEM table of 02's worked example. -/
def systems : List SystemRecord :=
  [sysRecord 1 (13000, 19500) (0, 500) (4500, 5500) .ac .a .a 3, sysRecord 2 (8000, 12500) (0, 500) (1500, 1850) .ac .a .a 4,
   sysRecord 3 (0, 800) (1500, 2600) (0, 0) .dc .b .b 2, sysRecord 4 (0, 800) (700, 1400) (0, 0) .dc .b .b 2]

/-- The profiles of the worked examples of 03 and 09. -/
def profileTable : List ProfileRecord :=
  [{ number := 1, stages := [⟨1500, 1000⟩, ⟨3000, 400⟩], holdBase := 3200, gain := 8, maxPressure := 4200, timeout := 8000 },
   { number := 3, stages := [⟨1200, 600⟩], holdBase := 1000, gain := 0, maxPressure := 4200, timeout := 5000 }]

/-- An INPUT_MAP record with the active level HIGH. -/
def inRecord (line : Nat) (f : InputFunction) (sense : Sense) : InputMapRecord :=
  { line, function := .named f, filter := 1, active := .named .high, sense := .named sense }

/-- The lines of the part in service; line 4 is that of 05's worked example. -/
def inputTable : List InputMapRecord :=
  [inRecord 0 .panAUp .none, inRecord 1 .panADown .none, inRecord 2 .panBUp .none, inRecord 3 .panBDown .none,
   inRecord 4 .marker0 .toActive, inRecord 5 .roofAccess .none, inRecord 6 .stripA .none, inRecord 7 .marker1 .toActive,
   inRecord 8 .general .both]

/-- A settled line. -/
def settledLine (level : Level) : InputRecord := { raw := level, filtered := settledTo level, deadline := none }

/-- A pantograph that is DOWN. -/
def panDown : PanRecord := { state := .down, causes := [], primary := none, phase := none, vent := false }

/-- PAN_A of 03's worked example, UP in role COLLECT. -/
def panUp : PanRecord :=
  { panDown with state := .up, role := some .collect, profile := some 1, raiseOrigin := some .vehicle, lastHold := some 3866 }

/-- A frame that the transmitter is sending. -/
def aFrame : UpFrame := { cls := .telemetry, flags := 0, seq := 0, payload := [] }

/-- A PRESENT role. -/
def presentRole (deadline : Nat) : RoleRecord := { presence := .present, silenceDeadline := some deadline }

/-- A LOCKED port whose head has announced its kind. -/
def lockedPort (kind : Nat) : PortRecord := { link := .locked, kind := some kind, serial := some 40311 }

/-- The tables of the part in service. -/
def tables : Tables :=
  { directory := { load := .valid, records := directory }, gate := { load := .valid, records := [] }
    system := { load := .valid, records := systems }, profiles := { load := .valid, records := profileTable }
    inputs := { load := .valid, records := inputTable }, settings := { load := .valid, records := [defaultSettings] }
    heater := { load := .valid, records := [⟨1, 40, .named false⟩, ⟨2, 30, .named true⟩, ⟨3, 20, .named true⟩] }
    climate := { load := .valid, records := [⟨-500, -81, 0, 45⟩, ⟨-80, 10, 85, 35⟩, ⟨-80, 10, 0, 15⟩] } }

/-- The part in service, in RUN: both pantographs down, the breaker open, the selector at AC, the heads of seven roles PRESENT,
the transmitter sending. -/
def board : State :=
  { pans := { a := panDown, b := panDown }
    sg := { mb := { reported := .opened }, ss := { reported := .ac }, isoA := { reported := .closed },
            isoB := { reported := .opened }, es := { reported := .opened }, mbTrip := false }
    inputs := #v[settledLine .low, settledLine .high, settledLine .low, settledLine .high, settledLine .low, settledLine .low,
                 settledLine .low, settledLine .low, settledLine .low, settledLine .low, settledLine .low, settledLine .low]
    ports := #v[lockedPort 16, lockedPort 17, lockedPort 18, lockedPort 19, lockedPort 20, lockedPort 21, lockedPort 22, {}]
    roles := #v[presentRole 100, presentRole 200, presentRole 200, presentRole 50, presentRole 1000, presentRole 5000,
                presentRole 1000, {}]
    vl := { link := .locked, mode := .run, tables }
    ru := { sending := some aFrame } }

/-- The board in STANDBY. -/
def yard : State := { board with vl := { board.vl with mode := .standby } }

/-- The board with its transmitter free. -/
def idleUp (s : State) : State := { s with ru := { s.ru with sending := none } }

/-- The state after a command that takes a next state. -/
def after (c : Instr) (s : State) : State :=
  match exec c s with
  | .next t => t
  | .fault _ => s
  | .refused _ => s

/-- The results of the replies that wait, with their data. -/
def answers (s : State) : List (Result × List Byte) := s.vl.replies.map fun r => (r.result, r.data)

/-- The place of each role's record. -/
def presenceOf (s : State) (r : Role) : Presence := (roleOf s r).presence

/-- A board with PAN_A UP in COLLECT. -/
def collecting : State := { board with pans := { board.pans with a := panUp } }

/-- A board with the breaker reported CLOSED and PAN_A UP in COLLECT. -/
def closedUp : State := { collecting with sg := { board.sg with mb := { reported := .closed } } }

/-- The POSITION record of 07's worked example, a frame at 0. -/
def placed (last : Nat) : PositionRecord :=
  { last := some last, speed := 8333, frameTime := some 0, frameStale := some 1000, fresh := true, staleDeadline := some 1000 }

/-- A board with a position. -/
def located (s : State) (last : Nat) : State := { s with pr := { s.pr with position := placed last } }

/-! ## One step of each command -/

/-- R93: the raw level of line 4 is as read at reset, and its filter deadline lies 64 ms after. -/
theorem test_reset_reads_lines : (after (.powerOnReset 0x10) board).inputs[(4 : Fin 12)] = { raw := .high } := by decide
/-- R93: OUT0 to OUT2 are asserted by open contacts, OUT3 is released. -/
theorem test_reset_outputs : ([0, 1, 2, 3] : List (Fin 4)).map (contactClosed (after (.powerOnReset 0) board)) =
    [false, false, false, false] := by decide
theorem test_power_loss_opens_trip : contactClosed board 2 = true ∧ contactClosed (after .powerLoss board) 2 = false := by decide

theorem test_light_appears : (after (.headLinkLightAppears 7) { board with ports := board.ports.set 7 { link := .down } }).ports[7].link =
    .acquiring := by decide
theorem test_lock_achieved : (after (.headLinkLockAchieved 7) board).ports[7].link = .locked := by decide
/-- R174, R180: lock lost takes the role. -/
theorem test_lock_lost : (after (.headLinkLockLost 2) board).ports[2] = { link := .acquiring }
    ∧ presenceOf (after (.headLinkLockLost 2) board) .switchgear = .lost := by decide
theorem test_light_lost : (after (.headLinkLightLost 6) board).ports[6].link = .down
    ∧ presenceOf (after (.headLinkLightLost 6) board) .aux1 = .lost := by decide
/-- R175: the eighth bad frame in a row, and the seventh. -/
theorem test_eighth_bad_frame :
    (after (.headBadFrame 6) { board with ports := board.ports.set 6 { lockedPort 22 with badRun := 7 } }).ports[6].link = .acquiring
    ∧ (after (.headBadFrame 6) { board with ports := board.ports.set 6 { lockedPort 22 with badRun := 6 } }).ports[6].badRun = 7 := by
  decide
/-- 10, worked example: the kind repeated changes nothing; kind 18 on a port that expects 17 is BARRED. -/
theorem test_announce_repeated : (after (.announce 1 17 40311) board).ports[1] = lockedPort 17 := by decide
theorem test_announce_wrong_kind : (after (.announce 1 18 40311) board).ports[1].link = .barred
    ∧ presenceOf (after (.announce 1 18 40311) board) .panA = .lost := by decide
/-- 10, worked example at 320: the STATUS makes the role PRESENT, its deadline 100 ms on, and is forwarded. -/
theorem test_status_returns_role :
    (let s := after (.headStatus 2 [0, 0, 1, 0, 0])
        { board with now := 320, roles := board.roles.set 0 { presence := .lost } }
     (roleOf s .switchgear).presence = .present ∧ (roleOf s .switchgear).silenceDeadline = some 420
       ∧ s.ru.telemetry.length = 1) := by decide
/-- 09, worked example: the base points, the arc count and the score. -/
theorem test_ice_score :
    (let arc (p : Nat) : ArcEntry := { position := some p, length := 3, state := .system 1 }
     let s : State := { board with
        lm := { arcs := [arc 8402115, arc 8411300, arc 8415500, arc 8428300] }
        pr := { position := { (placed 8430000) with speed := 0 } } }
     basePoints s (climateValues [0xFF, 0xE2, 92, 0, 0, 0, 0]) = 35 ∧ arcsInWindow s = 3 ∧ iceScore defaultSettings 35 3 = 50) := by
  decide
/-- 01, worked example: cell 2 where 1 is expected. -/
theorem test_cell_gap :
    (let s : State := { board with lm := { expected := some 1, gapCount := 3, acc := { cells := 14 } } }
     let t := after (.cell 0 2 false (List.replicate 16 2000) 630) s
     t.lm.gapCount = 4 ∧ t.lm.expected = some 3 ∧ t.lm.acc.cells = 1) := by decide
/-- 02, worked example: a live cell ends a dead run of three cells. -/
theorem test_cell_contact_loss :
    (let s : State := { collecting with lm := { expected := some 9, confirmed := .system 1, deadRun := 3
                                                runStart := some { eligible := true, position := some 8402115, state := .system 1 } } }
     let t := after (.cell 0 9 false (List.replicate 16 15880) 0) s
     t.lm.arcs = [{ position := some 8402115, length := 3, state := .system 1 }] ∧ t.lm.deadRun = 0) := by decide
/-- 01, worked examples: the 15 kV 16.7 Hz window, and the second 3 kV DC window. -/
theorem test_window_15kv :
    windowResult 50 { cells := 50, index := 800, s1 := 4000, s2 := 80000020000, crossing := .below, count := 7, first := some 52,
                      last := some 772, currentSum := 31500 } =
      { m := 5, vac := 10000, f := 1666, c := 7, iw := 630, sat := false } := by decide
/-- 10, worked example at 140: the switchgear role is LOST, and every device UNKNOWN. -/
theorem test_silence_loses_switchgear :
    (let t := after (.roleSilenceExpiry .switchgear) board
     presenceOf t .switchgear = .lost ∧ t.now = 100 ∧ t.sg.mb.reported = .unknown ∧ t.sg.es.reported = .unknown) := by decide

/-- 03, worked example at 0. -/
theorem test_pan_raise :
    (let t := after (.panRaise 1 .a .collect 1) board
     t.pans.a.state = .raising ∧ t.pans.a.stageDeadline = some 1500 ∧ t.pans.a.raiseDeadline = some 8000
       ∧ t.sent = [{ port := 1, payload := [1, 0x05, 0xDC, 0x03, 0xE8] }] ∧ answers t = [(.accepted, [])]) := by decide
/-- R45: an earthing switch that is not OPEN refuses, named after ROOF_ACCESS. -/
theorem test_pan_raise_refused :
    answers (after (.panRaise 1 .a .collect 1) { board with sg := { board.sg with es := { reported := .earthed } } }) =
      [(.interlock, [33])] := by decide
/-- PAN_A in RAISING, as at 0 of 03's worked example. -/
def raising : State :=
  { board with pans := { board.pans with a := { panUp with
      state := .raising, stage := some 0, stageDeadline := some 1500, raiseDeadline := some 8000, lastHold := none } } }
theorem test_stage_deadline :
    (let t := after (.stageDeadlineExpiry .a) raising
     t.pans.a.stage = some 1 ∧ t.pans.a.stageDeadline = some 5250
       ∧ t.sent = [{ port := 1, payload := [1, 0x0B, 0xB8, 0x01, 0x90] }]) := by decide
theorem test_raise_deadline :
    (let t := after (.raiseDeadlineExpiry .a) { raising with inputs := raising.inputs.set 1 (settledLine .low) }
     t.pans.a.state = .lowering ∧ t.pans.a.causes = [.raiseTimeout] ∧ t.pans.a.phase = some .venting ∧ t.pans.a.vent = true
       ∧ t.pans.a.lowerDeadline = some 16000) := by decide
/-- 03, worked example at 5610: the UP contact. -/
theorem test_up_contact :
    (let s : State := { raising with
        now := 5610, inputs := raising.inputs.set 0 { raw := .high, filtered := .low, deadline := some 5610 }
        pr := { position := { (placed 0) with last := some 0 } } }
     let t := after (.filterDeadlineExpiry 0) s
     t.pans.a.state = .up ∧ t.pans.a.lastHold = some 3866 ∧ t.sent = [{ port := 1, payload := [2, 0x0F, 0x1A] }]) := by decide
/-- 03, the second worked example at 0: MB is asked to open, and the phase is AWAIT_MB. -/
theorem test_pan_lower :
    (let t := after (.panLower 1 (.one .a)) { closedUp with inputs := closedUp.inputs.set 1 (settledLine .low) }
     t.pans.a.phase = some .awaitMb ∧ t.pans.a.ventGuard = some 300 ∧ t.pans.a.lowerDeadline = some 8000
       ∧ t.sg.mb.target = some .opened ∧ t.sg.mb.move.map (·.origin) = some .pan ∧ t.pans.a.vent = false) := by decide
/-- PAN_A lowering in AWAIT_MB, its DOWN contact inactive. -/
def awaiting : State :=
  { closedUp with
    inputs := closedUp.inputs.set 1 (settledLine .low)
    pans := { closedUp.pans with a := { panDown with
      state := .lowering, causes := [.vehicle], primary := some .vehicle, phase := some .awaitMb, ventGuard := some 300
      lowerDeadline := some 8000 } } }
theorem test_vent_guard :
    (let t := after (.ventGuardExpiry .a) awaiting
     t.pans.a.phase = some .venting ∧ t.pans.a.ventGuard = none ∧ t.sent = [{ port := 1, payload := [3] }]) := by decide
/-- 03, the second worked example at 120: the strip switch. -/
theorem test_strip_escalates :
    (let t := (stripOn .a { s := awaiting }).s
     t.pans.a.phase = some .venting ∧ t.pans.a.causes = [.vehicle, .strip] ∧ t.pans.a.vent = true) := by decide
/-- R58: the lower deadline ends in FAULT with LOWER_TIMEOUT and the vent output asserted. -/
theorem test_lower_deadline :
    (let t := after (.lowerDeadlineExpiry .a) awaiting
     t.pans.a.state = .fault ∧ t.pans.a.latch = some .lowerTimeout ∧ t.pans.a.vent = true ∧ t.now = 8000) := by decide
/-- R64. -/
theorem test_clear_fault :
    (let t := after (.clearPanFault 1 .a) { board with pans := { board.pans with a := { panDown with state := .fault, latch := some .strip } } }
     t.pans.a = panDown ∧ answers t = [(.done, [])]) := by decide
theorem test_clear_fault_not_active : answers (after (.clearPanFault 1 .a) board) = [(.notActive, [])] := by decide

/-- 04, worked example at 140: the open is given up. -/
theorem test_move_given_up :
    (let mb : Device := { reported := .closed, target := some .opened, move := some { origin := .protection, deadline := 140, timeout := 80 } }
     let t := after (.moveDeadlineExpiry .mb) { board with sg := { board.sg with mb } }
     t.sg.mb = { reported := .closed, target := some .opened, mark := some .opened } ∧ t.sg.mbTrip = true ∧ t.now = 140) := by decide
/-- 04, worked example at 420: the STATUS ends the move, clears the mark, and releases MB_TRIP. -/
theorem test_move_ends_at_status :
    (let mb : Device := { reported := .opened, target := some .opened, mark := some .opened
                          move := some { origin := .vehicle, deadline := 480, timeout := 80 } }
     let t := after (.headStatus 2 [0, 0, 1, 0, 0]) { board with now := 420, sg := { board.sg with mb, mbTrip := true } }
     t.sg.mb = { reported := .opened, target := some .opened } ∧ t.sg.mbTrip = false) := by decide

/-- 05, worked example at 2 and at 3. -/
theorem test_raw_change_begins_wait :
    (after (.inputRawChange 4 .high) { board with now := 2 }).inputs[(4 : Fin 12)] =
      { raw := .high, filtered := .low, deadline := some 6 } := by decide
theorem test_raw_change_bounces :
    (after (.inputRawChange 4 .low)
        { board with now := 3, inputs := board.inputs.set 4 { raw := .high, filtered := .low, deadline := some 6, bounce := 3 } }
      ).inputs[(4 : Fin 12)] = { raw := .low, filtered := .low, deadline := none, bounce := 4 } := by decide
/-- 05, worked example at 9, with an action in M0: the edge is latched and fires it. -/
theorem test_filter_expiry_latches :
    (let s : State := { board with
        inputs := board.inputs.set 4 { raw := .high, filtered := .low, deadline := some 9, bounce := 4, latch := .armed }
        pr := { m0 := [.scrapeInhibit true, .reportMark 9], appended := 2 } }
     let t := after (.filterDeadlineExpiry 4) s
     t.inputs[(4 : Fin 12)].latch = .latched .toActive none ∧ t.pr.m0 = [.reportMark 9] ∧ t.pr.fired = 1 ∧ t.ice.inhibit = true) := by
  decide
theorem test_input_arm : (after (.inputArm 1 4) board).inputs[(4 : Fin 12)].latch = .armed
    ∧ answers (after (.inputArm 1 9) board) = [(.range, [])] := by decide
/-- 05, worked example: the clear returns the latched TO_ACTIVE edge, here with the position 256. -/
theorem test_input_clear :
    (let t := after (.inputClear 1 4)
        { board with inputs := board.inputs.set 4 { settledLine .low with latch := .latched .toActive (some 256) } }
     t.inputs[(4 : Fin 12)].latch = .disarmed ∧ answers t = [(.done, [1, 0, 1, 0, 0, 1, 0])]) := by decide

/-- R99: a vehicle close in a part whose line state is not a system code fails at H1.6. -/
theorem test_close_refused_at_h16 :
    (after (.headCommand 7 .switchgear [0, 0, 1]) closedUp).ru.slots[(33 : Fin 44)].report =
      some (.gate .switchgear (some .mbClose) .vehicle (some 7) .refused (some .h16) none false) := by decide
/-- R98: a vehicle open is sent in the same state, and becomes the move in flight. -/
theorem test_vehicle_open_sent :
    (let t := after (.headCommand 7 .switchgear [0, 0, 0]) closedUp
     t.sent = [{ port := 2, payload := [0, 0, 0] }] ∧ t.sg.mb.move = some { origin := .vehicle, deadline := 80, timeout := 80 }) := by
  decide
/-- R108. -/
theorem test_hold_expires :
    (let c : Command := { role := .aux1, content := .aux, payload := [1], origin := .vehicle, seq := some 4 }
     let t := after (.holdDeadlineExpiry .aux1)
        { board with holds := board.holds.set 6 (some { command := c, seq := 4, deadline := 500, failed := .positionFresh }) }
     holdOf t .aux1 = none ∧ t.ru.slots[(39 : Fin 44)].report =
        some (.gate .aux1 (some .aux) .vehicle (some 4) .refused (some .expired) (some .positionFresh) false)) := by decide

/-- 07, worked example at 800: the jump. -/
theorem test_position_jump :
    (let e (p : Nat) : QueueEntry := { action := .reportMark 1, trigger := .atPosition p }
     let s : State := { board with
        now := 800, pr := { position := { (placed 1234499) with frameTime := some 600 }, queue := [e 1235000, e 1240000]
                            appended := 3, fired := 1, triggerTimer := some 1202 } }
     let t := after (.position 1237000 8333 0) s
     t.pr.position.last = some 1237000 ∧ t.pr.position.jumps = 1 ∧ t.pr.queue = [] ∧ t.pr.flushed = 2 ∧ t.pr.triggerTimer = none
       ∧ t.ru.slots[(4 : Fin 44)].report = some (.queueFlushed (.jump 2 1234665 1237000))) := by decide
theorem test_position_stale :
    (let t := after .staleDeadlineExpiry (located board 1234000)
     t.pr.position.fresh = false ∧ t.pr.position.last = some 1234000 ∧ t.now = 1000) := by decide
/-- 07, worked example at 10. -/
theorem test_queue_append :
    (let t := after (.queueAppend 1 [{ action := .reportMark 7, trigger := .atPosition 1234500 },
                                     { action := .changeover 3 (some 1236200), trigger := .atPosition 1235000 },
                                     { action := .scrapeInhibit true, trigger := .onMarker 0 }])
        { located board 1234000 with now := 10 }
     t.pr.queue.length = 3 ∧ t.pr.triggerTimer = some 601 ∧ t.pr.appended = 3 ∧ answers t = [(.done, [3])]) := by decide
/-- 07, worked example at 602: E1 fires, and the timer is set for E2. -/
theorem test_trigger_timer :
    (let s : State := { board with
        pr := { position := { (placed 1234499) with frameTime := some 600 }, triggerTimer := some 602, appended := 2
                queue := [{ action := .reportMark 7, trigger := .atPosition 1234500 },
                          { action := .changeover 3 (some 1236200), trigger := .atPosition 1235000 }] } }
     let t := after .triggerTimerExpiry s
     t.pr.queue.length = 1 ∧ t.pr.fired = 1 ∧ t.pr.triggerTimer = some 1202
       ∧ t.ru.slots[(43 : Fin 44)].report = some (.reportMark 7 .queue (some 1234500))) := by decide
/-- 07, worked example at 40 and at 850. -/
theorem test_marker_load_in_use :
    answers (after (.markerLoad 1 0 [.lowerAll])
      { board with pr := { queue := [{ action := .scrapeInhibit true, trigger := .onMarker 0 }], appended := 1 } }) =
      [(.markerInUse, [])] := by decide
theorem test_marker_load :
    (let t := after (.markerLoad 1 0 [.scrapeInhibit true, .reportMark 9]) board
     t.pr.m0 = [.scrapeInhibit true, .reportMark 9] ∧ t.pr.appended = 2 ∧ answers t = [(.done, [2])]) := by decide
theorem test_queue_flush :
    (let t := after (.queueFlush 1) { board with pr := { queue := [{ action := .lowerAll, trigger := .onMarker 0 }], appended := 1 } }
     t.pr.queue = [] ∧ t.pr.flushed = 1 ∧ answers t = [(.done, [1])]) := by decide
theorem test_marker_flush_already : answers (after (.markerFlush 1 1) board) = [(.already, [])] := by decide

/-- R134, R136, R139: a start for code 3 opens the breaker. -/
theorem test_changeover_start :
    (let t := after (.changeoverStart 1 3 none) { closedUp with lm := { closedUp.lm with confirmed := .system 1 } }
     t.co.step = .opening ∧ t.co.oldSystem = some 1 ∧ t.co.requested = [(.mb, .opened)] ∧ answers t = [(.accepted, [])]) := by decide
/-- R135. -/
theorem test_changeover_noop :
    answers (after (.changeoverStart 1 1 none) { closedUp with lm := { closedUp.lm with confirmed := .system 1 } }) = [(.noop, [])] := by
  decide
/-- A changeover that waits for its raise position, the breaker open. -/
def waiting : State :=
  { located board 1000 with
    co := { step := .awaitRaise, target := some 1, raisePosition := some 1416, usable := some true, newPan := some .a
            origin := some .vehicle, raiseTimer := some 500 } }
/-- R142: at 500 ms and 8333 cm/s the estimate is 1416, and the raise begins. -/
theorem test_raise_timer :
    (let t := after .raiseTimerExpiry waiting
     t.co.step = .raisingNew ∧ t.pans.a.state = .raising ∧ t.pans.a.raiseOrigin = some .sequencer) := by decide
theorem test_proceed : (after (.changeoverProceed 1) waiting).co.step = .raisingNew
    ∧ answers (after (.changeoverProceed 1) board) = [(.notActive, [])] := by decide
/-- R146. -/
theorem test_verify_deadline :
    (after .verifyDeadlineExpiry
      { board with co := { step := .verifying, target := some 2, usable := some true, verifyDeadline := some 20000 } }).co.step = .halted := by
  decide
/-- R150 to R152: the breaker being OPEN and no pantograph rising, the abort ends at once. -/
theorem test_changeover_abort :
    (let t := after (.changeoverAbort 1) waiting
     t.co.step = .idle ∧ t.co.lastResult = some (.aborted .vehicle) ∧ t.co.abortStep = some .awaitRaise
       ∧ answers t = [(.accepted, [])]) := by decide

/-- R161, R162: AUTO in RUN with its tables VALID: WATCH. -/
theorem test_ice_mode : answers (after (.iceMode 1 1) board) = [(.done, [1])]
    ∧ answers (after (.iceMode 1 3) board) = [(.range, [])] := by decide
/-- 09, worked example: the allocation. -/
theorem test_heater_allocation :
    (let candidates : List HeaterRecord := [⟨1, 40, .named false⟩, ⟨2, 30, .named true⟩, ⟨3, 20, .named true⟩]
     firstFit 75 candidates = 0b011 ∧ firstFit 15 candidates = 0 ∧ firstFit 120 candidates = 0b111
       ∧ firstFit 120 (candidates.drop 1) = 0b110) := by decide

theorem test_vl_light : (after .vlLightAppears { board with vl := { board.vl with link := .down } }).vl.link = .acquiring := by decide
theorem test_vl_lock : (after .vlLockAchieved State.reset).vl.link = .locked := by decide
theorem test_vl_lock_lost : (after .vlLockLost board).vl.link = .acquiring := by decide
theorem test_vl_light_lost : (after .vlLightLost State.reset).vl.link = .down := by decide
theorem test_vl_bad_frame : (after .vlBadFrame { board with vl := { board.vl with badRun := 7 } }).vl.link = .acquiring
    ∧ (after .vlBadFrame { board with vl := { board.vl with badRun := 6 } }).vl.badRun = 7 := by decide
/-- R190: under the policy LOWER silence lowers the pantograph. -/
theorem test_vl_silence :
    (let t := after .vlSilenceExpiry { collecting with vl := { collecting.vl with active := true, silenceDeadline := some 500 } }
     t.vl.active = false ∧ t.pans.a.raised = false ∧ t.now = 500) := by decide
/-- Eight replies wait. -/
def fullQueue : State :=
  { board with vl := { board.vl with replies := List.replicate 8 { seq := 1, code := 6, result := .done } } }
theorem test_request_discarded : (after .mgmtRequestDiscarded fullQueue).vl.replyOverrun = true := by decide
theorem test_request_at_full_queue : (after (.restart 1) fullQueue).vl.restartPending = false
    ∧ (after (.restart 1) fullQueue).vl.replies.length = 8 := by decide
theorem test_load_first :
    (let t := after (.loadTableFirst 1 6 [1, 40, 1]) yard
     t.vl.tables.heater = { load := .loading, records := [⟨1, 40, .named false⟩] } ∧ answers t = [(.accepted, [1])]) := by decide
theorem test_load_middle_out_of_sequence : answers (after (.loadTableMiddle 1 6 [1, 40, 1]) yard) = [(.sequence, [])] := by decide
/-- R167, R193: group 1 twice is a DUPLICATE at the second record. -/
theorem test_load_last :
    (let s : State := { yard with vl := { yard.vl with tables := { tables with heater := { load := .loading, records := [⟨1, 40, .named false⟩] } } } }
     (after (.loadTableLast 1 6 [2, 30, 0]) s).vl.tables.heater.load = .valid
       ∧ (after (.loadTableLast 1 6 [1, 30, 0]) s).vl.tables.heater.load = .invalid .duplicate 1) := by decide
theorem test_load_only :
    (let t := after (.loadTableOnly 1 6 [1, 40, 0, 2, 30, 1]) yard
     t.vl.tables.heater.load = .valid ∧ answers (after (.loadTableOnly 1 6 []) board) = [(.mode, [])]) := by decide
/-- R195: the load state VALID is place 2 without reason and index, then the number held and the list of records from the start
index on. -/
theorem test_read_table : answers (after (.readTable 1 6 2) board) = [(.done, [2, 0, 0, 3, 1, 3, 20, 0])] := by decide
theorem test_read_unknown_record : answers (after (.readRecord 1 12) board) = [(.range, [])] := by decide
/-- R196: the checks pass in the yard; without GATE, NOT_READY names table 1. -/
theorem test_set_mode_run : (after (.setModeRun 1) yard).vl.mode = .run
    ∧ answers (after (.setModeRun 1) { yard with vl := { yard.vl with tables := { tables with gate := {} } } }) = [(.notReady, [1])] := by
  decide
/-- R65, R197: STANDBY lowers the pantograph. -/
theorem test_set_mode_standby : (after (.setModeStandby 1) collecting).vl.mode = .standby
    ∧ (after (.setModeStandby 1) collecting).pans.a.raised = false := by decide
theorem test_restart_waits : (after (.restart 1) board).vl.restartPending = true ∧ (after (.restart 1) board).vl.mode = .run := by
  decide
/-- R198: with the transmitter free the reply is taken, and the mode is STANDBY in the same act. -/
theorem test_restart_takes_effect :
    (let t := after (.restart 1) (idleUp board)
     t.ru.sending = some { cls := .reply, flags := 0, seq := 1, payload := [5, 0, 0] } ∧ t.vl.mode = .standby
       ∧ t.vl.restartPending = false) := by decide
theorem test_clear_counters : (after (.clearCounters 1) { board with lm := { gapCount := 9 } }).lm.gapCount = 0 := by decide
theorem test_status_timer : (after .statusTimerExpiry board).ru.statusDue = true
    ∧ (after .statusTimerExpiry board).ru.statusTimer = 200 := by decide
/-- 12, worked example at 3: the STATUS frame goes before the reports. -/
theorem test_transmitter_takes_status :
    (let s : State := { board with ru := { board.ru with statusDue := true } }
     (after .transmitterFree s).ru.sending.map (·.cls) = some .status ∧ (after .transmitterFree s).ru.upSequence = 1) := by decide
/-- R203: the link being down, nothing is taken. -/
theorem test_transmitter_waits_for_lock :
    (after .transmitterFree { board with vl := { board.vl with link := .acquiring }, ru := { board.ru with statusDue := true } }).ru.sending =
      none := by decide
theorem test_unknown_request : answers (after (.unknownRequest 1 0x60) board) = [(.range, [])] := by decide

/-! ## States and operands that meet the hypotheses of the statements -/

/-- The board is powered, its transmitter sends, and a management request finds it ready. -/
theorem board_ready : board.powered = true ∧ Sending board ∧ Ready board ∧ Ready yard ∧ Sending yard := by
  unfold Sending Ready; decide

/-- A sensed board, as a stated state asks: the transmitter sends and the part is powered. -/
theorem test_variants_ready : Sending raising ∧ Sending awaiting ∧ Sending closedUp ∧ Sending waiting ∧ Sending fullQueue
    ∧ Ready closedUp ∧ Ready waiting ∧ Ready collecting ∧ Sending collecting := by
  unfold Sending Ready; decide

theorem witness_step : ({ board with pending := [.powerLoss, .vlLightLost] } : State).pending = .powerLoss :: [.vlLightLost] := by
  decide
theorem witness_empty_queue : State.reset.pending = [] ∧ State.reset.powered = true ∧ dueNow State.reset = []
    ∧ dueNow { State.reset with now := 63 } = [] ∧ dueNow { State.reset with now := 64 } ≠ []
    ∧ ({ State.reset with powered := false } : State).pending = [] := by decide
theorem witness_power_on : State.reset.vl.tables.directory.load ≠ .valid ∧ loadOf tables 0 = .valid := by decide
theorem witness_power_loss : ({ board with powered := false } : State).powered = false
    ∧ ∀ levels, Instr.transmitterFree ≠ .powerOnReset levels :=
  ⟨rfl, fun _ h => Instr.noConfusion h⟩
theorem witness_queues_and_counters :
    WithinCapacities board ∧ QueueBalanced board ∧ step { board with pending := [.powerLoss] } = .next { board with powered := false } := by
  unfold WithinCapacities QueueBalanced
  exact ⟨by decide, by decide, rfl⟩
theorem witness_counts : CountsInRange board :=
  ⟨by decide, by decide, by decide, by decide, by decide, by decide, by intro r; cases r <;> decide, by decide, by decide, by decide⟩
theorem witness_markers : MarkersExclusive { board with pr := { m0 := [.lowerAll], appended := 1 } } := by
  unfold MarkersExclusive; decide
theorem witness_pantographs : PansInOrder collecting ∧ OneCollector collecting ∧ StandbyLowered collecting
    ∧ StandbyLowered yard :=
  ⟨fun p => by cases p <;> (unfold PanRecord.InOrder; decide), by unfold OneCollector; decide, fun h => absurd h (by decide),
   fun _ p => by cases p <;> decide⟩
theorem witness_links : PortsInOrder board ∧ RolesInOrder board ∧ SilenceInOrder board :=
  ⟨by unfold PortsInOrder; decide, fun r => by cases r <;> decide, by unfold SilenceInOrder; decide⟩
theorem witness_records : DevicesInOrder closedUp ∧ HoldsInOrder closedUp ∧ PositionInOrder (located closedUp 5)
    ∧ ChangeoverInOrder waiting ∧ IceInOrder closedUp :=
  ⟨fun d => by cases d <;> decide, ⟨by decide, by decide, fun r => by cases r <;> decide⟩, by unfold PositionInOrder; decide,
   by unfold ChangeoverInOrder; decide, by unfold IceInOrder; decide⟩

/-- Nothing runs on this board: every deadline but the roles' is absent, and here theirs are too. -/
def stillBoard : State := { board with roles := Vector.replicate 8 {} }
theorem witness_no_deadline : Sending stillBoard ∧ (∀ r, (roleOf stillBoard r).silenceDeadline = none)
    ∧ (∀ p, (panOf stillBoard p).stageDeadline = none ∧ (panOf stillBoard p).raiseDeadline = none
        ∧ (panOf stillBoard p).ventGuard = none ∧ (panOf stillBoard p).lowerDeadline = none)
    ∧ (∀ d, (devOf stillBoard d).move = none) ∧ (∀ line : Fin 12, stillBoard.inputs[line].deadline = none)
    ∧ (∀ r, holdOf stillBoard r = none) ∧ stillBoard.pr.position.staleDeadline = none ∧ stillBoard.pr.triggerTimer = none
    ∧ stillBoard.co.raiseTimer = none ∧ stillBoard.co.verifyDeadline = none ∧ stillBoard.vl.silenceDeadline = none :=
  ⟨by unfold Sending; decide, fun r => by cases r <;> decide, fun p => by cases p <;> decide, fun d => by cases d <;> decide,
   by decide, fun r => by cases r <;> decide, by decide, by decide, by decide, by decide, by decide⟩
theorem witness_families :
    Instr.cell 0 9 false [] 0 ∈ [Instr.headStatus 0 [], .cell 0 9 false [] 0] ∧ board.powered = true ∧ Sending board := by
  unfold Sending; decide

/-! ### Head links -/

/-- Port 7 has no role; the bad runs 6 and 7 stand either side of the eighth bad frame. -/
theorem witness_receiver : (∀ role, roleOfPort board 7 = some role → rolePresent board role = false)
    ∧ board.ports[7].link = .acquiring
    ∧ ¬ ({ lockedPort 22 with badRun := 7 } : PortRecord).badRun + 1 < 8
    ∧ ({ lockedPort 22 with badRun := 6 } : PortRecord).badRun + 1 < 8 :=
  ⟨fun r h => by simp [show roleOfPort board 7 = none by decide] at h, by decide, by decide, by decide⟩
theorem witness_role_lost : rolePresent board .aux1 = true ∧ (roleOf board .aux1).silenceDeadline = some 1000
    ∧ roleOfPort board 6 = some .aux1 ∧ board.ports[6].link = .locked
    ∧ 8 ≤ ({ lockedPort 22 with badRun := 7 } : PortRecord).badRun + 1 := by decide
theorem witness_announcement : board.ports[1].link = .locked ∧ board.ports[1].kind = some 17 ∧ board.ports[1].serial = some 40311
    ∧ (∀ d, directoryOfPort board 1 = some d → d.kind = 17) ∧ ¬ (∀ d, directoryOfPort board 1 = some d → d.kind = 18) := by
  refine ⟨by decide, by decide, by decide, fun d h => ?_, fun h => ?_⟩
  · rw [show directoryOfPort board 1 = some (dirRecord .panA 1 17 200 .none) by decide] at h
    cases h
    rfl
  · exact absurd (h _ (show directoryOfPort board 1 = some (dirRecord .panA 1 17 200 .none) by decide)) (by decide)
theorem witness_status : board.ports[2].link = .locked ∧ statusFits (roleOfPort board 2) [0, 0, 0, 0, 0] = true
    ∧ statusFits (roleOfPort board 2) [0, 0, 0, 0] = false
    ∧ directoryOfPort board 2 = some (dirRecord .switchgear 2 18 100 .changes) ∧ board.ports[2].kind = some 18 := by decide

theorem witness_role_not_there : rolePresent stillBoard .aux1 = false ∧ (roleOf board .aux1).silenceDeadline = some 1000
    ∧ max board.now 1000 = 1000 ∧ max 1001 1000 = 1001 ∧ roleOfPort board 7 = none
    ∧ directoryOfRole board .aux2 = none ∧ rolePresent { board with roles := Vector.replicate 8 (presentRole 9) } .aux2 = true := by decide
theorem witness_kind_check : directoryOfPort board 1 = some (dirRecord .panA 1 17 200 .none)
    ∧ directoryOfRole board .panA = some (dirRecord .panA 1 17 200 .none) ∧ board.ports[1].kind = some 17
    ∧ ({ board with ports := board.ports.set 1 (lockedPort 18) } : State).ports[1].kind = some 18
    ∧ directoryOfPort board 7 = none ∧ board.ports[7].kind = none
    ∧ ({ board with ports := board.ports.set 7 { link := .locked } } : State).ports[7].link = .locked := by decide
/-- R182: the head of another kind bars its port, and the report of the role has both kinds. -/
theorem test_barred_is_reported :
    (after (.announce 1 18 40311) { board with ports := board.ports.set 1 { link := .locked }, roles := board.roles.set 1 {} }
      ).ru.slots[(6 : Fin 44)].report =
      some (.headState .panA (some 1) .absent .absent .barred (some .barred) (some 18) (some 40311) (some 17) none) := by decide
theorem witness_status_readers : (roleOf stillBoard .switchgear).presence ≠ .present ∧ (roleOf board .switchgear).presence = .present
    ∧ directoryOfPort stillBoard 2 = some (dirRecord .switchgear 2 18 100 .changes) ∧ rolePresent stillBoard .switchgear = false
    ∧ rolePresent board .switchgear = true ∧ directoryOfPort board 7 = none := by decide

/-! ### Line Monitor -/

theorem witness_cell : board.ports[0].link = .locked ∧ directoryOfPort board 0 = some (dirRecord .line 0 16 50 .none)
    ∧ rolePresent board .line = true ∧ board.lm.expected = none ∧ board.lm.deadRun = 0
    ∧ (settings board).deadThreshold ≤ peakOf ((List.replicate 16 600).map conditionSample)
    ∧ board.lm.acc.cells + 1 < (settings board).windowLength
    ∧ ({ board.lm with expected := some 255 } : LineMonitor).expected = some 255 := by decide
/-- Cells one short of the window length and at it, dead and live; a cell out of order; 63 and 64 digests at the close. -/
theorem witness_cells :
    (let s : State := { board with lm := { expected := some 255, acc := { cells := 49 }, deadRun := 24 } }
     s.lm.expected = some 255 ∧ ¬ s.lm.acc.cells + 1 < (settings s).windowLength ∧ (settings s).windowLength ≤ s.lm.acc.cells + 1
       ∧ 48 + 1 < (settings s).windowLength ∧ peakOf ((List.replicate 16 599).map conditionSample) < (settings s).deadThreshold
       ∧ (settings s).deadThreshold ≤ peakOf ((List.replicate 16 600).map conditionSample) ∧ (254 : Nat) ≠ 255) := by decide
/-- R12: the fiftieth cell closes the window, whose digest entry joins the FIFO. -/
theorem test_cell_completes_window :
    (let s : State := { board with lm := { expected := some 9, windowSequence := 65535, acc := { cells := 49 } } }
     let t := after (.cell 0 9 false (List.replicate 16 2000) 50) s
     t.lm.windowSequence = 0 ∧ t.lm.acc = {} ∧ t.lm.digests.length = 1 ∧ t.lm.last.map (·.iw) = some 1) := by decide
/-- R9: samples at the edges of the band, from below, from above and unset, and a band of width 0. -/
theorem witness_crossing :
    (let c (x : Crossing) : Accumulator := { index := 5, crossing := x, count := 1, first := some 2, last := some 2 }
     (addSample 300 (c .below) 300).count = 2 ∧ (addSample 300 (c .below) 300).last = some 5
       ∧ (addSample 300 (c .below) 299).count = 1 ∧ (addSample 300 (c .above) (-300)).last = some 5
       ∧ (addSample 300 (c .unset) 300).count = 1 ∧ (addSample 300 (c .unset) 300).crossing = .above
       ∧ (addSample 0 (c .below) 0).count = 1) := by decide
theorem witness_window_bounds :
    (({ s1 := -(16 * 50 * 32767), s2 := 16 * 50 * (32767 * 32767) } : Accumulator).s1.natAbs ≤ 16 * 50 * 32767)
    ∧ ({ s1 := 800, s2 := 16 * 50 * (32767 * 32767) } : Accumulator).s2 ≤ 16 * 50 * (32767 * 32767)
    ∧ ({ currentSum := 50 * 4095 } : Accumulator).currentSum ≤ 50 * 4095
    ∧ ({ s1 := 16 * 50 * -7, s2 := 16 * 50 * 49 } : Accumulator).s1 = 16 * 50 * -7 := by decide
/-- Three crossings at the ends of the longest window, and two. -/
theorem witness_frequency :
    (let c : Accumulator := { count := 3, first := some 0, last := some 3999 }
     c.count - 1 ≤ 3999 - 0 ∧ (0 : Nat) ≤ 3999 ∧ 3999 < 16 * 250)
    ∧ ({ count := 2, first := some 4, last := some 5 } : Accumulator).count ≤ 2 ∧ ({} : Accumulator).count ≤ 2 := by decide
theorem witness_samples : ∀ v ∈ [32767, -32767, 0, (5 : Int)], v.natAbs ≤ 32767 := by decide
/-- A window at the lower ends of code 2's bands, one below the dead threshold, one at it, and one that saturated. -/
theorem witness_class :
    (let w : WindowResult := { m := 0, vac := 8000, f := 1500, c := 3, iw := 0, sat := false }
     matchesRecord w (sysRecord 2 (8000, 12500) (0, 500) (1500, 1850) .ac .a .a 4) = true
       ∧ matchesRecord w (sysRecord 1 (13000, 19500) (0, 500) (4500, 5500) .ac .a .a 3) = false
       ∧ validRecords board.vl.tables.system = systems)
    ∧ (599 < (settings board).deadThreshold ∧ ¬ 600 < (settings board).deadThreshold) := by decide
theorem witness_persistence :
    (let l : LineMonitor := { confirmed := .system 1, candidate := some { cls := .system 2, count := 3 } }
     l.confirmed ≠ classState (.system 2) ∧ (4 : Nat) ≤ 3 + 1 ∧ ¬ (4 : Nat) ≤ 2 + 1 ∧ l.confirmed = classState (.system 1)) := by decide
/-- Dead runs of 0, 23, 24 and 25 with the dead-confirm length 25, and a run that ends as a contact loss. -/
theorem witness_dead_run : (settings board).deadConfirm = 25 ∧ (0 : Nat) < 23 ∧ 23 + 1 < 25 ∧ 24 + 1 = 25 ∧ (25 : Nat) ≤ 25
    ∧ (0 : Nat) < 24 ∧ ({ eligible := true, position := none, state := .dead } : RunStart).eligible = true := by decide
theorem witness_demands : ((closedUp.sg.mb.reported = .closed) ∧ closedUp.sg.ss.reported ≠ selectorPos .dc)
    ∧ tripCause closedUp (.system 3) = some .wrongSelector := by decide
/-- A confirmed state that is already there, one that makes no demand, and one that does. -/
theorem witness_set_confirmed :
    (let s : State := { closedUp with lm := { closedUp.lm with confirmed := .system 1 } }
     s.lm.confirmed = .system 1 ∧ s.lm.confirmed ≠ .system 2 ∧ tripCause s (.system 2) = none ∧ tripCause s .over = some .over
       ∧ tripCause s .dead = some .dead ∧ tripCause board .dead = none ∧ tripCause s .noSense = some .noSense
       ∧ board.lm.confirmed = .noSense ∧ s.lm.confirmed ≠ .noSense) := by decide
theorem witness_queues_and_slots :
    (let e : DigestEntry := { sequence := 1, m := 0, vac := 0, f := 0, cls := .dead, sat := false, iw := 0 }
     (List.replicate 63 e).length < 64 ∧ (List.replicate 64 e).length = 64)
    ∧ (dirRecord .climate 5 21 5000 .all).forwarding = .named .all
    ∧ (roleOf board .switchgear).lastForwarded ≠ some [0]
    ∧ (List.replicate 15 ({ role := .aux1, port := 6, kind := 22, payload := [] } : TelemetryItem)).length < 16
    ∧ 16 ≤ (List.replicate 16 ({ role := .aux1, port := 6, kind := 22, payload := [] } : TelemetryItem)).length := by decide

/-- A part that scrapes, at the last cell before DEAD is confirmed and before a window of 15 kV at 50 Hz closes, with a
persistence of one window. -/
def flicker : State :=
  { collecting with
    sg := { board.sg with mb := { reported := .closed } }
    vl := { board.vl with tables := { tables with system :=
      { load := .valid, records := [sysRecord 1 (13000, 19500) (0, 500) (4500, 5500) .ac .a .a 1] } } }
    lm := { confirmed := .system 1, expected := some 9, deadRun := 24
            acc := { cells := 49, index := 784, s2 := 180000000000, count := 19, first := some 52, last := some 772 } }
    pans := { collecting.pans with b := { panDown with state := .up, role := some .scrape, raiseOrigin := some .ice } }
    ice := { setting := .auto, state := .scrape, scrapePan := some .b, phase := some .active, score := 51, commanded := some 1 } }
/-- R31, R162, R169: between the two changes of the one cell Ice Control sees DEAD: SCRAPE ends at its condition 4, and the empty
on-set goes to the heaters (assumption log 51). -/
theorem test_dead_between_two_states_is_seen :
    (let t := after (.cell 0 9 false (List.replicate 16 0) 0) flicker
     t.lm.confirmed = .system 1 ∧ t.ice.state = .heat ∧ { port := 4, payload := (groupsCommand 0).payload } ∈ t.sent) := by
  decide
/-- Cells whose first stage tells other blocks and tells none, and notes that wait before the join. -/
theorem witness_joins :
    (let run (n : Nat) : Act := { s := { flicker with lm := { flicker.lm with deadRun := n } } }
     (deadCell (run 24)).notes ≠ [] ∧ (deadCell (run 23)).notes = [] ∧ (liveCell (run 0)).notes = []
       ∧ (takeCell 9 false (List.replicate 16 0) 0 (run 24)).notes.getLast? = some (.lineJoin (List.replicate 16 0) 0)
       ∧ peakOf ((List.replicate 16 (0 : Int)).map conditionSample) < (settings flicker).deadThreshold
       ∧ (takeNext { s := board, notes := [.tripRelease, .lineJoin [] 0] }).notes = [.lineJoin [] 0]) := by decide

/-! ### Pantographs -/

theorem witness_raise_refused :
    profileRecord board 0 = none ∧ rolePresent board (panRole .a) = true ∧ rolePresent stillBoard (panRole .a) = false
    ∧ yard.vl.mode = .standby ∧ functionActive board .roofAccess = false ∧ raiseRefusal board .a .collect 1 = none
    ∧ functionActive { board with inputs := board.inputs.set 5 (settledLine .high) } .roofAccess = true
    ∧ (devOf board (isoOf .b)).reported ≠ .closed ∧ (panOf collecting .a).state = .up ∧ (panOf collecting .a).role = some .collect := by
  decide
theorem witness_raise_refused_by_gate :
    (let r : GateRecord := { role := .named .panA, kind := .named .ramp, origins := 1, conditions := 0, speedLimit := none, holdTime := 0 }
     let s : State := { board with vl := { board.vl with tables := { tables with gate := { load := .valid, records := [r] } } } }
     raiseRefusal s .a .collect 1 = none ∧ firstFailed (raiseClauses s .a .collect) = none
       ∧ judge s (rampCommand .a 1500 1000 .pan) = some .origin) := by decide
theorem witness_raise_taken :
    RaiseReady board .a .collect (profileTable.headD ⟨0, [], 0, 0, 0, 0⟩) ⟨1500, 1000⟩ .pan (dirRecord .panA 1 17 200 .none) :=
  ⟨by decide, by decide, by decide, by decide, by decide, by decide, by decide, by decide, fun _ => by decide, by decide, by decide⟩
/-- The raise is as ready where the strip switch is active. -/
theorem witness_raise_with_strip :
    (let s : State := { board with inputs := board.inputs.set 6 (settledLine .high) }
     stripActive s .a = true ∧ stripActive board .a = false
       ∧ RaiseReady s .a .collect (profileTable.headD ⟨0, [], 0, 0, 0, 0⟩) ⟨1500, 1000⟩ .pan (dirRecord .panA 1 17 200 .none)) :=
  ⟨by decide, by decide, by decide, by decide, by decide, by decide, by decide, by decide, by decide, by decide, fun _ => by decide,
   by decide, by decide⟩
/-- R46: the strip cause begins a lowering in the same act, and the answer is ACCEPTED. -/
theorem test_pan_raise_with_strip :
    (let t := after (.panRaise 1 .a .collect 1) { board with inputs := board.inputs.set 6 (settledLine .high) }
     t.pans.a.raised = false ∧ answers t = [(.accepted, [])]) := by decide
/-- R48: a later stage that the gate refuses, and R54 with the DOWN contact active (assumption log 18). -/
theorem witness_stage_refused_and_contact_at_guard :
    (let s : State := { raising with inputs := raising.inputs.set 5 (settledLine .high) }
     judge s (rampCommand .a 3000 400 .vehicle) = some .h53 ∧ s.pans.a.stageDeadline = some 1500)
    ∧ (let s : State := { awaiting with inputs := awaiting.inputs.set 1 (settledLine .high) }
       downActive s .a = true ∧ s.pans.a.ventGuard = some 300 ∧ s.pans.a.phase = some .awaitMb) := by decide
theorem witness_stages : raising.pans.a.stageDeadline = some 1500 ∧ raising.pans.a.stage = some 0 ∧ raising.pans.a.profile = some 1
    ∧ profileRecord raising 1 = profileTable.head? ∧ raising.pans.a.raiseOrigin = some .vehicle
    ∧ judge raising (rampCommand .a 3000 400 .vehicle) = none ∧ rolePresent raising (panRole .a) = true
    ∧ directoryOfRole raising (panRole .a) = some (dirRecord .panA 1 17 200 .none)
    ∧ (profileTable.head?.map fun pr => pr.stages[1 + 1]?) = some none := by decide
theorem witness_vent_guard : awaiting.pans.a.ventGuard = some 300 ∧ awaiting.pans.a.phase = some .awaitMb
    ∧ downActive awaiting .a = false ∧ rolePresent awaiting (panRole .a) = true
    ∧ directoryOfRole awaiting (panRole .a) = some (dirRecord .panA 1 17 200 .none) := by decide
theorem witness_up_contact : raising.pans.a.state = .raising ∧ gateRecord raising (panRole .a) .hold = none
    ∧ (3846 : Nat) + 20 ≤ 3866 ∧ ¬ (3847 : Nat) + 20 ≤ 3866 := by decide
theorem witness_lowering :
    (let s : State := { closedUp with inputs := closedUp.inputs.set 1 (settledLine .low) }
     downActive s .a = false ∧ (panOf s .a).role = some .collect ∧ mbEngaged s = true ∧ s.sg.mb.reported ≠ .opened
       ∧ rolePresent s (panRole .a) = true ∧ directoryOfRole s (panRole .a) = some (dirRecord .panA 1 17 200 .none)
       ∧ mbEngaged collecting = false) := by decide
/-- The DOWN contact active: an orderly start stays in VENTING, an immediate one ends at once. -/
theorem witness_lowering_at_down_contact :
    downActive collecting .a = true ∧ mbEngaged collecting = false
    ∧ (panOf (beginLowering .a .vehicle .orderly false { s := collecting }).s .a).state = .lowering
    ∧ (panOf (beginLowering .a .protect .immediate false { s := collecting }).s .a).state = .down
    ∧ mbEngaged closedUp = true ∧ downActive closedUp .a = true := by decide
theorem witness_pan_lower : (panOf collecting .a).state = .up ∧ (panOf awaiting .a).state = .lowering ∧ (panOf board .a).state = .down
    ∧ (panOf raising .a).state = .raising := by decide
theorem witness_clear_fault :
    (let s : State := { board with pans := { board.pans with a := { panDown with state := .fault, latch := some .strip } } }
     (panOf s .a).state = .fault ∧ downActive s .a = true
       ∧ downActive { s with inputs := s.inputs.set 1 (settledLine .low) } .a = false ∧ (panOf board .a).state ≠ .fault) := by decide
theorem witness_lowering_deadlines : raising.pans.a.raiseDeadline = some 8000 ∧ raising.pans.a.state = .raising
    ∧ (let r := { awaiting.pans.a with phase := some .venting, ventGuard := none }
       r.lowerDeadline = some 8000 ∧ r.state = .lowering ∧ r.phase = some .venting ∧ r.primary = some .vehicle) := by decide
/-- R56, R60: a lowering in either phase with the head there, and a head fault that becomes set. -/
theorem witness_joining_causes : awaiting.pans.a.phase = some .awaitMb ∧ LowerCause.strip ∉ awaiting.pans.a.causes
    ∧ rolePresent awaiting (panRole .a) = true ∧ directoryOfRole awaiting (panRole .a) = some (dirRecord .panA 1 17 200 .none)
    ∧ downActive awaiting .a = false ∧ downActive { awaiting with inputs := board.inputs } .a = true
    ∧ (byteAt [0x17, 0x70, 1] 2).getLsbD 0 = true ∧ awaiting.pans.a.headFault = false
    ∧ (panStatus .a [0x17, 0x71, 1] { s := collecting }).s.pans.a.measured = some 6000
    ∧ (panStatus .a [0x17, 0x71, 1] { s := collecting }).s.pans.a.raised = false := by decide
theorem witness_latches : latchOf (some .vehicle) [.vehicle, .strip, .drop] = some .strip
    ∧ latchOf (some .vehicle) [.vehicle, .raiseTimeout, .drop] = some .drop ∧ latchOf (some .vehicle) [.vehicle] = none
    ∧ latchOf (some .drop) [.drop, .strip] = some .drop := by decide

/-- R54: the breaker reported OPEN ends AWAIT_MB, unless a close of it is in flight. -/
theorem witness_await_mb_ends :
    (let mb (d : Device) : State := { awaiting with sg := { awaiting.sg with mb := d } }
     let phase (s : State) : Option LowerPhase := (takeNote (.panMb .a) { s := s }).s.pans.a.phase
     phase (mb { reported := .opened }) = some .venting ∧ phase awaiting = some .awaitMb
       ∧ phase (mb { reported := .opened, target := some .closed, move := some { origin := .vehicle, deadline := 9, timeout := 9 } }) =
          some .awaitMb
       ∧ (takeNote (.panMb .a) { s := { mb { reported := .opened } with inputs := board.inputs } }).s.pans.a.state = .down
       ∧ downActive awaiting .a = false ∧ downActive { awaiting with inputs := board.inputs } .a = true
       ∧ rolePresent awaiting (panRole .a) = true) := by decide

/-! ### Switchgear and lines -/

theorem witness_moves : Pos.opened ∈ devTargets .mb ∧ Pos.mid ∉ devTargets .ss ∧ rolePresent board .switchgear = true
    ∧ directoryOfRole board .switchgear = some (dirRecord .switchgear 2 18 100 .changes)
    ∧ judge board (moveCommand .ss .dc .sequencer) = none ∧ judge closedUp (moveCommand .ss .dc .sequencer) = some .h2
    ∧ judge board (moveCommand .mb .opened .pan) = none ∧ rolePresent stillBoard .switchgear = false := by decide
/-- A close in flight: a second close joins it, an open reverses it. -/
theorem witness_move_in_flight :
    (let e : Device := { reported := .opened, target := some .closed, move := some { origin := .vehicle, deadline := 150, timeout := 150 } }
     e.move.isSome = true ∧ e.target = some .closed ∧ e.target ≠ some .opened ∧ e.move = some { origin := .vehicle, deadline := 150, timeout := 150 }) := by
  decide
/-- A frame that changes nothing; one that closes MB late; one that clears a fault mark without a move of MB. -/
theorem witness_switchgear_status :
    (let marks (s : State) (l : List Byte) : List (Dev × ChangeMark) := devsInOrder.filterMap fun d =>
        (judgeDevice (devOf s d) (devPositionOf d (byteAt l (placeIn devsInOrder d)))).2.map fun m => (d, m)
     let late : State := { board with sg := { board.sg with mb := { reported := .opened, mark := some .closed } } }
     let cleared : State := { board with sg := { board.sg with mb := { reported := .opened, target := some .opened, mark := some .opened, move := some { origin := .pan, deadline := 9, timeout := 9 } } } }
     marks board [0, 0, 1, 0, 0] = [] ∧ marks board [0, 1, 1, 0, 0] ≠ []
       ∧ marks late [1, 0, 1, 0, 0] ≠ [] ∧ (takePositions [1, 0, 1, 0, 0] late.sg).mb.mark = some .closed
       ∧ (switchgearStatus [1, 0, 1, 0, 0] { s := late }).s.sg.mb.target = some .opened
       ∧ marks cleared [0, 0, 1, 0, 0] ≠ [] ∧ (takePositions [0, 0, 1, 0, 0] cleared.sg).mb.mark = none) := by decide
/-- R76: the release, and each thing that stops it; R77: the loss leaves MB_TRIP and the mark. -/
theorem witness_trip_release :
    (let s : State := { board with sg := { board.sg with mb := { reported := .opened }, mbTrip := true } }
     (evaluateTrip { s := s }).s.sg.mbTrip = false
       ∧ (evaluateTrip { s := { s with lm := { s.lm with confirmed := .over } } }).s.sg.mbTrip = true
       ∧ (evaluateTrip { s := { s with sg := { s.sg with mb := { reported := .opened, mark := some .opened } } } }).s.sg.mbTrip = true
       ∧ (switchgearLost { s := { s with sg := { s.sg with mb := { reported := .closed, mark := some .closed } } } }).s.sg.mb =
          { reported := .unknown, mark := some .closed }
       ∧ (switchgearLost { s := s }).s.sg.mbTrip = true) := by decide
theorem witness_lines : board.inputs[(4 : Fin 12)].raw = .low ∧ Level.high ≠ board.inputs[(4 : Fin 12)].raw
    ∧ filteredLevel board.inputs[(4 : Fin 12)].filtered ≠ some .high ∧ filteredLevel board.inputs[(4 : Fin 12)].filtered = some .low
    ∧ State.reset.inputs[(4 : Fin 12)].filtered = .unsettled ∧ State.reset.inputs[(4 : Fin 12)].deadline = some 64
    ∧ inputMapRecord board 9 = none ∧ inputMapRecord board 8 = some (inRecord 8 .general .both)
    ∧ senseSelects .both .toInactive = true ∧ senseSelects .none .toActive = false := by decide
/-- A line with a function whose deadline runs, with an edge of activity, with none, and a marker line. -/
theorem witness_function_lines :
    inputMapRecord board 6 = some (inRecord 6 .stripA .none) ∧ inputMapRecord board 7 = some (inRecord 7 .marker1 .toActive)
    ∧ ({ raw := .high, filtered := .low, deadline := some 6 } : InputRecord).deadline = some 6
    ∧ senseSelects .none .toActive = false ∧ senseSelects .toActive .toActive = true ∧ senseSelects .toActive .toInactive = false := by
  decide
/-- R125: an edge with its list empty and the queue head triggered otherwise, on it, and in STANDBY. -/
theorem witness_marker_edges :
    (let head (t : Trigger) : State := { board with pr := { queue := [{ action := .reportMark 1, trigger := t }], appended := 1 } }
     board.pr.marker 0 = [] ∧ (markerEdge 0 { s := head (.onMarker 1) }).s.pr.queue.length = 1
       ∧ (markerEdge 0 { s := head (.onMarker 1) }).s.ru.slots[(6 : Fin 44)].report.isSome = (markerEdge 0 { s := yard }).s.ru.slots[(6 : Fin 44)].report.isSome
       ∧ (markerEdge 0 { s := head (.onMarker 0) }).s.pr.fired = 1) := by decide
theorem witness_line_latches : (12 : Nat) ≤ 12 ∧ lineSense board 4 ≠ .none ∧ lineSense board 0 = .none
    ∧ board.vl.tables.inputs.load = .valid ∧ State.reset.vl.tables.inputs.load ≠ .valid
    ∧ board.inputs[(4 : Fin 12)].latch = .disarmed := by decide

/-! ### Command Gate -/

/-- Every clause of H1 holds, and the first fails alone where the mode is STANDBY. -/
theorem witness_close :
    (let s : State := { collecting with lm := { collecting.lm with confirmed := .system 1 } }
     judge s (moveCommand .mb .closed .vehicle) = none
       ∧ judge { s with vl := { s.vl with mode := .standby } } (moveCommand .mb .closed .vehicle) = some .h11
       ∧ judge { s with sg := { s.sg with isoA := { reported := .opened } } } (moveCommand .mb .closed .vehicle) = some .h17
       ∧ (moveCommand .mb .closed .vehicle).content = .move .mb .closed) := by decide
theorem witness_interlocks : (moveCommand .ss .dc .vehicle).content = .move .ss .dc
    ∧ (moveCommand .es .earthed .vehicle).content = .move .es .earthed ∧ (rampCommand .a 1 1 .pan).content = .ramp 1 1
    ∧ judge collecting (moveCommand .isoA .opened .vehicle) = some .h3
    ∧ judge collecting (moveCommand .es .earthed .vehicle) = some .h42 ∧ judge closedUp (moveCommand .es .earthed .vehicle) = some .h41
    ∧ judge yard (rampCommand .a 1 1 .pan) = some .h51 := by decide
/-- A record that names every condition: the first and the last fail, and the masks with and without the origin. -/
theorem witness_gate :
    (let r : GateRecord := { role := .named .aux1, kind := .named .aux, origins := 1, conditions := 0x101, speedLimit := some 100, holdTime := 5000 }
     inMask r .vehicle = true ∧ inMask r .ice = false ∧ tableFailure closedUp r .vehicle = some .mbOpen
       ∧ tableFailure (located board 5) r .vehicle = some .belowSpeed ∧ tableFailure board r .vehicle = none) := by decide
/-- A gate that holds AUX1 for up to 5000 ms while the position is not FRESH, and refuses the pantographs' origin. -/
def gated : State :=
  { board with vl := { board.vl with tables := { tables with gate := { load := .valid, records :=
    [{ role := .named .aux1, kind := .named .aux, origins := 1, conditions := 0x40, speedLimit := none, holdTime := 5000 }] } } } }
theorem witness_vehicle_command : rolePresent gated .aux1 = true ∧ directoryOfRole gated .aux1 = some (dirRecord .aux1 6 22 1000 .all)
    ∧ holdOf gated .aux1 = none ∧ Sending gated ∧ gated.vl.link = .locked
    ∧ judge gated { role := .aux1, content := .aux, payload := [1], origin := .vehicle, seq := some 0 } = some .positionFresh
    ∧ judge (located gated 5) { role := .aux1, content := .aux, payload := [1], origin := .vehicle, seq := some 0 } = none := by
  unfold Sending; decide
theorem witness_kind_refused : Role.climate ∈ [Role.line, .panA, .panB, .heater, .climate] ∧ holdOf board .climate = none
    ∧ (dirRecord .switchgear 2 18 100 .changes).access ≠ .named .readOnly := by decide
theorem witness_vehicle_move : Pos.opened ∈ devPositions .mb ∧ Pos.unknown ∉ devTargets .mb ∧ holdOf board .switchgear = none
    ∧ judge board { role := .switchgear, content := .move .ss .dc, payload := [0, 1, 1], origin := .vehicle, seq := some 1 } = none
    ∧ Pos.dc ∈ devTargets .ss ∧ (devOf board .ss).move = none := by decide
/-- A held command, and a position that lets it through. -/
def holding : State :=
  { gated with holds := gated.holds.set 6 (some { command := { role := .aux1, content := .aux, payload := [1], origin := .vehicle, seq := some 4 }
                                                  seq := 4, deadline := 5000, failed := .positionFresh }) }
theorem witness_held_command :
    (let h : Held := { command := { role := .aux1, content := .aux, payload := [1], origin := .vehicle, seq := some 4 }
                       seq := 4, deadline := 5000, failed := .positionFresh }
     holdOf holding .aux1 = some h ∧ rolePresent holding .aux1 = true ∧ h.command.role = .aux1
       ∧ judge holding h.command = some .positionFresh ∧ judge (located holding 5) h.command = none) := by decide

/-- A held move that no move stands against, one that its own move is in flight for, one that another is, and a lost role. -/
theorem witness_held_move :
    (let c := moveCommand .ss .dc .vehicle
     let h : Held := { command := c, seq := 4, deadline := 5000, failed := .h2 }
     let s : State := { board with holds := board.holds.set 0 (some h) }
     let flies (t : Pos) : Device := { reported := .ac, target := some t, move := some { origin := .pan, deadline := 9, timeout := 9 } }
     holdOf s .switchgear = some h ∧ rolePresent s .switchgear = true ∧ judge s c = none ∧ (devOf s .ss).move = none
       ∧ (flies .dc).move ≠ none ∧ (flies .dc).target = some .dc ∧ (flies .ac).target ≠ some .dc
       ∧ rolePresent { s with roles := Vector.replicate 8 {} } .switchgear = false) := by decide

/-- R183: an admitted command of a role that is LOST, its count below and at the end of its range. -/
theorem witness_undelivered :
    (let lost (n : Nat) : State := { board with roles := board.roles.set 6 { presence := .lost, undelivered := n } }
     let c : Command := { role := .aux1, content := .aux, payload := [1], origin := .vehicle, seq := some 3 }
     let count (n : Nat) : Nat := (roleOf (after (.headCommand 3 .aux1 [1]) (lost n)) .aux1).undelivered
     rolePresent (lost 0) .aux1 = false ∧ judge (lost 0) c = none ∧ holdOf (lost 0) .aux1 = none
       ∧ directoryOfRole (lost 0) .aux1 = some (dirRecord .aux1 6 22 1000 .all)
       ∧ count 65534 = 65535 ∧ count 65535 = 65535
       ∧ (after (.headCommand 3 .aux1 [1]) (lost 0)).sent = [] ∧ (deliver c { s := lost 0 }).2 = false) := by decide

/-! ### Position and route -/

theorem witness_estimate : (placed 7).last = some 7 ∧ (placed 7).frameTime = some 0 ∧ (placed 7).frameStale = some 1000
    ∧ ({ placed 7 with speed := 0 } : PositionRecord).speed = 0 ∧ ({} : PositionRecord).last = none ∧ (placed 7).speed ≤ 12000 := by
  decide
/-- A jump begins 501 dm back and 2001 dm forward of the estimate, and not one dm nearer. -/
theorem witness_jump :
    (let s := located board 10000
     estimate s = some 10000 ∧ 9499 < 10000 - (settings s).jumpBack ∧ ¬ 9500 < 10000 - (settings s).jumpBack
       ∧ min 4294967295 (10000 + (settings s).jumpForward) < 12001 ∧ ¬ min 4294967295 (10000 + (settings s).jumpForward) < 12000
       ∧ s.pr.position.staleDeadline = some 1000 ∧ s.vl.link = .locked) := by decide
/-- R164: the inhibit leaves SCRAPE when it is set, whatever the same series does after. -/
theorem test_inhibit_is_evaluated_at_once :
    (let s : State := { collecting with
        lm := { confirmed := .system 1 }, pans := { collecting.pans with b := { panUp with role := some .scrape } }
        ice := { setting := .auto, state := .scrape, scrapePan := some .b, phase := some .active, score := 51 } }
     let a := (handOff .queue (.scrapeInhibit true) none { s := s }).1
     (handOff .queue (.scrapeInhibit false) none a).1.s.ice.state = .heat) := by decide
/-- A head one dm away, and the timer that reaches it in 2 ms. -/
theorem witness_trigger_timer :
    (let s := located board 10000
     s.pr.position.fresh = true ∧ 0 < s.pr.position.speed ∧ (10000 : Nat) < 10001 ∧ reachTime s.pr.position 10001 = some 2
       ∧ s.pr.position.estimate 2 = some 10001 ∧ s.pr.position.estimate 1 = some 10000 ∧ s.vl.mode = .run) := by decide
/-- R123: an action that its owner refuses, and R164: the inhibit set, and cleared in the same series. -/
theorem witness_fire :
    (let a : Act := { s := yard }
     let b : Act := { s := board }
     (handOff .queue (.changeover 1 none) none a).2 = .mode ∧ (handOff .m0 .lowerAll none b).2 = .already
       ∧ (fire .queue (.changeover 1 none) none a).2 = false ∧ (fire .m0 .lowerAll none b).2 = true
       ∧ (handOff .queue (.scrapeInhibit true) none b).1.s.ice.inhibit = true ∧ board.ice.inhibit = false) := by decide
theorem witness_queue_append :
    (let e (p : Nat) : QueueEntry := { action := .reportMark 255, trigger := .atPosition p }
     (∀ x ∈ [e 0, e 4294967295], entryInRange x = true) ∧ entryInRange (e 4294967296) = false
       ∧ ({ queue := List.replicate 12 (e 1) } : Route).queue.length + 4 ≤ 16
       ∧ ¬ ({ queue := List.replicate 13 (e 1) } : Route).queue.length + 4 ≤ 16
       ∧ markerInUse { m1 := [.lowerAll] } [{ action := .lowerAll, trigger := .onMarker 1 }] = some 1
       ∧ markerInUse {} [e 1] = none) := by decide
theorem witness_marker_lists :
    (∀ x ∈ [Action.reportMark 255, .changeover 15 none], actionInRange x = true) ∧ actionInRange (.changeover 16 none) = false
    ∧ ({ m0 := [.lowerAll, .lowerAll] } : Route).m0.length + 2 ≤ 4 ∧ ¬ ({ m0 := [.lowerAll, .lowerAll, .lowerAll] } : Route).m0.length + 2 ≤ 4
    ∧ queueUsesMarker { queue := [{ action := .lowerAll, trigger := .onMarker 1 }] } 1 = true
    ∧ queueUsesMarker { queue := [{ action := .lowerAll, trigger := .onMarker 1 }] } 0 = false
    ∧ board.pr.triggerTimer = none ∧ board.pr.queue = [] := by decide

theorem witness_frames_and_heads :
    (let head (t : Trigger) : State :=
        { located board 10000 with pr := { position := placed 10000, queue := [{ action := .reportMark 1, trigger := t }], appended := 1 } }
     estimate (located board 10000) = some 10000 ∧ (9500 : Nat) ≤ 9500 ∧ board.vl.mode = .run ∧ yard.vl.mode = .standby
       ∧ (evaluateQueue { s := head (.onMarker 1) }).s.pr.queue.length = 1
       ∧ (evaluateQueue { s := head (.atPosition 10000) }).s.pr.queue = []
       ∧ (evaluateQueue { s := head (.atPosition 10001) }).s.pr.triggerTimer = some 2
       ∧ (fire .queue (.reportMark 1) none { s := board }).2 = true
       ∧ (fire .queue (.changeover 9 none) none { s := board }).2 = false) := by decide
/-- R122: LOWER_ALL with a pantograph that is up and with none, and a CHANGEOVER from each source. -/
theorem witness_hand_offs :
    (handOff .queue .lowerAll none { s := collecting }).2 = .accepted ∧ (handOff .queue .lowerAll none { s := board }).2 = .already
    ∧ (lowerPan .a .vehicle .orderly false { s := collecting }).2 = true ∧ (lowerPan .b .vehicle .orderly false { s := collecting }).2 = false
    ∧ (handOff .queue (.changeover 3 none) none { s := board }).1.s.co.origin = some .route
    ∧ (handOff .m1 (.changeover 3 none) none { s := board }).1.s.co.origin = some .marker := by decide
theorem witness_marker_conflicts :
    (let on (m : Nat) : QueueEntry := { action := .lowerAll, trigger := .onMarker m }
     markerInUse { m0 := [.lowerAll], m1 := [.lowerAll] } [on 1, on 0] = some 1 ∧ markerInUse { m0 := [.lowerAll] } [on 1] = none
       ∧ ({ m1 := [.lowerAll] } : Route).marker 1 ≠ []) := by decide

/-! ### Changeover and ice -/

/-- A start that finds everything as the target wants it, and one that opens the breaker. -/
theorem witness_changeover_start :
    (let s : State := { closedUp with lm := { closedUp.lm with confirmed := .system 1 } }
     s.vl.mode = .run ∧ s.co.step = .idle ∧ systemRecord s 1 = systems.head? ∧ systemRecord s 5 = none
       ∧ rolePresent s .switchgear = true ∧ rolePresent s .line = true ∧ s.sg.ss.reported = selectorPos .ac ∧ s.sg.mb.reported = .closed
       ∧ (pansInOrder.find? fun p => (panOf s p).collecting && (Coded.named PanSet.a).test fun set => set.holds p) = some .a
       ∧ (systemRecord s 3).bind (noopPan s 3) = none ∧ s.sg.mb.move = none
       ∧ directoryOfRole s .switchgear = some (dirRecord .switchgear 2 18 100 .changes))
    ∧ ∀ p, ¬ ((panOf closedUp p).raised = true ∧ (panOf closedUp p).role = some .scrape) :=
  ⟨by decide, fun p => by cases p <;> decide⟩
theorem witness_changeover_waits : waiting.co.raiseTimer = some 500 ∧ waiting.co.step = .awaitRaise
    ∧ raiseReached { waiting with now := 500 } = true ∧ raiseReached { waiting with now := 499 } = false
    ∧ board.co.step ≠ .awaitRaise ∧ board.co.step ≠ .halted
    ∧ verdict { board with co := { step := .verifying, target := some 2 }, lm := { confirmed := .dead } } = .wait
    ∧ verdict { board with co := { step := .verifying, target := some 2 }, lm := { confirmed := .system 1 } } = .stop .wrongSystem := by
  decide
/-- The table of R146, and a close that the sequencer may ask for. -/
theorem witness_verdicts :
    (let v (l : LineState) (kept : Bool) (old : Option Nat) : Verdict :=
        verdict { board with co := { step := .verifying, target := some 2, kept, oldSystem := old }, lm := { confirmed := l } }
     v (.system 2) false none = .confirmed ∧ v (.system 1) true (some 1) = .wait ∧ v (.system 1) false (some 1) = .stop .wrongSystem
       ∧ v .over true (some 1) = .stop .over ∧ v .noSense false none = .wait)
    ∧ (let s : State := { collecting with lm := { collecting.lm with confirmed := .system 1 } }
       judge s (moveCommand .mb .closed .sequencer) = none ∧ s.sg.mb.move = none ∧ rolePresent s .switchgear = true) := by decide
/-- R153: the two notes, as they came and as the choice turns them, and a changeover in progress. -/
theorem witness_abort_orders :
    (let a (cs : List Nat) : Act := { s := { waiting with choices := cs }, notes := [.coLinkLost, .coPan .a .lowering none, .gateReview] }
     (a [1, 4]).s.choices = 1 :: [4] ∧ (a []).s.choices = [] ∧ (takeNext (a [])).s.co.abortReason = some .linkLost
       ∧ (takeNext (a [1])).notes.head? = some .coLinkLost) := by decide
/-- R148, R149: a kept pan in AWAIT_RAISE, a new pan there, and the breaker reported CLOSED. -/
theorem witness_relied_pan :
    (let s (kept : Bool) : State := { waiting with co := { waiting.co with kept } }
     (s true).co.newPan = some .a ∧ (panOf (s true) .a).raised = false
       ∧ (takeNote (.coPan .a .lowering (some .drop)) { s := s true }).s.co.abortReason = some .panFault
       ∧ (takeNote (.coPan .a .lowering (some .drop)) { s := s false }).s.co.step = .awaitRaise
       ∧ (takeNote .coSwitch { s := { s false with sg := closedUp.sg } }).s.co.abortReason = some .mbClosed) := by decide
theorem witness_changeover_abort : board.co.step = .idle ∧ waiting.co.step ≠ .idle ∧ waiting.co.step ≠ .aborting
    ∧ ({ step := .aborting } : Changeover).step = .aborting ∧ abortOver waiting = true := by decide
theorem witness_ice_score :
    (let c : Climate := { ambient := 10, humidity := 85, stripA := 0, stripB := 0, current := true }
     c.current = true ∧ ¬ ((-500 : Int) ≤ c.ambient ∧ c.ambient ≤ -81 ∧ 0 ≤ c.humidity)
       ∧ ((-80 : Int) ≤ c.ambient ∧ c.ambient ≤ 10 ∧ 85 ≤ c.humidity)
       ∧ estimate (located board 20000) = some 20000 ∧ estimate board = none) := by decide
theorem witness_heater_budget :
    (let l : List HeaterRecord := [⟨1, 40, .named false⟩, ⟨6, 30, .named true⟩]
     (∀ r ∈ l, 1 ≤ r.group ∧ r.group ≤ 6) ∧ l.Pairwise (fun x y => x.group ≠ y.group))
    ∧ board.sg.mb.reported ≠ .closed ∧ closedUp.sg.mb.reported = .closed ∧ systemRecord closedUp 4 = systems[3]? := by decide
/-- PAN_A collects, PAN_B is down behind an open switch, the line state permits scraping, and the score is the entry threshold. -/
def icy : State :=
  { collecting with
    lm := { collecting.lm with confirmed := .system 1 }
    ice := { setting := .auto, state := .heat, score := 70 } }
/-- The board while PAN_B scrapes, in a phase, with its Pan Record. -/
def scraping (phase : ScrapePhase) (b : PanRecord) (score : Nat) : State :=
  { icy with pans := { icy.pans with b }, ice := { icy.ice with state := .scrape, scrapePan := some .b, phase := some phase, score } }
/-- A Pan Record of a scraping pantograph. -/
def scraper (state : PanState) : PanRecord :=
  { panDown with state, role := some .scrape, profile := some 3, raiseOrigin := some .ice }
/-- The ice state, the phase and the hold-off after an evaluation. -/
def iceAfter (s : State) : IceState × Option ScrapePhase × Bool :=
  (let i := (evaluateIce .other { s := s }).s.ice
   (i.state, i.phase, i.holdOff))
/-- R160's order holds for the defaults; the thresholds of WATCH and HEAT, each one point apart. -/
theorem witness_ice_thresholds :
    (settings icy).heatOff < (settings icy).heatOn ∧ (settings icy).heatOn ≤ (settings icy).scrapeOn
    ∧ (settings icy).scrapeOff < (settings icy).scrapeOn
    ∧ (let at' (st : IceState) (n : Nat) : State := { board with ice := { setting := .auto, state := st, score := n } }
       iceAfter (at' .watch 39) = (.watch, none, false) ∧ iceAfter (at' .watch 40) = (.heat, none, false)
         ∧ iceAfter (at' .heat 26) = (.heat, none, false) ∧ iceAfter (at' .heat 25) = (.watch, none, false)
         ∧ iceAfter { at' .heat 26 with vl := { board.vl with mode := .standby } } = (.inactive, none, false)
         ∧ iceAfter { board with ice := { setting := .forceHeat, state := .watch, score := 0 } } = (.heat, none, false)) := by decide
/-- R164, R165: SCRAPE is entered by the raise, and by the switch first; a raise that the roof access refuses fails the entry. -/
theorem witness_ice_entry :
    iceAfter icy = (.scrape, some .raising, false) ∧ iceAfter { icy with ice := { icy.ice with score := 69 } } = (.heat, none, false)
    ∧ iceAfter { icy with ice := { icy.ice with holdOff := true } } = (.heat, none, true)
    ∧ iceAfter { icy with sg := { icy.sg with isoB := { reported := .closed } } } = (.scrape, some .isoOpening, false)
    ∧ iceAfter { icy with inputs := icy.inputs.set 5 (settledLine .high) } = (.heat, none, true)
    ∧ iceAfter { icy with ice := { icy.ice with inhibit := true } } = (.heat, none, false) := by decide
/-- R166: SCRAPE stays, moves on, and is left at its score, at a condition, at the scrape pan and at a failed switch move. -/
theorem witness_ice_scrape :
    iceAfter (scraping .active (scraper .up) 51) = (.scrape, some .active, false)
    ∧ iceAfter (scraping .raising (scraper .raising) 51) = (.scrape, some .raising, false)
    ∧ iceAfter (scraping .raising (scraper .up) 51) = (.scrape, some .active, false)
    ∧ iceAfter (scraping .active (scraper .up) 50) = (.heat, none, false)
    ∧ iceAfter (scraping .active { panDown with state := .lowering } 51) = (.heat, none, true)
    ∧ iceAfter (scraping .isoOpening panDown 51) = (.scrape, some .raising, false)
    ∧ iceAfter { scraping .isoOpening panDown 51 with sg := { icy.sg with isoB := { reported := .closed } } } = (.heat, none, true)
    ∧ iceAfter { scraping .active (scraper .up) 51 with co := { step := .opening } } = (.heat, none, false) := by decide
/-- An on-set that differs from the one commanded is presented; a STATUS with a group newly on beside it is a mismatch. -/
theorem witness_heaters :
    board.ice.commanded ≠ some (firstFit 0 ([] : List HeaterRecord)) ∧ rolePresent board .heater = true
    ∧ directoryOfRole board .heater = some (dirRecord .heater 4 20 1000 .none) ∧ judge board (groupsCommand 0) = none
    ∧ rolePresent stillBoard .heater = false
    ∧ (allocate { s := board }).s.ice.commanded = some 0
    ∧ ((heaterStatus [4] { s := board }).s.ru.slots[(20 : Fin 44)].report).isSome = true
    ∧ (heaterStatus [4] { s := { board with ice := { commanded := some 4 } } }).s.ru.slots[(20 : Fin 44)].report = none := by decide
theorem witness_ice_mode : iceSettingOf 2 = some .forceHeat ∧ (3 : Nat) ≤ 3 ∧ board.ice.setting = .off := by decide

/-- A changeover to code 3 in a step, both its pantographs down and the breaker open. -/
def stepping (step : CoStep) (c : Changeover) : Act :=
  { s := { board with co := { c with step, target := some 3, origin := some .vehicle, usable := some true } } }
/-- The switchgear as code 3 wants it, the breaker open. -/
def placedB : Switchgear :=
  { board.sg with ss := { reported := .dc }, isoA := { reported := .opened }, isoB := { reported := .closed } }
/-- What the entries to the steps ask for, and what they find there. -/
theorem witness_step_entries :
    (let step (a : Act) : CoStep := a.s.co.step
     let a := stepping .opening {}
     let closed : Act := { a with s := { a.s with sg := closedUp.sg } }
     systemRecord a.s 3 = systems[2]?
       ∧ step (enterOpening .idle [] closed) = .opening
       ∧ step (enterOpening .idle [] { closed with s := { closed.s with roles := stillBoard.roles } }) ≠ .opening
       ∧ step (enterLoweringOld .opening [] { a with s := { a.s with pans := collecting.pans } }) = .loweringOld
       ∧ step (enterLoweringOld .opening [] a) = .selecting
       ∧ (enterLoweringOld .opening [] a).s.co.requested = [(.ss, .dc), (.isoB, .closed), (.isoA, .opened)]
       ∧ (seqMove .ss .dc a).2 = none ∧ (seqMove .ss .mid a).2 = some (.refused, some (.answer .range))
       ∧ (seqMove .ss .dc { a with s := closedUp }).2 = some (.interlock, some (.failed .h2))
       ∧ (seqMove .ss .dc { a with s := stillBoard }).2 = some (.headLost, none)) := by decide
/-- R141, R142, R145, R147: the ends of the steps at their events. -/
theorem witness_step_ends :
    (let step (a : Act) : CoStep := a.s.co.step
     let at' (sg : Switchgear) (a : Act) : Act := { a with s := { a.s with sg } }
     let goals : List (Dev × Pos) := [(.ss, .dc), (.isoB, .closed), (.isoA, .opened)]
     let new : Changeover := { newPan := some .b, requested := goals }
     step (takeNote .coSwitch (at' placedB (stepping .selecting new))) = .awaitRaise
       ∧ step (takeNote .coSwitch (stepping .selecting new)) = .selecting
       ∧ step (takeNote .coSwitch (at' placedB (stepping .selecting { new with kept := true }))) = .verifying
       ∧ step (takeNote .coPosition (stepping .awaitRaise { newPan := some .b, raisePosition := some 5 })) = .awaitRaise
       ∧ step (takeNote .coPosition (at' placedB { s := located (stepping .awaitRaise { newPan := some .b, raisePosition := some 5 }).s 5 })) =
          .raisingNew
       ∧ step (takeNote (.coPan .a .down none) (stepping .loweringOld { newPan := some .b, awaited := [.a] })) = .selecting
       ∧ (takeNote (.coPan .a .fault none) (stepping .loweringOld { newPan := some .b, awaited := [.a] })).s.co.abortReason = some .panFault
       ∧ (takeNote .coSwitch (at' closedUp.sg (stepping .closing { newPan := some .b }))).s.co.lastResult = some .done
       ∧ (takeNote .coSwitch (at' { closedUp.sg with mb := { reported := .closed, target := some .opened } }
          (stepping .closing { newPan := some .b }))).s.co.abortReason = some .mbOpened
       ∧ step (takeNote .coSwitch (stepping .aborting { abortReason := some .vehicle })) = .idle
       ∧ step (takeNote .coSwitch (at' closedUp.sg (stepping .aborting { abortReason := some .vehicle }))) = .aborting
       ∧ step (takeNote .coSwitch (stepping .opening {})) = .selecting
       ∧ step (takeNote .coSwitch (at' closedUp.sg (stepping .opening {}))) = .opening) := by decide
theorem witness_new_pan_up :
    (let a := stepping .raisingNew { newPan := some .b }
     let ready : Act := { a with s := { a.s with sg := placedB } }
     let up : Act := { a with s := { a.s with pans := { a.s.pans with b := panUp } } }
     (takeNote (.coPan .b .up none) up).s.co.step = .verifying ∧ (takeNote (.coPan .b .up none) a).s.co.step = .raisingNew
       ∧ (enterRaisingNew .awaitRaise [] ready).s.co.step = .raisingNew
       ∧ (enterRaisingNew .awaitRaise [] a).s.co.abortReason = some .interlock
       ∧ raiseRefusalReason { result := .range } = some (.refused, some (.answer .range))
       ∧ raiseRefusalReason { result := .already } = none) := by decide
/-- R139, R141, R147, R151: moves given up where they abort, where they end the changeover, and where they change nothing. -/
theorem witness_moves_given_up :
    (let reason (step : CoStep) (d : Dev) (p : Pos) : Option AbortReason := (takeNote (.coGaveUp d p) (stepping step {})).s.co.abortReason
     reason .opening .mb .opened = some .mbStuck ∧ reason .closing .mb .closed = some .mbStuck
       ∧ reason .selecting .isoA .opened = some .switchgearFault ∧ reason .selecting .mb .opened = none
       ∧ reason .awaitRaise .ss .dc = none ∧ reason .opening .mb .closed = none ∧ reason .closing .es .opened = none
       ∧ (takeNote (.coGaveUp .mb .opened) (stepping .aborting { abortReason := some .vehicle })).s.co.lastResult =
          some (.aborted .mbStuck)) := by decide
theorem witness_climate :
    (let c (current : Bool) : Climate := { ambient := -20, humidity := 90, stripA := 0, stripB := 0, current }
     let s (c : Option Climate) : Act := { s := { board with ice := { climate := c } } }
     (s (some (c true))).s.ice.climate = some (c true) ∧ (takeNote .iceArc (s (some (c true)))).s.ice.score = 35
       ∧ (takeNote .iceArc (s (some (c false)))).s.ice.score = 0 ∧ (s none).s.ice.climate = none
       ∧ (takeNote .climateLost (s (some (c true)))).s.ice.climate = some (c false)
       ∧ (climateStatus [0xFE, 0x0B, 101, 0, 0, 0, 0] (s none)).s.ice.climate =
          some { ambient := -500, humidity := 100, stripA := 0, stripB := 0, current := true }) := by decide
/-- R164: a change to a step other than IDLE ends SCRAPE where the chain of steps is back at IDLE (assumption log 51). -/
theorem test_scrape_ends_at_a_step :
    (let s := scraping .active (scraper .up) 51
     s.co.step = .idle ∧ (evaluateIce .step { s := s }).s.ice.state = .heat ∧ (evaluateIce .other { s := s }).s.ice.state = .scrape) := by
  decide

/-! ### Vehicle Link, tables and reports -/

theorem witness_vehicle_link : board.vl.link = .locked ∧ ({ badRun := 6 } : VehicleLink).badRun + 1 < 8
    ∧ ¬ ({ badRun := 7 } : VehicleLink).badRun + 1 < 8 ∧ ({ silenceDeadline := some 500 } : VehicleLink).silenceDeadline = some 500
    ∧ (settings board).policy = .named .lower ∧ ¬ (Coded.named Policy.hold) = .named .lower := by decide
theorem witness_requests : managementCode (.restart 1) = some (1, 5) ∧ 8 ≤ fullQueue.vl.replies.length ∧ board.vl.replies.length < 8
    ∧ ({ board.vl with restartPending := true } : VehicleLink).restartPending = true ∧ board.vl.restartPending = false
    ∧ (8 : Nat) ≤ 8 ∧ (7 : Nat) < 8 ∧ board.vl.mode = .run ∧ Instr.loadTableLast 1 7 [] ∈ [Instr.loadTableLast 1 7 []] := by decide
/-- A record that is appended, one that overflows HEATER, and a table in LOADING. -/
theorem witness_load_table : yard.vl.mode = .standby ∧ loadOf (discardIn tables 6) 6 ≠ .valid
    ∧ (appendIn [1, 40, 0] (discardIn tables 6) 6).2.failure = none
    ∧ (appendIn ((List.replicate 7 ([1, 40, 0] : List Byte)).flatten) (discardIn tables 6) 6).2.failure = some (.overflow, 6)
    ∧ loadOf (appendIn [1, 40, 0] (discardIn tables 6) 6).1 6 = .loading ∧ loadOf tables 6 ≠ .loading
    ∧ (validateIn (appendIn [1, 40, 0] (discardIn tables 6) 6).1 6).2 = none
    ∧ (validateIn (appendIn [1, 40, 2] (discardIn tables 6) 6).1 6).2 = some (.field, 0) := by decide
/-- Fields at, below and above the ends of their ranges, and optional ones that are dropped or stay. -/
theorem witness_clamps :
    (clampHeater ⟨0, 61, .named true⟩) = (⟨1, 60, .named true⟩, 2) ∧ (clampHeater ⟨6, 1, .unnamed 2⟩) = (⟨6, 1, .unnamed 2⟩, 0)
    ∧ (clampClimate ⟨-501, 501, 101, 100⟩) = (⟨-500, 500, 100, 100⟩, 3)
    ∧ (clampGate { role := .named .aux1, kind := .named .aux, origins := 1, conditions := 0, speedLimit := some 12001, holdTime := 5000 }).1.speedLimit = none
    ∧ (clampGate { role := .named .aux1, kind := .named .aux, origins := 1, conditions := 0x100, speedLimit := some 12001, holdTime := 5001 }) =
        ({ role := .named .aux1, kind := .named .aux, origins := 1, conditions := 0x100, speedLimit := some 12000, holdTime := 5000 }, 2)
    ∧ (clampProfile { number := 4, stages := [⟨6001, 9⟩], holdBase := 6000, gain := 51, maxPressure := 999, timeout := 30000 }) =
        ({ number := 3, stages := [⟨1000, 10⟩], holdBase := 6000, gain := 50, maxPressure := 1000, timeout := 30000 }, 6) := by decide
/-- A full table, a broken record, and the failures of a table in their order. -/
theorem witness_table_records :
    (let t : Table HeaterRecord := { load := .loading, records := [⟨1, 40, .named false⟩] }
     (t.append heaterForm [2, 30]).2.failure = some (.field, 1) ∧ (t.append heaterForm [9, 30, 1]).2 = { clamped := 1, held := 2 }
       ∧ ((({ load := .loading, records := List.replicate 6 ⟨1, 40, .named false⟩ } : Table HeaterRecord).append heaterForm [1, 40, 0]).2.failure =
          some (.overflow, 6))
       ∧ (t.validated heaterForm).2 = none ∧ (({ load := .loading, records := [] } : Table HeaterRecord).validated heaterForm).2 = some (.empty, 0)
       ∧ checkHeater t.records ⟨1, 30, .unnamed 2⟩ = some .field ∧ checkHeater t.records ⟨1, 30, .named true⟩ = some .duplicate
       ∧ checkHeater t.records ⟨2, 30, .named true⟩ = none) := by decide
/-- Commands held when the GATE table is discarded, and settings that differ from the defaults. -/
theorem witness_held_for_table : yard.co.step = .idle ∧ (∀ role ∈ slotRoles, role = .aux1 ∨ holdOf holding role = none)
    ∧ holdOf holding .aux1 ≠ none
    ∧ functionActive { yard with inputs := yard.inputs.set 0 (settledLine .high) } (upFunction .a) = true := by decide
/-- R34, R193: an ONLY that reloads a dead-confirm length that is not the default clears the dead run. -/
theorem test_only_leaves_valid :
    (let r : Settings := { defaultSettings with deadConfirm := 7 }
     let s : State := { yard with
        vl := { yard.vl with tables := { tables with settings := { load := .valid, records := [r] } } }, lm := { deadRun := 3 } }
     let t := after (.loadTableOnly 1 5 (putSettings r)) s
     t.vl.tables.settings = { load := .valid, records := [r] } ∧ t.lm.deadRun = 0) := by decide +kernel
theorem witness_table_leaves_valid : yard.vl.tables.directory.load = .valid ∧ yard.vl.tables.system.load = .valid
    ∧ yard.vl.tables.inputs.load = .valid ∧ ({ confirmed := .system 1 } : LineMonitor).confirmed = .system 1 := by decide
theorem witness_reads : (readTableOf board.vl.tables 0 7).isSome = true ∧ readTableOf board.vl.tables 0 8 = none
    ∧ (readRecord (framed board) 11).isSome = true ∧ readRecord (framed board) 12 = none := by decide
theorem witness_set_mode : board.vl.mode = .run ∧ yard.vl.mode = .standby ∧ failedEntryCheck yard = none
    ∧ failedEntryCheck { yard with vl := { yard.vl with tables := { tables with inputs := {} } } } = some 4 := by decide
/-- Each entry check fails alone: the roles, the pantographs, the profiles and the contacts. -/
theorem witness_entry_checks :
    (let with' (ts : Tables) : Option Nat := failedEntryCheck { yard with vl := { yard.vl with tables := ts } }
     with' { tables with gate := {} } = some 1 ∧ with' { tables with settings := {} } = some 5
       ∧ with' { tables with directory := { tables.directory with records := directory.drop 1 } } = some 8
       ∧ with' { tables with directory := { tables.directory with records := directory.take 3 } } = some 9
       ∧ with' { tables with profiles := { tables.profiles with records := profileTable.take 1 } } = some 10
       ∧ with' { tables with inputs := { tables.inputs with records := inputTable.drop 1 } } = some 11) := by decide
/-- A reply that is not the RESTART's own waits before it. -/
theorem witness_reply_before_restart :
    (let r : Reply := { seq := 1, code := 6, result := .done }
     r.code ≠ 0x05 ∧ ({ seq := 1, code := 5, result := .already } : Reply).result ≠ .done) := by decide
theorem witness_restart_reply :
    (let s : State := { yard with vl := { yard.vl with restartPending := true, replies := [{ seq := 1, code := 5, result := .done }] } }
     s.vl.link = .locked ∧ s.vl.replies = ({ seq := 1, code := 5, result := .done } : Reply) :: []
       ∧ s.vl.restartPending = true ∧ s.powered = true) := by decide
/-- 15 and 16 digests either side of the threshold, and each kind of item alone. -/
theorem witness_transmitter :
    (settings board).digestThreshold = 16
    ∧ firstSlot board.ru = none ∧ (firstSlot (placeReport (.reportMark 7 .queue none) { s := board }).s.ru).isSome = true
    ∧ fullQueue.vl.replies = { seq := 1, code := 6, result := .done } :: List.replicate 7 { seq := 1, code := 6, result := .done }
    ∧ ({ statusDue := true } : ReportUnit).statusDue = true := by decide
theorem witness_frames : (Instr.position 4294967295 12000 1).wf = true ∧ (vehicleBytes (.position 4294967295 12000 1)).isSome = true
    ∧ (Instr.announce 0 255 4294967295).wf = true ∧ (Instr.headStatus 0 (List.replicate 237 0)).wf = true
    ∧ (Instr.cell 0 255 true (List.replicate 16 (-32768)) 65535).wf = true
    ∧ ([0x05, 0x00] : List Byte) ≠ put16 (crc16 [2, 0, 0, 1]).toNat := by decide +kernel

/-- R178: a directory that becomes VALID with another kind at port 6, with an announced port that fits and one without a record.
-/
theorem witness_directory_becomes_valid :
    (let ts : Tables := { tables with directory := { load := .loading, records := directory.take 5 } }
     let s : State := { yard with vl := { yard.vl with tables := ts }, roles := Vector.replicate 8 {} }
     let bytes : List Byte := [6, 6, 23, 3, 0xE8, 2, 0]
     let r := ts.directory.append directoryForm bytes
     s.vl.tables.directory.load = .loading ∧ r.2.failure = none ∧ (r.1.validated directoryForm).2 = none
       ∧ (after (.loadTableLast 1 0 bytes) s).ports[6].link = .barred ∧ (after (.loadTableLast 1 0 bytes) s).ports[1] = lockedPort 17
       ∧ (after (.loadTableLast 1 0 bytes) s).ports[7] = {}) := by decide
/-- R85: a map that becomes VALID with the strip switch on a line at its active level, and with another on a line that is not. -/
theorem witness_map_becomes_valid :
    (let ts : Tables := { tables with inputs := { load := .loading, records := [inRecord 6 .stripA .none] } }
     let s : State := { yard with vl := { yard.vl with tables := ts }, inputs := board.inputs.set 6 (settledLine .high) }
     let bytes : List Byte := putInputMap (inRecord 5 .roofAccess .none)
     let r := ts.inputs.append inputForm bytes
     let t := after (.loadTableLast 1 4 bytes) s
     s.vl.tables.inputs.load = .loading ∧ r.2.failure = none ∧ (r.1.validated inputForm).2 = none
       ∧ functionActive t .stripA = true ∧ functionActive t .roofAccess = false) := by decide
/-- R202, R204: the HEAD_STATE report of a loss goes before one that is no loss, and an urgent report before both. -/
theorem witness_slot_order :
    (let head (role : Role) (after : Presence) : Report := .headState role (some 1) .present after .link none none none none none
     let slots (rs : List Report) : ReportUnit := (rs.foldl (fun (s : State) r => s.reported r) board).ru
     let first (rs : List Report) : Option Nat := (firstSlot (slots rs)).map fun x => x.1.val
     first [] = none ∧ first [head .switchgear .present, head .heater .lost] = some (slotOf (head .heater .lost)).val ∧ first [head .panA .present, .reportMark 1 .queue none] = some 6
       ∧ first [.reportMark 1 .queue none, head .aux2 .lost] = some 12
       ∧ slotOf (head .switchgear .lost) = 5 ∧ slotOf (head .aux2 .present) = 12) := by decide

/-! ### Clauses that the statements gained -/

/-- A GATE table with one record for a role and a kind, of a hold time. -/
def withRecord (s : State) (role : Role) (kind : Kind) (origins : BitVec 8) (conditions : BitVec 16) (holdTime : Nat) : State :=
  { s with vl := { s.vl with tables := { s.vl.tables with gate := { load := .valid, records :=
    [{ role := .named role, kind := .named kind, origins, conditions, speedLimit := none, holdTime }] } } } }
/-- A member of each family, the line 11 and the tables 7 and 0 among them. -/
theorem witness_other_families : Instr.setModeRun 1 ∈ [Instr.setModeRun 1, .setModeStandby 1]
    ∧ Instr.position 1 12000 0 ∈ [Instr.position 1 12000 0, .staleDeadlineExpiry] ∧ (7 : Nat) ≠ 0 ∧ (0 : Nat) ≠ 4
    ∧ Instr.vlBadFrame ∈ [Instr.vlLightAppears, .vlLockAchieved, .vlLockLost, .vlLightLost, .vlBadFrame]
    ∧ Instr.inputClear 1 11 ∈ [Instr.inputArm 1 11, .inputClear 1 11] := by decide
/-- R51: 20 and 19 mbar from the last hold pressure; a HOLD that the table refuses, and one for a head that is away. -/
theorem witness_hold_at_a_frame :
    (let s (speed : Nat) (t : State) : State := { t with pr := { t.pr with position := { placed 5 with speed } } }
     let hold (t : State) : Act := takeNote (.panHold .a) { s := t }
     let refusing (t : State) : State := withRecord t .panA .hold 1 0 0
     speed (s 8083 collecting) = 8083 ∧ (hold (s 8083 collecting)).s.pans.a.lastHold = some 3846
       ∧ (hold (s 8096 collecting)).s = s 8096 collecting
       ∧ (hold (s 8083 (refusing collecting))).s.pans.a.lastHold = some 3866
       ∧ judge (refusing collecting) (holdCommand .a 3846) = some .origin
       ∧ (hold { s 8083 collecting with roles := Vector.replicate 8 {} }).s.pans.a.lastHold = some 3846
       ∧ rolePresent { collecting with roles := Vector.replicate 8 {} } .panA = false) := by decide
/-- R57, R58: AWAIT_MB at its lower deadline and at its DOWN contact, with a latch and without, the head there or away. -/
theorem witness_await_mb_off_the_wire : awaiting.pans.a.lowerDeadline = some 8000 ∧ awaiting.pans.a.primary = some .vehicle
    ∧ (after (.lowerDeadlineExpiry .a) awaiting).sent = [{ port := 1, payload := [3] }]
    ∧ (downContactOn .a { s := awaiting }).s.pans.a.state = .down
    ∧ (downContactOn .a { s := { awaiting with pans := { awaiting.pans with
          a := { awaiting.pans.a with causes := [.vehicle, .drop] } } } }).s.pans.a.latch = some .drop
    ∧ (downContactOn .a { s := { awaiting with roles := Vector.replicate 8 {} } }).s.sent = [] := by decide
/-- R136: a start over a scraping PAN_B, UP and RAISING, with MB reported OPEN, and with a move of MB in flight. -/
theorem witness_start_over_a_scrape :
    (let s (b : PanRecord) : State := { collecting with pans := { collecting.pans with b } }
     let flies : State := { board with sg := { closedUp.sg with
        mb := { reported := .closed, target := some .opened, move := some { origin := .pan, deadline := 9, timeout := 9 } } } }
     (systemRecord board 3).bind (noopPan (s (scraper .up)) 3) = none ∧ flies.sg.mb.move ≠ none
       ∧ (panOf (s (scraper .raising)) .b).state = .raising ∧ (scraper .up).role = some .scrape
       ∧ [s (scraper .up), s (scraper .raising), board, flies].map (fun s =>
            (let t := after (.changeoverStart 1 3 none) s
             (t.co.step, t.pans.b.phase, answers t))) =
          [(.loweringOld, some .venting, [(.accepted, [])]), (.loweringOld, some .venting, [(.accepted, [])]),
           (.selecting, none, [(.accepted, [])]), (.opening, none, [(.accepted, [])])]) := by decide
/-- R150: an abort that ends at once, at WRONG_SYSTEM too, one that waits for PAN_B, and one that waits for MB. -/
theorem witness_abort_acts :
    (let s (b : PanRecord) : State := { board with pans := { board.pans with b }
                                                   co := { step := .verifying, newPan := some .b, usable := some true } }
     let up : PanRecord := { panUp with raiseOrigin := some .sequencer }
     let ends (reason : AbortReason) (s : State) : CoStep × PanState × List Pan :=
      (let t := (abort reason none .verifying [] { s }).s
       (t.co.step, t.pans.b.state, t.co.awaited))
     ends .vehicle (s up) = (.idle, .up, []) ∧ ends .wrongSystem (s up) = (.idle, .lowering, [])
       ∧ ends .vehicle (s { raising.pans.a with raiseDeadline := some 9 }) = (.idle, .lowering, [])
       ∧ ends .vehicle { s up with sg := closedUp.sg } = (.aborting, .up, [])
       ∧ (abort .vehicle none .verifying [] { s := { s up with sg := closedUp.sg } }).s.co.requested = [(.mb, .opened)]) := by
  decide
/-- R141, R148: one change that ends the last move of SELECTING and finds MB engaged (assumption log 60). -/
theorem test_engaged_breaker_before_selecting :
    (let s (mb : Pos) : State :=
      { (stepping .selecting { requested := [(.ss, .dc)], newPan := some .b }).s with sg := { placedB with mb := { reported := mb } } }
     let co (mb : Pos) : Changeover := (takeNote .coSwitch { s := s mb }).s.co
     ((co .closed).abortReason, (co .closed).abortStep) = (some .mbClosed, some .selecting)
       ∧ (co .opened).step = .awaitRaise ∧ (co .opened).abortReason = none) := by decide
/-- R162, R165: a change through a score, and one through the switch's move that the gate refuses. -/
theorem witness_ice_causes :
    (let refusing : State := withRecord { icy with sg := { icy.sg with isoB := { reported := .closed } } } .switchgear .isoBMove 1 0 0
     let report (trigger : IceTrigger) (s : State) : Option Report := (evaluateIce trigger { s }).s.ru.slots[(20 : Fin 44)].report
     (moveRequest .isoB .opened .ice { s := refusing }).2 = .interlock .origin
       ∧ iceAfter refusing = (.heat, none, true)
       ∧ ((report .other icy).map fun r => match r with
            | .ice before after cause _ _ _ _ _ => (before, after, cause)
            | _ => (.inactive, .inactive, .mode)) = some (.heat, .scrape, .score)
       ∧ ((report .other { icy with ice := { icy.ice with state := .inactive, score := 39 } }).map fun r => match r with
            | .ice before after cause _ _ _ _ _ => (before, after, cause)
            | _ => (.heat, .heat, .score)) = some (.inactive, .watch, .mode)) := by decide
/-- R95, R98, R105, R106: a vehicle's move beside a held command, at a READ_ONLY head, against a close in flight, held, and
refused by a record that cannot hold it; an open of MB or ES is always admitted, and the held command is judged again after it. -/
theorem witness_vehicle_move_cases :
    (let command (d : Dev) (p : Pos) : Command :=
      { role := .switchgear, content := .move d p, payload := put8 0 ++ putPlace devsInOrder d ++ [devPositionByte d p]
        origin := .vehicle, seq := some 1 }
     let held : State := { board with holds := board.holds.set 0 (some { command := command .ss .dc, seq := 4, deadline := 5000, failed := .h2 }) }
     let closing : Device := { reported := .opened, target := some .closed, move := some { origin := .vehicle, deadline := 9, timeout := 9 } }
     let shut : List DirectoryRecord := directory.map fun r => { r with access := .named .readOnly }
     let masked : State := { board with vl := { board.vl with tables := { tables with directory := { load := .valid, records := shut } } } }
     let told (d : Dev) (p : Pos) (s : State) : Option (GateOutcome × Option Failed) :=
      ((after (.headCommand 1 .switchgear (command d p).payload) s).ru.slots[(33 : Fin 44)].report).map fun r => match r with
        | .gate _ _ _ _ outcome failed _ _ => (outcome, failed)
        | _ => (.admitted, none)
     holdOf held .switchgear ≠ none ∧ told .ss .dc held = some (.refused, some .busy) ∧ told .es .opened held = some (.admitted, none)
       ∧ told .ss .dc masked = some (.refused, some .masked) ∧ judge board (command .mb .opened) = none
       ∧ judge board (command .es .opened) = none
       ∧ (devOf { board with sg := board.sg.set .mb closing } .mb).target = some .closed
       ∧ told .mb .opened { board with sg := board.sg.set .mb closing } = none
       ∧ told .ss .dc (withRecord board .switchgear .ssMove 1 0x40 5000) = some (.held, some .positionFresh)
       ∧ told .ss .dc (withRecord board .switchgear .ssMove 1 0x40 0) = some (.refused, some .positionFresh)
       ∧ told .ss .dc (withRecord board .switchgear .ssMove 0 0x40 5000) = some (.refused, some .origin)) := by decide
/-- R195: the end of the heater table, a start at and beyond the number held, an INVALID table, and a table whose
records do not all fit in one reply. -/
theorem witness_read_contents :
    readTableOf board.vl.tables 2 6 = some [2, 0, 0, 3, 1, 3, 20, 0] ∧ readTableOf board.vl.tables 3 6 = some [2, 0, 0, 3, 0]
    ∧ readTableOf board.vl.tables 200 6 = some [2, 0, 0, 3, 0]
    ∧ readTableOf { tables with heater := { load := .invalid .duplicate 1, records := [⟨1, 40, .named false⟩] } } 0 6 =
        some [3, 1, 3, 1, 1, 1, 1, 1, 40, 1]
    ∧ (readTableData systemForm { load := .valid, records := List.replicate 12 (sysRecord 1 (1, 2) (3, 4) (5, 6) .ac .a .a 3) } 0).length
        ≤ 237
    ∧ readRecord { board with lm := { board.lm with windowSequence := 258 } } 0 =
        some [0, 0, 0, 1, 2, 0, 0, 0, 0, 0, 0]
    ∧ readRecord { located board 1416 with now := 300 } 6 =
        some [1, 0, 0, 5, 136, 0x20, 0x8D, 0, 1, 0, 0, 1, 44, 1, 3, 232, 0, 1, 0, 0, 2, 188, 1, 0, 0, 6, 129, 0, 0] := by decide +kernel
/-- R204: a reply that arrives at a free transmitter goes in its act, and one that arrives at a busy one waits. -/
theorem witness_take_at_arrival : (idleUp board).vl.replies = [] ∧ (idleUp board).ru.sending = none
    ∧ (after (.inputArm 3 12) (idleUp board)).ru.sending = some { cls := .reply, flags := 0, seq := 3, payload := [0x50, 0x1D, 0] }
    ∧ answers (after (.inputArm 3 12) board) = [(.range, [])] := by decide
/-- R201, R205: the STATUS payload of the board with a lost head and a mark waiting, and a GATE report's bytes. -/
theorem witness_payload_bytes :
    statusPayload (({ board with lm := { board.lm with confirmed := .system 3 } }.reported
        (.headState .line (some 0) .present .lost .link none none none none none)).reported (.reportMark 7 .queue none)) =
      [1, 3, 0, 0, 0, 0, 1, 0, 0, 4, 0, 0, 0, 0, 255, 255, 255, 255, 1, 0, 0, 0, 16, 1]
    ∧ reportPayload 0 (.gate .aux1 (some .aux) .vehicle (some 4) .refused (some .expired) (some .positionFresh) false) true =
      [13, 6, 1, 6, 11, 0, 1, 4, 0, 1, 29, 1, 23] := by decide
/-- R162, R164: a chain of steps from VERIFYING back to IDLE beside an evaluation that comes before the chain's own: SCRAPE is
entered and stays. A scrape in progress is left for a change of step that waits, whatever the step is by now (assumption
log 51). -/
theorem test_step_changes_that_wait :
    (let refused : State := withRecord icy .switchgear .mbClose 1 0 0
     let verifying : State := { refused with
        co := { step := .verifying, target := some 1, newPan := some .a, kept := true, oldSystem := some 1, usable := some true } }
     let chain : Act := settle 32 { s := verifying, notes := [.coLine, .iceEvaluate .other] }
     let waits (s : State) : Act := { s, notes := [.gateReview, .iceEvaluate .step] }
     chain.s.co.step = .idle ∧ chain.s.co.abortReason = some .interlock ∧ chain.notes = []
       ∧ (chain.s.ice.state, chain.s.ice.phase) = (.scrape, some .raising)
       ∧ (iceEvent .other (waits (scraping .active (scraper .up) 51))).s.ice.state = .heat
       ∧ (iceEvent .other (waits icy)).s.ice.state = .scrape
       ∧ .iceEvaluate .step ∉ (iceEvent .other (waits icy)).notes
       ∧ (setInhibit false (waits { icy with ice := { icy.ice with inhibit := true } })).s.ice.state = .scrape) := by decide
/-- What the GATE report of a role says after a HEAD_COMMAND: the kind, the outcome and the failed condition. -/
def toldAfter (role : Role) (payload : List Byte) (s : State) : Option (Option Kind × GateOutcome × Option Failed) :=
  ((after (.headCommand 1 role payload) s).ru.slots[(slotOf (.gate role none .vehicle none .refused none none false))].report).map
    fun r => match r with
    | .gate _ kind _ _ outcome failed _ _ => (kind, outcome, failed)
    | _ => (none, .admitted, none)
/-- The COMMAND frames that a HEAD_COMMAND sends. -/
def sentAfter (role : Role) (payload : List Byte) (s : State) : List SentCommand := (after (.headCommand 1 role payload) s).sent
/-- A RAMP to 1 500 mbar at 1 000 mbar a second. -/
def ramp : List Byte := [1, 5, 220, 3, 232]
/-- A command of PAN_A in its slot, and a directory whose heads are all READ_ONLY. -/
def slotTaken : State :=
  { board with holds := board.holds.set (roleIndex .panA) (some { command := holdCommand .a 3, seq := 4, deadline := 5000, failed := .h51 }) }
def readOnly : State :=
  { board with vl := { board.vl with tables := { tables with
      directory := { load := .valid, records := directory.map fun r => { r with access := .named .readOnly } } } } }
/-- R95, R98, R106: the head commands that are no moves are sent; a VENT also beside a held command. -/
theorem witness_head_commands_sent :
    [sentAfter .panA ramp board, sentAfter .panB [2, 12, 128] board, sentAfter .panA [3] slotTaken,
      sentAfter .heater [4, 0xC1] board, sentAfter .aux1 [7] board] =
      [[{ port := 1, payload := ramp }], [{ port := 3, payload := [2, 12, 128] }], [{ port := 1, payload := [3] }],
       [{ port := 4, payload := [4, 0xC1] }], [{ port := 6, payload := [7] }]] := by decide
/-- R95, R97, R105, R106: they are refused with KIND, BUSY, MASKED, an interlock and ORIGIN, and held. -/
theorem witness_head_commands_told :
    [toldAfter .heater ramp board, toldAfter .line [3] board, toldAfter .panA ramp slotTaken, toldAfter .panA [3] readOnly,
      toldAfter .heater [4, 0] readOnly, toldAfter .panA ramp yard, toldAfter .panA ramp (withRecord yard .panA .ramp 1 0 40),
      toldAfter .panA [2, 0, 9] (withRecord board .panA .hold 1 0x40 40),
      toldAfter .heater [4, 1] (withRecord board .heater .setGroups 0 0 40)] =
      [some (some .ramp, .refused, some .kind), some (some .vent, .refused, some .kind), some (some .ramp, .refused, some .busy),
       some (some .vent, .refused, some .masked), some (some .setGroups, .refused, some .masked),
       some (some .ramp, .refused, some .h51), some (some .ramp, .held, some .h51), some (some .hold, .held, some .positionFresh),
       some (some .setGroups, .refused, some .origin)] := by decide
/-- R183, R98: a VENT of a role that is away, with a directory record and without; an empty on-set is admitted. -/
theorem witness_head_commands_away :
    (let lost : State := { board with roles := Vector.replicate 8 {} }
     let bare : State := { lost with vl := { lost.vl with tables := { tables with directory := { load := .valid, records := [] } } } }
     let count (s : State) : Nat := (roleOf (after (.headCommand 1 .panA [3]) s) .panA).undelivered
     (count lost, count bare) = (1, 1) ∧ directoryOfRole bare .panA = none ∧ rolePresent lost .panA = false
       ∧ directoryOfRole lost .panA = some (dirRecord .panA 1 17 200 .none)
       ∧ judge (withRecord board .heater .setGroups 0 0 40)
          { role := .heater, content := .setGroups 0, payload := [4, 0], origin := .vehicle, seq := some 1 } = none) := by
  decide
/-- R95: content that names no command, or is shorter than its command's layout. -/
theorem witness_nameless_content :
    [[5], [255, 1], [1, 0, 0, 0], [2, 0], [4], [0, 1], [0, 5, 0]].map (fun payload => toldAfter .panB payload board) =
      List.replicate 7 (some (none, .refused, some .kind)) := by decide
/-- R52, R62, R65, R190: a cause for both pantographs, one UP and one scraping, by the requests and by the silence. -/
theorem witness_lower_both :
    (let s : State := scraping .active (scraper .up) 51
     let silence : State := { s with vl := { s.vl with active := true, silenceDeadline := some 500 } }
     let states (s : State) : PanState × PanState := (s.pans.a.state, s.pans.b.state)
     (settings silence).policy = .named .lower ∧ Sending silence
       ∧ (lowerPan .a .protect .orderly false { s }).2 = true
       ∧ (lowerPan .b .protect .orderly false (lowerPan .a .protect .orderly false { s }).1).2 = true
       ∧ states (takeNote (.panLowerBoth .protect .orderly) { s }).s = (.lowering, .lowering)
       ∧ states (after .vlSilenceExpiry silence) = (.lowering, .lowering)
       ∧ (takeNote (.panLowerBoth .protect .immediate) { s }).s.sent.map (·.port) = [1, 3]) := by
  unfold Sending; decide
/-- R107: a review of every slot, one that is empty, one that is admitted, and one that still fails. -/
theorem witness_review :
    holdOf holding .panA = none ∧ holdOf (takeNote .gateReview { s := holding }).s .aux1 ≠ none
    ∧ holdOf (takeNote .gateReview { s := located holding 5 }).s .aux1 = none
    ∧ (takeNote .gateReview { s := located holding 5 }).s.sent = [{ port := 6, payload := [1] }] := by decide
/-- R192: RESTART's code with a field that its layout does not have, while a RESTART is pending (assumption log 67), and not. -/
theorem test_restart_code_with_a_field :
    (let pending : State := { board with vl := { board.vl with restartPending := true } }
     vehicleFrame (framedBytes [0x02, 0, 1, 2, 0x05, 0]) = .unknownRequest 1 5
       ∧ answers (after (.unknownRequest 1 5) pending) = [(.busy, [])] ∧ answers (after (.restart 1) pending) = [(.already, [])]
       ∧ answers (after (.unknownRequest 1 5) board) = [(.range, [])]) := by decide +kernel

/-- R33: a dead run of arcs needs a pantograph UP in role COLLECT whose own isolating switch is reported CLOSED. -/
theorem witness_arc_eligible :
    arcEligible collecting = true ∧ arcEligible board = false ∧ arcEligible (scraping .active (scraper .up) 51) = true
    ∧ arcEligible { collecting with sg := { board.sg with isoA := { reported := .opened }, isoB := { reported := .closed } } } = false := by
  decide
/-- R118, R126: the ends of each range. -/
theorem witness_ranges :
    [1, 15].map (fun n => actionInRange (.changeover n (some 4294967295))) = [true, true]
    ∧ [0, 16].map (fun n => actionInRange (.changeover n none)) = [false, false]
    ∧ actionInRange (.changeover 3 (some 4294967296)) = false
    ∧ [255, 256].map (fun n => actionInRange (.reportMark n)) = [true, false]
    ∧ [0, 1, 2].map (fun m => entryInRange { action := .lowerAll, trigger := .onMarker m }) = [true, true, false]
    ∧ [4294967295, 4294967296].map (fun p => entryInRange { action := .scrapeInhibit true, trigger := .atPosition p }) = [true, false]
    ∧ queueUsesMarker { queue := [{ action := .lowerAll, trigger := .onMarker 1 }] } 1 = true := by decide
/-- R142: the raise position is reached at 1 416 dm and not a decimetre before, and never where one of its conditions is away. -/
theorem witness_raise_reached :
    (let s : State := { waiting with now := 500 }
     let co (f : Changeover → Changeover) : State := { s with co := f s.co }
     raiseReached s = true ∧ estimate s = some 1416 ∧ raiseReached (co fun c => { c with raisePosition := some 1417 }) = false
       ∧ raiseReached (co fun c => { c with raisePosition := none }) = false
       ∧ raiseReached (co fun c => { c with usable := some false }) = false
       ∧ raiseReached { s with pr := { s.pr with position := { s.pr.position with fresh := false } } } = false
       ∧ raiseTime waiting = some 500) := by decide
/-- R135: a NOOP by PAN_A, and each condition away in turn. -/
theorem witness_noop :
    (let s : State := { closedUp with lm := { closedUp.lm with confirmed := .system 1 } }
     let noop (s : State) (target : Nat) : Option Pan := (systemRecord s target).bind (noopPan s target)
     noop s 1 = some .a ∧ noop s 2 = none ∧ noop closedUp 1 = none ∧ noop { s with sg := collecting.sg } 1 = none
       ∧ noop { s with sg := { s.sg with ss := { reported := .dc } } } 1 = none ∧ noop { s with pans := board.pans } 1 = none
       ∧ noop { s with lm := { s.lm with confirmed := .system 3 }, sg := { s.sg with ss := { reported := .dc } } } 3 = none) := by
  decide
/-- R175: the shortest STATUS of a role, one byte less, and the longest. -/
theorem witness_status_lengths :
    statusFits (some .climate) (List.replicate 7 0) = true ∧ statusFits (some .climate) (List.replicate 6 0) = false
    ∧ statusFits none (List.replicate 237 0) = true ∧ statusFits none (List.replicate 238 0) = false
    ∧ statusFits (some .heater) [] = false ∧ roleOfPort board 0 = some .line ∧ roleOfPort board 7 = none := by decide +kernel
/-- R47: 1 mbar at 1 000 mbar a second takes 1 ms, and at 999 takes 2, up as down. -/
theorem witness_stage_duration : (0 : Nat) < 1000 ∧ stageDuration 1500 ⟨1501, 1000⟩ = 1 ∧ stageDuration 1500 ⟨1499, 999⟩ = 2
    ∧ stageDuration 1500 ⟨1500, 1⟩ = 0 := by decide
/-- R11, R34: a LAST block that makes SETTINGS VALID with a value of the window that differs, with one of the dead run, with
neither, and one that does not make it VALID; and an ONLY block whose values are those in force, which differ from the defaults. -/
theorem witness_settings_become_valid :
    (let monitor : LineMonitor := { deadRun := 3, expected := some 9, acc := { cells := 4 } }
     let loading (rs : List Settings) : State :=
      { yard with vl := { yard.vl with tables := { tables with settings := { load := .loading, records := rs } } }, lm := monitor }
     let last (r : Settings) : Nat × Nat × Option Nat :=
      (let l := (after (.loadTableLast 1 5 []) (loading [r])).lm
       (l.acc.cells, l.deadRun, l.expected))
     let r : Settings := { defaultSettings with windowLength := 40, deadConfirm := 7 }
     let valid : State := { loading [] with vl := { yard.vl with tables := { tables with settings := { load := .valid, records := [r] } } } }
     last { defaultSettings with hysteresis := 301 } = (0, 3, none) ∧ last { defaultSettings with deadThreshold := 601 } = (4, 0, some 9)
       ∧ last { defaultSettings with mbOpen := 81 } = (4, 3, some 9)
       ∧ settings (after (.loadTableLast 1 5 []) (loading [r])) = r
       ∧ (after (.loadTableLast 1 5 []) (loading [])).lm = monitor
       ∧ settings valid = r ∧ settings (after (.loadTableOnly 1 5 (putSettings r)) valid) = r
       ∧ (after (.loadTableOnly 1 5 (putSettings r)) valid).lm = { monitor with acc := {}, expected := none, deadRun := 0 }) := by
  decide +kernel
/-- R28: SYSTEM at FIRST, at ONLY with records and without, and at LAST. -/
theorem witness_system_table :
    (let monitor : LineMonitor := { confirmed := .system 1, candidate := some { cls := .dead, count := 1 }, windowSequence := 7 }
     let s : State := { yard with lm := monitor }
     let loading : State := { s with vl := { yard.vl with tables := { tables with system := { load := .loading, records := systems } } } }
     let line (t : State) : Option Report := t.ru.slots[(14 : Fin 44)].report
     let load (t : State) : LoadState := t.vl.tables.system.load
     let first : State := after (.loadTableFirst 1 2 []) s
     let only : State := after (.loadTableOnly 1 2 (systems.flatMap putSystem)) s
     let empty : State := after (.loadTableOnly 1 2 []) loading
     let last : State := after (.loadTableLast 1 2 []) loading
     let short : State := after (.loadTableLast 1 2 [1]) loading
     [first, only, empty, last, short].map (·.lm) =
         [{ monitor with confirmed := .unknown, candidate := none }, { monitor with confirmed := .unknown, candidate := none }, monitor,
          { monitor with candidate := none }, monitor]
       ∧ [first, only, empty, last, short].map load =
         [.loading, .valid, .invalid .empty 0, .valid, .invalid .field 4]
       ∧ line first = some (.line .unknown (.system 1) .table 7 none) ∧ line only = line first ∧ line empty = none ∧ line last = none) := by
  decide +kernel
/-- R80, R67, R173: a RESTART with MB engaged under a collecting pantograph, with MB idle, with an open and with a close in
flight; the scrape inhibit and the hold-off; the empty on-set. -/
theorem witness_restart_effects :
    (let pending (s : State) : State :=
      { s with vl := { s.vl with mode := .standby, restartPending := true, replies := [{ seq := 1, code := 5, result := .done }] } }
     let restarted (s : State) : State := after .transmitterFree (pending s)
     let flying (target : Pos) : State :=
      { board with sg := board.sg.set .mb { reported := .unknown, target := some target, move := some { origin := .vehicle, deadline := 9, timeout := 9 } } }
     let mb (s : State) : Option Pos × Option Move := ((restarted s).sg.mb.target, (restarted s).sg.mb.move)
     let opening (o : Origin) : Option Pos × Option Move := (some .opened, some { origin := o, deadline := 80, timeout := 80 })
     mb closedUp = opening .pan ∧ mb collecting = opening .protection ∧ mb (flying .closed) = opening .protection
       ∧ mb (flying .opened) = (some .opened, some { origin := .vehicle, deadline := 9, timeout := 9 })
       ∧ mb { closedUp with roles := Vector.replicate 8 {} } = (none, none)
       ∧ (let t := restarted { closedUp with inputs := awaiting.inputs }
          (t.pans.a.phase, t.pans.a.causes) = (some .venting, [.protect]) ∧ (restarted closedUp).pans.a.state = .down)
       ∧ (restarted awaiting).pans.a.ventGuard = none
       ∧ (let t := restarted { icy with ice := { icy.ice with inhibit := true, holdOff := true, arcCount := 2
                                                              climate := some { ambient := 0, humidity := 90, stripA := 0, stripB := 0, current := true } } }
          (t.ice.inhibit, t.ice.holdOff, t.ice.setting, t.ice.arcCount, t.ice.commanded) = (false, false, .auto, 0, some 0)
            ∧ ({ port := 4, payload := [4, 0] } : SentCommand) ∈ t.sent)) := by decide
/-- R201, R207: the bytes of one report each of kinds of its own layout, of a telemetry item and of a reply. -/
theorem witness_frame_bytes :
    [reportPayload 0 (.panFault .a .drop [.drop, .headLost] (some 258)) false,
      reportPayload 0 (.queueFlushed (.jump 3 10 20)) false,
      reportPayload 0 (.actionFired .m1 (.changeover 3 (some 9)) none (some 7) .accepted) false].map (·.drop 3) =
      [[1, 2, 0x40, 1, 1, 2], [0, 3, 0, 0, 0, 10, 0, 0, 0, 20], [2, 0, 3, 1, 0, 0, 0, 9, 0, 1, 0, 0, 0, 7, 1]]
    ∧ telemetryPayload { role := .heater, port := 4, kind := 20, payload := [9] } = [4, 4, 20, 9]
    ∧ replyPayload { seq := 1, code := 0x50, result := .range } = [0x50, 0x1D, 0] := by decide +kernel

/-- What the users of a table find in it, VALID or LOADING, and the first of two records that could only stand in a table not
yet checked. -/
theorem witness_lookups :
    (let s (load : LoadState) : State :=
      { board with vl := { board.vl with tables := { tables with profiles := { load, records := [⟨3, [], 9, 0, 0, 0⟩] ++ profileTable } } } }
     (profileRecord (s .valid) 3).map (·.holdBase) = some 9 ∧ profileRecord (s .valid) 2 = none ∧ profileRecord (s .loading) 3 = none
       ∧ systemRecord board 3 = systems[2]? ∧ gateRecord board .aux1 .aux = none ∧ inputMapRecord board 9 = none
       ∧ (directoryOfPort board 6).map (·.role) = some (.named .aux1)) := by decide
/-- R91: the four contacts of a part with the supply, the vent of PAN_B and the trip asserted and not. -/
theorem witness_contacts :
    (let s : State := { board with pans := { board.pans with b := { panDown with vent := true } }, sg := { board.sg with mbTrip := true }
                                   vl := { board.vl with active := true } }
     [0, 1, 2, 3].map (contactClosed s) = [true, false, false, true] ∧ [0, 1, 2, 3].map (contactClosed board) = [true, true, true, false]
       ∧ s.powered = true) := by decide

/-! ### Heads that are away, tables block by block, and the bytes of records and frames -/

/-- A part whose PAN_A head is LOST, with VENT, RAMP and HOLD undelivered so far. -/
def away (s : State) (count : Nat) : State := { s with roles := s.roles.set 1 { presence := .lost, undelivered := count } }
/-- The state of PAN_A, its phase, its vent, the undelivered commands of its role and the commands sent. -/
def panA (s : State) : PanState × Option LowerPhase × Bool × Nat × Nat :=
  (s.pans.a.state, s.pans.a.phase, s.pans.a.vent, (roleOf s .panA).undelivered, s.sent.length)
/-- R57, R61, R183: a lowering begins while the head is away: by HEAD_LOST at an inactive and at an active DOWN contact, in AWAIT_MB, and
past it; the MB open is the one command sent. -/
theorem witness_vent_for_head_away :
    (let up (s : State) (line : Level) (count : Nat) : Act := { s := away { s with inputs := s.inputs.set 1 (settledLine line) } count }
     rolePresent (away collecting 4) .panA = false ∧ mbEngaged (away collecting 4) = false ∧ mbEngaged (away closedUp 4) = true
       ∧ [(collecting, Level.low, 4, LowerCause.headLost, CauseKind.immediate), (collecting, .high, 4, .headLost, .immediate),
          (closedUp, .low, 65535, .vehicle, .orderly), (closedUp, .low, 65535, .strip, .immediate)].map
            (fun x => panA (beginLowering .a x.2.2.2.1 x.2.2.2.2 false (up x.1 x.2.1 x.2.2.1)).s) =
          [(.lowering, some .venting, true, 5, 0), (.down, none, false, 5, 0), (.lowering, some .awaitMb, false, 65535, 1),
           (.lowering, some .venting, true, 65535, 1)]) := by decide
/-- R54, R56, R58, R183: the guard, MB reported OPEN, an immediate cause and the lower deadline in AWAIT_MB, the head away. -/
theorem witness_await_mb_for_head_away :
    (let waits : State := away awaiting 0
     panA (after (.ventGuardExpiry .a) waits) = (.lowering, some .venting, false, 1, 0)
       ∧ panA (takeNote (.panMb .a) { s := { waits with sg := board.sg } }).s = (.lowering, some .venting, false, 1, 0)
       ∧ panA (after (.lowerDeadlineExpiry .a) waits) = (.fault, none, true, 1, 0)
       ∧ panA (stripOn .a { s := waits }).s = (.lowering, some .venting, true, 1, 0)) := by decide
/-- R47, R49, R51: a later stage and the hold pressure while the head is away, and a HOLD that the gate refuses. -/
theorem witness_ramp_and_hold_for_head_away :
    (let a : Act := { s := away raising 0 }
     let t : State := after (.stageDeadlineExpiry .a) a.s
     let up : State := (upContactOn .a a).s
     let refused : Act := { s := withRecord raising .panA .hold 1 0x40 40 }
     judge a.s (rampCommand .a 3000 400 .vehicle) = none ∧ judge a.s (holdCommand .a 3200) = none
       ∧ (t.pans.a.stage, t.pans.a.stageDeadline, (roleOf t .panA).undelivered, t.sent) = (some 1, some 5250, 1, [])
       ∧ (up.pans.a.state, up.pans.a.lastHold, (roleOf up .panA).undelivered, up.sent) = (.up, some 3200, 1, [])
       ∧ judge refused.s (holdCommand .a 3200) ≠ none
       ∧ ((upContactOn .a refused).s.pans.a.state, (upContactOn .a refused).s.pans.a.lastHold) = (.up, none)
       ∧ (upContactOn .b a).s = a.s) := by decide
/-- R183: a MOVE that is admitted while the switchgear head is away is counted, and begins no move. -/
theorem witness_move_for_head_away :
    (let s : State := { closedUp with roles := closedUp.roles.set 0 { presence := .lost, undelivered := 65535 } }
     let t := after (.headCommand 1 .switchgear [0, 0, 0]) s
     (roleOf t .switchgear).undelivered = 65535 ∧ t.sg.mb = s.sg.mb ∧ t.sent = []
       ∧ (roleOf (after (.headCommand 1 .switchgear [0, 0, 0]) stillBoard) .switchgear).undelivered = 1) := by decide
/-- R168: no budget and no headroom, with MB not CLOSED, without a system code, without its record and without a window; and some. -/
theorem witness_no_heater_budget :
    (let w : WindowResult := { m := 5, vac := 15000, f := 1666, c := 7, iw := 630, sat := false }
     let s : State := { closedUp with lm := { confirmed := .system 1, last := some w } }
     let lm (f : LineMonitor → LineMonitor) : State := { s with lm := f s.lm }
     [s, { s with sg := board.sg }, lm fun l => { l with confirmed := .dead }, lm fun l => { l with confirmed := .system 5 },
        lm fun l => { l with last := none }].map heaterBudget = [(75825, 120), (0, 0), (0, 0), (0, 0), (0, 0)]
       ∧ systemRecord s 5 = none) := by decide
/-- Frame layouts: the ends of the ranges of a record's fields, an enumerated byte past its list, a presence byte that is neither
0 nor 1, a record that is cut off, and one whose neighbours differ. -/
theorem witness_records_read :
    (let sys : SystemRecord :=
      { code := 255, vacLo := 65535, vacHi := 1, dcLo := 2, dcHi := 256, fLo := 16777215, fHi := 65536, selector := .named .dc
        panSet := .unnamed 3, preferred := .named .b, raiseProfile := 4, persistence := 5, iMax := 600, budget := 700
        scrapePermitted := .named false, scrapeSpeed := some 800, scrapeProfile := none }
     getSystem (putSystem sys ++ [7]) = some (sys, [7])
       ∧ getClimate [0x80, 0, 0x7F, 0xFF, 1, 2] = some (⟨-32768, 32767, 1, 2⟩, [])
       ∧ getHeater [255, 0, 2, 9] = some (⟨255, 0, .unnamed 2⟩, [9]) ∧ getHeater [255, 0] = none
       ∧ getDirectory [7, 1, 2, 1, 0, 3, 1] =
          some ({ role := .named .aux2, port := 1, kind := 2, silence := 256, forwarding := .unnamed 3, access := .named .readOnly }, [])
       ∧ (getGate [3, 10, 15, 1, 0, 2, 0, 1, 0, 2] = none)
       ∧ (getGate [3, 10, 15, 1, 0, 1, 0, 1, 0, 2]).map (·.1) =
          some { role := .named .heater, kind := .named .setGroups, origins := 15, conditions := 256, speedLimit := some 1, holdTime := 2 }
       ∧ (getProfile [1, 2, 0, 1, 0, 2, 0, 3, 0, 4, 0, 5, 6, 0, 7, 0, 8]).map (·.1) = some ⟨1, [⟨1, 2⟩, ⟨3, 4⟩], 5, 6, 7, 8⟩
       ∧ (getInputMap [11, 9, 3, 1, 2]).map (·.1) = some ⟨11, .named .general, 3, .named .low, .named .toInactive⟩) := by decide +kernel
theorem witness_settings_read :
    (let r : Settings := { defaultSettings with windowLength := 255, arcWindow := 65535, verifyTimeout := 16777215, policy := .unnamed 2 }
     getSettings (putSettings r ++ [1]) = some (r, [1]) ∧ getSettings ((putSettings r).take 43) = none) := by decide +kernel
/-- R178, R193: HEAD_DIRECTORY leaves VALID at FIRST, at an ONLY that is VALID and at one that is not, with a port BARRED, one
locked without a kind, a role LOST and one ABSENT; R104: at ONLY the hold slots are emptied. -/
theorem witness_directory_leaves_valid :
    (let barred : PortRecord := { lockedPort 17 with link := .barred, badFrames := 2 }
     let s : State := { yard with ports := (yard.ports.set 1 barred).set 6 { lockedPort 22 with kind := none }
                                  roles := yard.roles.set 1 { presence := .lost } }
     let same : List Byte := directory.flatMap putDirectory
     let other : List Byte := (directory.map fun d => { d with kind := d.kind + 1 }).flatMap putDirectory
     let first : State := after (.loadTableFirst 1 0 []) s
     let only (bytes : List Byte) : State := after (.loadTableOnly 1 0 bytes) s
     let links (t : State) : List PortLink := [t.ports[1].link, t.ports[2].link, t.ports[6].link]
     [first, only [], only same, only other].map links =
         [[.locked, .locked, .locked], [.locked, .locked, .locked], [.locked, .locked, .locked], [.barred, .barred, .locked]]
       ∧ [first, only [], only same, only other].map (·.vl.tables.directory.load) = [.loading, .invalid .empty 0, .valid, .valid]
       ∧ [first, only [], only same, only other].all (fun t => [Role.switchgear, .panA, .heater, .aux2].all fun r => presenceOf t r == .absent)
       ∧ (only same).ru.slots[slotOf (.headState .panA none .lost .absent .directory none none none none none)].report =
          some (.headState .panA none .lost .absent .directory none none none none none)) := by decide +kernel
theorem witness_held_at_only :
    (let s : State := { holding with vl := { holding.vl with mode := .standby } }
     [0, 1].all fun id => (holdOf s .aux1).isSome && (holdOf (after (.loadTableOnly 1 id []) s) .aux1).isNone) = true := by decide
/-- R85, R88, R193: INPUT_MAP leaves VALID at FIRST and at ONLY, with PAN_A's UP contact active, and the new map finds its own. -/
theorem witness_input_map_leaves_valid :
    (let s : State := { yard with pans := { yard.pans with a := panUp }
                                  inputs := (yard.inputs.set 0 (settledLine .high)).set 4 { settledLine .low with latch := .armed } }
     let first : State := after (.loadTableFirst 1 4 []) s
     let only (rs : List InputMapRecord) : State := after (.loadTableOnly 1 4 (rs.flatMap putInputMap)) s
     functionActive s .panAUp = true
       ∧ [first, only [], only inputTable, only (inputTable ++ inputTable)].map (fun t => (t.vl.tables.inputs.load, t.inputs[4].latch)) =
          [(.loading, .disarmed), (.invalid .empty 0, .disarmed), (.valid, .disarmed), (.invalid .overflow 12, .disarmed)]
       ∧ functionActive first .panAUp = false ∧ functionActive (only inputTable) .panAUp = true
       ∧ first.pans.a.state ≠ .up ∧ (only inputTable).pans.a.state ≠ .up) := by decide +kernel
/-- R169: the load state of HEATER and of SYSTEM moves the allocation in the part of the block that changes it. -/
theorem witness_allocation_follows_tables :
    (let w : WindowResult := { m := 5, vac := 15000, f := 1666, c := 7, iw := 630, sat := false }
     let s : State := { closedUp with
        lm := { confirmed := .system 1, last := some w }, ice := { state := .heat, setting := .forceHeat, allocated := 1, budget := 120, headroom := 1 }
        vl := { board.vl with mode := .standby } }
     let loading : State := { s with vl := { s.vl with tables := { tables with heater := { load := .loading, records := [⟨1, 40, .named false⟩] } } } }
     let ice (t : State) : Groups × Nat × Nat := (t.ice.allocated, t.ice.headroom, t.ice.budget)
     ice (after (.loadTableFirst 1 6 []) s) = (0, 75825, 120) ∧ ice (after (.loadTableOnly 1 6 [1, 40, 0]) s) = (1, 75825, 120)
       ∧ ice (after (.loadTableOnly 1 6 [1, 40]) s) = (0, 75825, 120) ∧ ice (after (.loadTableMiddle 1 6 []) loading) = (1, 1, 120)
       ∧ ice (after (.loadTableMiddle 1 6 [1]) loading) = (0, 75825, 120) ∧ ice (after (.loadTableLast 1 6 [2, 20, 0]) loading) = (3, 75825, 120)
       ∧ ice (after (.loadTableFirst 1 2 []) s) = (0, 0, 0)) := by decide +kernel
/-- R188, R192, frame layouts: the bytes of frames written out from their layouts, commands that have no frame, and frames that no
command makes. -/
theorem witness_frame_layouts :
    vehicleBytes (.panRaise 5 .b .scrape 3) = some (framedBytes [2, 0, 5, 4, 0x10, 1, 1, 3])
    ∧ vehicleBytes (.changeoverStart 5 3 (some 258)) = some (framedBytes [2, 0, 5, 7, 0x20, 3, 1, 0, 0, 1, 2])
    ∧ vehicleBytes (.queueAppend 5 [{ action := .reportMark 9, trigger := .onMarker 1 }, { action := .lowerAll, trigger := .atPosition 7 }]) =
        some (framedBytes [2, 0, 5, 12, 0x30, 2, 3, 1, 1, 9, 1, 0, 0, 0, 0, 7])
    ∧ vehicleBytes (.markerLoad 5 1 [.scrapeInhibit false]) = some (framedBytes [2, 0, 5, 5, 0x32, 1, 1, 2, 1])
    ∧ vehicleBytes (.position 258 772 2) = some (framedBytes [1, 0, 0, 7, 0, 0, 1, 2, 3, 4, 2])
    ∧ [Instr.vlSilenceExpiry, .unknownRequest 1 0x60, .transmitterFree].map vehicleBytes = [none, none, none]
    ∧ [[0, 0, 1, 1, 5], [4, 0, 1, 1, 5], [1, 0, 1, 6, 0, 0, 0, 0, 0, 0], [2, 0, 1, 0], [3, 0, 1, 1, 0], [3, 0, 1, 2, 8, 0]].map
        (fun l => vehicleFrame (framedBytes l)) = List.replicate 6 .vlBadFrame
    ∧ [[0x13, 0, 0, 0], [0x10, 0, 0, 4, 1, 2, 3, 4], [0x12, 0, 0, 1, 0]].map (fun l => headFrame 3 (framedBytes l)) =
        List.replicate 3 (.headBadFrame 3)
    ∧ [0, 7, 0xFF].map (fun code : Byte => vehicleFrame (framedBytes [2, 0, 9, 1, code])) =
        [.unknownRequest 9 0, .unknownRequest 9 7, .unknownRequest 9 255] := by decide +kernel

end Sys2Proof.Tests
end

namespace Sys2Proof.Machine

/-! SUPPORT. A frame principle for the blocks of the roof. A reading of the state that does not see the Pan Records, the Switchgear
Record, the hold slots, the Changeover Record, the Ice Record apart from its score, the report slots, the commands sent and the
order choices, and that no count of an undelivered command changes, is not changed by anything these blocks do. The Line Monitor,
the Position and Route Unit and the ice score have lemmas of their own. -/

section
variable {α : Sort*} {π : State → α}

/-- A reading of a state, as a function that `simp` can find. -/
def State.read (π : State → α) (s : State) : α := π s

/-- The reading sees nothing that the blocks of the roof change. -/
structure BlindToRoof (π : State → α) : Prop where
  pans : ∀ s v, π { s with pans := v } = π s
  sg : ∀ s v, π { s with sg := v } = π s
  holds : ∀ s v, π { s with holds := v } = π s
  co : ∀ s v, π { s with co := v } = π s
  ice : ∀ s (v : Ice), v.score = s.ice.score → π { s with ice := v } = π s
  slots : ∀ s v, π { s with ru := { s.ru with slots := v } } = π s
  sent : ∀ s v, π { s with sent := v } = π s
  choices : ∀ s v, π { s with choices := v } = π s
  undelivered : ∀ s (i : Fin 8),
    π { s with roles := updAt s.roles i fun r => { r with undelivered := bump16 r.undelivered } } = π s

/-! ## Updates -/

@[simp] theorem Act.notify_read (ns : List Note) (a : Act) : (a.notify ns).s.read π = a.s.read π := rfl
@[simp] theorem Act.tellLine_read (a : Act) : a.tellLine.s.read π = a.s.read π := rfl
@[simp] theorem Act.tellSwitchgear_read (moved : Bool) (a : Act) : (a.tellSwitchgear moved).s.read π = a.s.read π := rfl
@[simp] theorem Act.tellPan_read (p : Pan) (new : PanState) (cause : Option LowerCause) (a : Act) :
    (a.tellPan p new cause).s.read π = a.s.read π := rfl
@[simp] theorem Act.tellStep_read (a : Act) : a.tellStep.s.read π = a.s.read π := rfl

/-- A list of operations that each leave the reading alone leaves it alone. -/
theorem foldl_read {β : Type} (f : Act → β → Act) (h : ∀ a x, (f a x).s.read π = a.s.read π) (l : List β) (a : Act) :
    (l.foldl f a).s.read π = a.s.read π := by
  induction l generalizing a with
  | nil => rfl
  | cons x l ih => rw [List.foldl_cons, ih, h]

section
variable (hb : BlindToRoof π)
include hb

@[simp] theorem Act.modPans_read (f : Pans → Pans) (a : Act) :
    (a.modPans f).s.read π = a.s.read π := hb.pans _ _
@[simp] theorem Act.modPan_read (p : Pan) (f : PanRecord → PanRecord) (a : Act) :
    (a.modPan p f).s.read π = a.s.read π := hb.pans _ _
@[simp] theorem Act.modSg_read (f : Switchgear → Switchgear) (a : Act) :
    (a.modSg f).s.read π = a.s.read π := hb.sg _ _
@[simp] theorem Act.modDev_read (d : Dev) (f : Device → Device) (a : Act) :
    (a.modDev d f).s.read π = a.s.read π := hb.sg _ _
@[simp] theorem Act.modHolds_read (f : Vector (Option Held) 8 → Vector (Option Held) 8) (a : Act) :
    (a.modHolds f).s.read π = a.s.read π := hb.holds _ _
@[simp] theorem Act.setHold_read (r : Role) (h : Option Held) (a : Act) :
    (a.setHold r h).s.read π = a.s.read π := hb.holds _ _
@[simp] theorem Act.modCo_read (f : Changeover → Changeover) (a : Act) :
    (a.modCo f).s.read π = a.s.read π := hb.co _ _
@[simp] theorem Act.send_read (c : SentCommand) (a : Act) : (a.send c).s.read π = a.s.read π :=
  hb.sent _ _
@[simp] theorem Act.setChoices_read (cs : List Nat) (a : Act) :
    (a.setChoices cs).s.read π = a.s.read π := hb.choices _ _
@[simp] theorem State.reported_read (s : State) (r : Report) :
    (s.reported r).read π = s.read π := hb.slots _ _
theorem placeReport_read (r : Report) (a : Act) : (placeReport r a).s.read π = a.s.read π :=
  hb.slots _ _

/-- The Ice Record may change where its score does not. -/
@[simp] theorem Act.modIce_read (f : Ice → Ice) (a : Act) (hs : (f a.s.ice).score = a.s.ice.score) :
    (a.modIce f).s.read π = a.s.read π := hb.ice _ _ hs

/-! ## Commands toward the heads, and the gate (05, 06, 10) -/

@[simp] theorem deliver_read (c : Command) (a : Act) : (deliver c a).1.s.read π = a.s.read π := by
  unfold deliver
  split
  · exact hb.sent _ _
  · exact (placeReport_read hb _ _).trans (hb.undelivered a.s (roleIndex c.role))

@[simp] theorem reportGate_read (c : Command) (o : GateOutcome) (f l : Option Failed) (j : Bool) (a : Act) :
    (reportGate c o f l j a).s.read π = a.s.read π := by simp [hb, reportGate]

@[simp] theorem refuse_read (c : Command) (f : Failed) (a : Act) : (refuse c f a).s.read π = a.s.read π := by simp [hb, refuse]

@[simp] theorem present_read (c : Command) (a : Act) : (present c a).1.s.read π = a.s.read π := by
  have g := deliver_read hb c a
  unfold present
  split
  · split
    · simp [hb]
    · split <;> simp_all
  · simp [hb]

theorem present_eq_read {c : Command} {a b : Act} {r : Answer} (e : present c a = (b, r)) :
    b.s.read π = a.s.read π := by
  have g := present_read hb c a
  rwa [e] at g

/-! ## Switchgear (04) -/

@[simp] theorem assertTrip_read (a : Act) : (assertTrip a).s.read π = a.s.read π := by simp [hb, assertTrip]

@[simp] theorem evaluateTrip_read (a : Act) : (evaluateTrip a).s.read π = a.s.read π := by
  unfold evaluateTrip
  split <;> simp [hb]

@[simp] theorem beginMove_read (d : Dev) (t : Pos) (o : Origin) (a : Act) :
    (beginMove d t o a).s.read π = a.s.read π := by simp [hb, beginMove]

@[simp] theorem moveRequest_read (d : Dev) (t : Pos) (o : Origin) (a : Act) :
    (moveRequest d t o a).1.s.read π = a.s.read π := by
  have g := present_read hb (moveCommand d t o) a
  unfold moveRequest
  split
  · split
    · rfl
    · rfl
    · split <;> simp_all
  · rfl

@[simp] theorem requestMbOpen_read (o : Origin) (a : Act) : (requestMbOpen o a).s.read π = a.s.read π :=
  moveRequest_read hb _ _ _ a

@[simp] theorem switchgearLost_read (a : Act) : (switchgearLost a).s.read π = a.s.read π := by simp [hb, switchgearLost]

/-! ## Line Monitor (02) -/

@[simp] theorem raiseDemand_read (c : TripCause) (a : Act) : (raiseDemand c a).s.read π = a.s.read π := by
  unfold raiseDemand
  dsimp only
  split <;> simp [hb]

/-! ## Pantographs (03) -/

@[simp] theorem changedPan_read (p : Pan) (s : PanState) (c : Option (LowerCause × List LowerCause)) (q : Bool) (a : Act) :
    (changedPan p s c q a).s.read π = a.s.read π := by
  unfold changedPan
  dsimp only
  split <;> simp [hb]

@[simp] theorem finishLowering_read (p : Pan) (l : Option FaultLatch) (v q : Bool) (a : Act) :
    (finishLowering p l v q a).s.read π = a.s.read π := by
  unfold finishLowering
  dsimp only
  split <;> simp [hb]

@[simp] theorem presentVent_read (p : Pan) (a : Act) : (presentVent p a).s.read π = a.s.read π :=
  present_read hb _ a

@[simp] theorem endAtContact_read (p : Pan) (q : Bool) (a : Act) : (endAtContact p q a).s.read π = a.s.read π := by
  unfold endAtContact
  dsimp only
  split <;> simp [hb]

@[simp] theorem enterVenting_read (p : Pan) (i : Bool) (a : Act) : (enterVenting p i a).s.read π = a.s.read π := by
  simp [hb, enterVenting]

@[simp] theorem testContact_read (p : Pan) (q : Bool) (a : Act) : (testContact p q a).s.read π = a.s.read π := by
  unfold testContact
  split <;> simp [hb]

@[simp] theorem leaveAwaitMb_read (p : Pan) (i q : Bool) (a : Act) : (leaveAwaitMb p i q a).s.read π = a.s.read π := by
  simp [hb, leaveAwaitMb]

@[simp] theorem testAwaitMb_read (p : Pan) (q : Bool) (a : Act) : (testAwaitMb p q a).s.read π = a.s.read π := by
  unfold testAwaitMb
  split <;> simp [hb]

@[simp] theorem enterAwaitMb_read (p : Pan) (q : Bool) (a : Act) : (enterAwaitMb p q a).s.read π = a.s.read π := by
  simp [hb, enterAwaitMb]

@[simp] theorem beginLowering_read (p : Pan) (c : LowerCause) (k : CauseKind) (q : Bool) (a : Act) :
    (beginLowering p c k q a).s.read π = a.s.read π := by
  unfold beginLowering
  dsimp only
  split
  · split <;> simp [hb]
  · simp only [testContact_read hb]
    split <;> simp [hb]

@[simp] theorem joinLowering_read (p : Pan) (c : LowerCause) (k : CauseKind) (q : Bool) (a : Act) :
    (joinLowering p c k q a).s.read π = a.s.read π := by
  unfold joinLowering
  dsimp only
  split
  · simp [hb]
  · split <;> simp [hb]

@[simp] theorem lowerPan_read (p : Pan) (c : LowerCause) (k : CauseKind) (q : Bool) (a : Act) :
    (lowerPan p c k q a).1.s.read π = a.s.read π := by
  unfold lowerPan
  split <;> simp [hb]

@[simp] theorem lowerBoth_read (c : LowerCause) (k : CauseKind) (a : Act) :
    (lowerBoth c k a).1.s.read π = a.s.read π := by
  simp [hb, lowerBoth]

@[simp] theorem takeRaise_read (p : Pan) (r : PanRole) (pr : ProfileRecord) (st : Stage) (o : Origin) (a : Act) :
    (takeRaise p r pr st o a).s.read π = a.s.read π := by
  unfold takeRaise
  dsimp only
  split <;> simp [hb]

@[simp] theorem raisePan_read (p : Pan) (r : PanRole) (n : Nat) (o : Origin) (a : Act) :
    (raisePan p r n o a).1.s.read π = a.s.read π := by
  unfold raisePan
  split
  · rfl
  · split
    · rfl
    · split
      · rfl
      · dsimp only
        split <;> rename_i e <;> simp [hb, present_eq_read hb e]

@[simp] theorem presentHold_read (p : Pan) (n : Nat) (a : Act) : (presentHold p n a).s.read π = a.s.read π := by
  have g := present_read hb (holdCommand p n) a
  unfold presentHold
  split <;> simp_all

@[simp] theorem updateHold_read (p : Pan) (a : Act) : (updateHold p a).s.read π = a.s.read π := by
  unfold updateHold
  dsimp only
  split
  · split <;> simp [hb]
  · rfl

@[simp] theorem panHeadLost_read (p : Pan) (a : Act) : (panHeadLost p a).s.read π = a.s.read π := by
  simp [hb, panHeadLost]

/-! ## Hold slots (06) -/

@[simp] theorem sendVehicle_read (c : Command) (a : Act) : (sendVehicle c a).s.read π = a.s.read π := by
  have g := deliver_read hb c a
  unfold sendVehicle
  split
  · simp_all
  · split <;> simp_all

@[simp] theorem admitHeld_read (c : Command) (a : Act) : (admitHeld c a).s.read π = a.s.read π := by
  unfold admitHeld
  split
  · split <;> simp [hb]
  all_goals simp [hb]

@[simp] theorem reviewSlot_read (a : Act) (r : Role) : (reviewSlot a r).s.read π = a.s.read π := by
  unfold reviewSlot
  split
  · rfl
  · split
    · split <;> simp [hb]
    · rfl

@[simp] theorem reviewHolds_read (a : Act) : (reviewHolds a).s.read π = a.s.read π :=
  foldl_read _ (reviewSlot_read hb) _ a

@[simp] theorem dropHold_read (r : Role) (f : Failed) (l : Held → Option Failed) (a : Act) :
    (dropHold r f l a).s.read π = a.s.read π := by
  unfold dropHold
  split <;> simp [hb]

@[simp] theorem holdHeadLost_read (r : Role) (a : Act) : (holdHeadLost r a).s.read π = a.s.read π :=
  dropHold_read hb _ _ _ a

/-! ## Changeover (08) -/

@[simp] theorem reportStep_read (l : CoStep) (ps : List CoStep) (a : Act) : (reportStep l ps a).s.read π = a.s.read π := by simp [hb, reportStep]

@[simp] theorem reportResult_read (r : CoResult) (x : Option AbortReason) (a : Act) :
    (reportResult r x a).s.read π = a.s.read π := by simp [hb, reportResult]

@[simp] theorem toStep_read (st : CoStep) (a : Act) : (toStep st a).s.read π = a.s.read π := by simp [hb, toStep]

@[simp] theorem endChangeover_read (r : CoResult) (x : Option AbortReason) (l : CoStep) (ps : List CoStep) (a : Act) :
    (endChangeover r x l ps a).s.read π = a.s.read π := by simp [hb, endChangeover]

@[simp] theorem finishAbort_read (l : CoStep) (ps : List CoStep) (a : Act) : (finishAbort l ps a).s.read π = a.s.read π := by
  simp [hb, finishAbort]

@[simp] theorem abortRaise_read (a : Act) (p : Pan) : (abortRaise a p).s.read π = a.s.read π := by
  unfold abortRaise
  split <;> simp [hb]

@[simp] theorem abortOpen_read (a : Act) : (abortOpen a).s.read π = a.s.read π := by
  unfold abortOpen
  split <;> simp [hb]

@[simp] theorem abortWrongPan_read (r : AbortReason) (a : Act) : (abortWrongPan r a).s.read π = a.s.read π := by
  unfold abortWrongPan
  split <;> simp [hb]

@[simp] theorem abort_read (r : AbortReason) (d : Option AbortDetail) (l : CoStep) (ps : List CoStep) (a : Act) :
    (abort r d l ps a).s.read π = a.s.read π := by
  unfold abort
  dsimp only
  split <;> simp [hb, foldl_read _ (abortRaise_read hb)]

@[simp] theorem abortOnEvent_read (r : AbortReason) (a : Act) : (abortOnEvent r a).s.read π = a.s.read π := by
  unfold abortOnEvent
  split <;> simp [hb]

@[simp] theorem seqMove_read (d : Dev) (t : Pos) (a : Act) : (seqMove d t a).1.s.read π = a.s.read π := by
  have g := moveRequest_read hb d t .sequencer a
  unfold seqMove
  split
  split <;> simp_all

@[simp] theorem enterClosing_read (l : CoStep) (ps : List CoStep) (a : Act) :
    (enterClosing l ps a).s.read π = a.s.read π := by
  have g := seqMove_read hb .mb .closed (toStep .closing a)
  unfold enterClosing
  split
  · simp_all
  · split <;> simp_all

@[simp] theorem enterVerifying_read (l : CoStep) (ps : List CoStep) (a : Act) :
    (enterVerifying l ps a).s.read π = a.s.read π := by
  unfold enterVerifying
  dsimp only
  split <;> simp [hb]

@[simp] theorem testVerifying_read (a : Act) : (testVerifying a).s.read π = a.s.read π := by
  unfold testVerifying
  split
  · split <;> simp [hb]
  · rfl

@[simp] theorem enterRaisingNew_read (l : CoStep) (ps : List CoStep) (a : Act) :
    (enterRaisingNew l ps a).s.read π = a.s.read π := by
  unfold enterRaisingNew
  dsimp only
  split
  · rename_i r p _ _
    have g := raisePan_read hb p .collect r.raiseProfile .sequencer (toStep .raisingNew a)
    split
    · simp_all
    · split <;> simp_all
  · simp [hb]

@[simp] theorem enterAwaitRaise_read (l : CoStep) (ps : List CoStep) (a : Act) :
    (enterAwaitRaise l ps a).s.read π = a.s.read π := by
  unfold enterAwaitRaise
  dsimp only
  split <;> simp [hb]

@[simp] theorem testAwaitRaise_read (a : Act) : (testAwaitRaise a).s.read π = a.s.read π := by
  unfold testAwaitRaise
  split
  · split <;> simp [hb]
  · rfl

@[simp] theorem raiseStale_read (a : Act) : (raiseStale a).s.read π = a.s.read π := by simp [hb, raiseStale]

@[simp] theorem leaveSelecting_read (l : CoStep) (ps : List CoStep) (a : Act) :
    (leaveSelecting l ps a).s.read π = a.s.read π := by
  unfold leaveSelecting
  split <;> simp [hb]

@[simp] theorem askMoves_read (ms : List (Dev × Pos)) (a : Act) : (askMoves ms a).1.s.read π = a.s.read π := by
  induction ms generalizing a with
  | nil => rfl
  | cons m ms ih =>
    obtain ⟨d, t⟩ := m
    have g := seqMove_read hb d t a
    unfold askMoves
    split
    · exact ih a
    · split
      · simp_all
      · rw [ih]
        simp_all

@[simp] theorem enterSelecting_read (l : CoStep) (ps : List CoStep) (a : Act) :
    (enterSelecting l ps a).s.read π = a.s.read π := by
  unfold enterSelecting
  dsimp only
  split
  · simp [hb]
  · rename_i r _
    have g := askMoves_read hb (selectingGoals (toStep .selecting a).s r) (toStep .selecting a)
    split
    · simp_all
    · split <;> simp_all

@[simp] theorem lowerOld_read (k : Option Pan) (a : Act) (p : Pan) : (lowerOld k a p).s.read π = a.s.read π := by
  unfold lowerOld
  split <;> simp [hb]

@[simp] theorem enterLoweringOld_read (l : CoStep) (ps : List CoStep) (a : Act) :
    (enterLoweringOld l ps a).s.read π = a.s.read π := by
  unfold enterLoweringOld
  dsimp only
  split
  · simp [hb]
  · split <;> simp [hb, foldl_read _ (lowerOld_read hb _)]

@[simp] theorem enterOpening_read (l : CoStep) (ps : List CoStep) (a : Act) :
    (enterOpening l ps a).s.read π = a.s.read π := by
  have g := seqMove_read hb .mb .opened (toStep .opening a)
  unfold enterOpening
  dsimp only
  split
  · simp [hb]
  · split
    · simp_all
    · split <;> simp_all

@[simp] theorem coSwitch_read (a : Act) : (coSwitch a).s.read π = a.s.read π := by
  have aborted (step : CoStep) :
      (if mbEngaged a.s then abort .mbClosed none step [] a else a).s.read π = a.s.read π := by
    split <;> simp [hb]
  unfold coSwitch
  split
  case h_1 => rfl
  case h_2 => split <;> simp [hb]
  case h_3 => split <;> [skip; split] <;> simp [hb]
  case h_9 => split <;> [skip; split] <;> simp [hb]
  case h_10 => split <;> simp [hb]
  all_goals exact aborted _

@[simp] theorem coGaveUp_read (d : Dev) (t : Pos) (a : Act) : (coGaveUp d t a).s.read π = a.s.read π := by
  unfold coGaveUp
  split <;> simp [hb]

@[simp] theorem coPanLowered_read (p : Pan) (n : PanState) (a : Act) :
    (coPanLowered p n a).s.read π = a.s.read π := by
  unfold coPanLowered
  split
  · split
    · simp [hb]
    · dsimp only
      split <;> simp [hb]
  · rfl

@[simp] theorem coPan_read (p : Pan) (n : PanState) (c : Option LowerCause) (a : Act) :
    (coPan p n c a).s.read π = a.s.read π := by
  unfold coPan
  split
  · simp [hb]
  · split
    · simp [hb]
    · split
      · simp [hb]
      · split <;> simp [hb]

@[simp] theorem coRole_read (r : Role) (pr : Bool) (a : Act) : (coRole r pr a).s.read π = a.s.read π := by
  unfold coRole
  dsimp only
  split <;> split <;> simp [hb]

@[simp] theorem takeNoop_read (t : Nat) (x : Option Nat) (o : CoOrigin) (p : Pan) (a : Act) :
    (takeNoop t x o p a).s.read π = a.s.read π := by simp [hb, takeNoop]

@[simp] theorem lowerScrape_read (a : Act) (p : Pan) : (lowerScrape a p).s.read π = a.s.read π := by
  unfold lowerScrape
  split <;> simp [hb]

@[simp] theorem takeStart_read (t : Nat) (x : Option Nat) (o : CoOrigin) (a : Act) :
    (takeStart t x o a).s.read π = a.s.read π := by
  simp [hb, takeStart, foldl_read _ (lowerScrape_read hb)]

@[simp] theorem startChangeover_read (t : Nat) (x : Option Nat) (o : CoOrigin) (a : Act) :
    (startChangeover t x o a).1.s.read π = a.s.read π := by
  unfold startChangeover
  split
  · rfl
  · split <;> simp [hb]

/-! ## Ice (09) -/

@[simp] theorem presentGroups_read (a : Act) : (presentGroups a).s.read π = a.s.read π := by
  have g := present_read hb (groupsCommand a.s.ice.allocated) a
  unfold presentGroups
  dsimp only
  split
  · split <;> simp_all
  · rfl

@[simp] theorem allocate_read (a : Act) : (allocate a).s.read π = a.s.read π := by simp [hb, allocate]

@[simp] theorem reportIce_read (b : IceState) (c : IceCause) (a : Act) : (reportIce b c a).s.read π = a.s.read π := by simp [hb, reportIce]

@[simp] theorem leaveScrape_read (a : Act) : (leaveScrape a).s.read π = a.s.read π := by
  unfold leaveScrape
  dsimp only
  split <;> simp [hb]

@[simp] theorem failEntry_read (a : Act) : (failEntry a).s.read π = a.s.read π := by simp [hb, failEntry]

@[simp] theorem askScrapeRaise_read (p : Pan) (a : Act) : (askScrapeRaise p a).1.s.read π = a.s.read π := by
  unfold askScrapeRaise
  dsimp only
  split <;> simp [hb]

@[simp] theorem enterScrape_read (p : Pan) (a : Act) : (enterScrape p a).act.s.read π = a.s.read π := by
  let b := a.modIce fun i => { i with state := .scrape, scrapePan := some (otherPan p), phase := some .isoOpening }
  have asked := askScrapeRaise_read hb (otherPan p) b
  have moved := moveRequest_read hb (isoOf (otherPan p)) .opened .ice b
  have entered : b.s.read π = a.s.read π := Act.modIce_read hb _ a rfl
  unfold enterScrape
  dsimp only
  split <;> rename_i e <;> split at e <;> have e := congrArg (fun x => x.1.s.read π) e <;> simp_all [b]

theorem testIsoOpening_read (p : Pan) (a : Act) (m : IceMove) (e : testIsoOpening p a = some m) :
    m.act.s.read π = a.s.read π := by
  have asked := askScrapeRaise_read hb p a
  unfold testIsoOpening at e
  split at e
  · cases e
  · split at e
    · split at e <;> cases e <;> simp_all
    · cases e
      simp [hb]

@[simp] theorem promotePhase_read (a : Act) : (promotePhase a).s.read π = a.s.read π := by
  unfold promotePhase
  split
  · split <;> simp [hb]
  · rfl

theorem scrapeStep_read (t : IceTrigger) (a : Act) (m : IceMove) (e : scrapeStep t a = some m) : m.act.s.read π = a.s.read π := by
  unfold scrapeStep at e
  split at e
  · cases e
    simp [hb]
  · split at e
    · cases e
      simp [hb]
    · split at e
      · split at e
        · exact testIsoOpening_read hb _ a m e
        · cases e
      · cases e
        simp [hb]

theorem autoStep_read (t : IceTrigger) (a : Act) (m : IceMove) (e : autoStep t a = some m) : m.act.s.read π = a.s.read π := by
  unfold autoStep at e
  dsimp only at e
  split at e
  · cases e
    simp [hb]
  · split at e <;> cases e
    simp [hb]
  · split at e
    · cases e
      simp [hb]
    · split at e
      · obtain ⟨p, -, rfl⟩ := Option.map_eq_some_iff.1 e
        simp [hb]
      · cases e
  · exact scrapeStep_read hb t a m e

@[simp] theorem autoSteps_read (t : IceTrigger) (fuel : Nat) (a : Act) (c : Option IceCause) :
    (autoSteps t fuel a c).1.s.read π = a.s.read π := by
  induction fuel generalizing a c with
  | zero => rfl
  | succ n ih =>
    unfold autoSteps
    split
    · rfl
    · rename_i m h
      rw [ih, autoStep_read hb t a m h]

@[simp] theorem iceTransition_read (t : IceTrigger) (a : Act) : (iceTransition t a).1.s.read π = a.s.read π := by
  unfold iceTransition
  split
  · split <;> simp [hb]
  · split
    · split <;> simp [hb]
    · simp [hb]

@[simp] theorem evaluateIce_read (t : IceTrigger) (a : Act) : (evaluateIce t a).s.read π = a.s.read π := by
  have g := iceTransition_read hb t a
  unfold evaluateIce
  dsimp only
  split <;> simp_all

@[simp] theorem evaluateSteps_read (a : Act) : (evaluateSteps a).s.read π = a.s.read π := by
  unfold evaluateSteps
  dsimp only
  split
  · rw [evaluateIce_read hb]
  · rfl

@[simp] theorem iceEvent_read (t : IceTrigger) (a : Act) : (iceEvent t a).s.read π = a.s.read π := by simp [hb, iceEvent]

@[simp] theorem climateLost_read (a : Act) : (climateLost a).s.read π = a.s.read π := by simp [hb, climateLost]

@[simp] theorem heaterLost_read (a : Act) : (heaterLost a).s.read π = a.s.read π := by simp [hb, heaterLost]

@[simp] theorem setInhibit_read (on : Bool) (a : Act) : (setInhibit on a).s.read π = a.s.read π := by
  unfold setInhibit
  split <;> simp [hb]

/-! ## Hand-offs of the route plan (07) -/

@[simp] theorem handOff_read (src : Source) (x : Action) (e : Option Nat) (a : Act) :
    (handOff src x e a).1.s.read π = a.s.read π := by
  have g := lowerBoth_read hb .vehicle .orderly a
  unfold handOff
  split
  · simp [hb]
  · split
    simp_all
  · simp [hb]
  · simp [hb]

@[simp] theorem raiseJump_read (a : Act) : (raiseJump a).s.read π = a.s.read π := by
  unfold raiseJump
  split <;> simp [hb]

/-! ## Events of the pantographs and the switchgear (03, 04) -/

@[simp] theorem nextStage_read (p : Pan) (a : Act) : (nextStage p a).s.read π = a.s.read π := by
  unfold nextStage
  dsimp only
  split
  · split
    · simp [hb]
    · split <;> rename_i e <;> simp [hb, present_eq_read hb e]
  · rfl

@[simp] theorem raiseTimeout_read (p : Pan) (a : Act) : (raiseTimeout p a).s.read π = a.s.read π := by
  unfold raiseTimeout
  split <;> simp [hb]

@[simp] theorem ventGuardOver_read (p : Pan) (a : Act) : (ventGuardOver p a).s.read π = a.s.read π := by
  unfold ventGuardOver
  split <;> simp [hb]

@[simp] theorem endAtDeadline_read (p : Pan) (a : Act) : (endAtDeadline p a).s.read π = a.s.read π := by
  unfold endAtDeadline
  dsimp only
  split
  · split <;> simp [hb]
  · rfl

@[simp] theorem upContactOn_read (p : Pan) (a : Act) : (upContactOn p a).s.read π = a.s.read π := by
  unfold upContactOn
  dsimp only
  split
  · split <;> simp [hb]
  · rfl

@[simp] theorem upContactOff_read (p : Pan) (a : Act) : (upContactOff p a).s.read π = a.s.read π := by
  unfold upContactOff
  split <;> simp [hb]

@[simp] theorem downContactOn_read (p : Pan) (a : Act) : (downContactOn p a).s.read π = a.s.read π := by
  unfold downContactOn
  split <;> simp [hb]

@[simp] theorem stripOn_read (p : Pan) (a : Act) : (stripOn p a).s.read π = a.s.read π := by simp [hb, stripOn]

@[simp] theorem roofAccessOn_read (a : Act) : (roofAccessOn a).s.read π = a.s.read π := by simp [hb, roofAccessOn]

@[simp] theorem functionChange_read (f : InputFunction) (active : Bool) (a : Act) :
    (functionChange f active a).s.read π = a.s.read π := by
  cases f <;> cases active <;> simp [hb, functionChange]

@[simp] theorem panStatus_read (p : Pan) (payload : List Byte) (a : Act) : (panStatus p payload a).s.read π = a.s.read π := by
  unfold panStatus
  dsimp only
  split <;> simp [hb]

@[simp] theorem lowerChoice_read (c : PanChoice) (a : Act) : (lowerChoice c a).1.s.read π = a.s.read π := by
  cases c <;> simp [hb, lowerChoice]

@[simp] theorem clearFault_read (p : Pan) (a : Act) : (clearFault p a).1.s.read π = a.s.read π := by
  unfold clearFault
  split
  · split <;> simp [hb]
  · rfl

@[simp] theorem restartPans_read (a : Act) : (restartPans a).s.read π = a.s.read π := by simp [hb, restartPans]

@[simp] theorem switchgearStatus_read (payload : List Byte) (a : Act) :
    (switchgearStatus payload a).s.read π = a.s.read π := by
  unfold switchgearStatus
  dsimp only
  split
  · rfl
  · split <;> split <;> simp [hb]

@[simp] theorem giveUpMove_read (d : Dev) (a : Act) : (giveUpMove d a).s.read π = a.s.read π := by
  unfold giveUpMove
  dsimp only
  split
  · split <;> simp [hb]
  · rfl

/-! ## Events of the Command Gate, the Changeover Sequencer and Ice Control (06, 08, 09) -/

@[simp] theorem judgeVehicle_read (c : Command) (seq : Nat) (a : Act) : (judgeVehicle c seq a).s.read π = a.s.read π := by
  unfold judgeVehicle
  split
  · simp [hb]
  · split <;> simp [hb, takeHold]

@[simp] theorem checkVehicleMove_read (c : Command) (seq : Nat) (d : Dev) (t : Pos) (a : Act) :
    (checkVehicleMove c seq d t a).s.read π = a.s.read π := by
  unfold checkVehicleMove
  split
  · split <;> simp [hb]
  · simp [hb]

@[simp] theorem vehicleCommand_read (seq : Nat) (role : Role) (payload : List Byte) (a : Act) :
    (vehicleCommand seq role payload a).s.read π = a.s.read π := by
  unfold vehicleCommand
  split
  · simp [hb]
  · dsimp only
    split
    · simp [hb]
    · split
      · simp [hb]
      · split
        · simp [hb]
        · split <;> simp [hb]

@[simp] theorem expireHold_read (r : Role) (a : Act) : (expireHold r a).s.read π = a.s.read π := by simp [hb, expireHold]

@[simp] theorem refuseHeldForTable_read (a : Act) : (refuseHeldForTable a).s.read π = a.s.read π :=
  foldl_read _ (fun a role => dropHold_read hb role .table (fun _ => none) a) _ a

@[simp] theorem verifyTimedOut_read (a : Act) : (verifyTimedOut a).s.read π = a.s.read π := by
  unfold verifyTimedOut
  split <;> simp [hb]

@[simp] theorem proceedChangeover_read (a : Act) : (proceedChangeover a).1.s.read π = a.s.read π := by
  unfold proceedChangeover
  split <;> simp [hb]

@[simp] theorem abortChangeover_read (a : Act) : (abortChangeover a).1.s.read π = a.s.read π := by
  unfold abortChangeover
  split
  · rfl
  · split <;> simp [hb]

@[simp] theorem restartChangeover_read (a : Act) : (restartChangeover a).s.read π = a.s.read π := by
  simp [hb, restartChangeover]

@[simp] theorem heaterStatus_read (payload : List Byte) (a : Act) : (heaterStatus payload a).s.read π = a.s.read π := by
  unfold heaterStatus
  dsimp only
  split <;> simp [hb]

@[simp] theorem takeIceMode_read (setting : Nat) (a : Act) : (takeIceMode setting a).1.s.read π = a.s.read π := by
  unfold takeIceMode
  split <;> simp [hb]

end
end

end Sys2Proof.Machine

namespace Sys2Proof.Machine

/-! SUPPORT. What keeps the queues within their capacities, the counts within their ranges, and the route plan in balance: one
relation between a state and a later one, block by block, with a lemma for each update and for each operation of the blocks. -/

/-! ## The bounds, block by block -/

/-- R3, R12, R17, R35: the counts and the collections of the Line Monitor lie within their bounds. -/
structure LineMonitor.Bounded (l : LineMonitor) : Prop where
  gaps : l.gapCount ≤ 65535
  windows : l.windowSequence ≤ 65535
  digests : l.digests.length ≤ 64
  arcs : l.arcs.length ≤ 32

/-- R117, R118, R126: the jump count, the queue and the Marker Lists lie within their bounds. -/
structure Route.Bounded (r : Route) : Prop where
  jumps : r.position.jumps ≤ 65535
  queue : r.queue.length ≤ 16
  m0 : r.m0.length ≤ 4
  m1 : r.m1.length ≤ 4

/-- R118, R124: the queue counters balance, and the queue's marker triggers and the Marker Lists stand apart. -/
structure Route.Planned (r : Route) : Prop where
  balance : r.appended = r.fired + r.flushed + actionsPresent r
  range : r.appended ≤ max32
  apart : ∀ m : Fin 2, r.marker m = [] ∨ queueUsesMarker r m = false

/-- R188: the bad frames of the Vehicle Link lie in their ranges. -/
structure VehicleLink.Bounded (v : VehicleLink) : Prop where
  badFrames : v.badFrames ≤ 65535
  badRun : v.badRun < 8

/-- R175: the bad frames of a port lie in their ranges. -/
structure PortRecord.Bounded (r : PortRecord) : Prop where
  badFrames : r.badFrames ≤ 65535
  badRun : r.badRun < 8

/-- R185, R203: the Telemetry Forward Queue and the up sequence lie within their bounds. -/
structure ReportUnit.Bounded (u : ReportUnit) : Prop where
  telemetry : u.telemetry.length ≤ 16
  upSequence : u.upSequence < 256

/-- What holds of a state's queues and counts in one block holds of a later state's in that block, and no reply has joined the
Reply Queue. -/
structure Keeps (s t : State) : Prop where
  line : s.lm.Bounded → t.lm.Bounded
  route : s.pr.Bounded → t.pr.Bounded
  plan : s.pr.Planned → t.pr.Planned
  link : s.vl.Bounded → t.vl.Bounded
  replies : t.vl.replies.length ≤ s.vl.replies.length
  ports : (∀ port : Fin 8, s.ports[port].Bounded) → ∀ port : Fin 8, t.ports[port].Bounded
  roles : (∀ role, (roleOf s role).undelivered ≤ 65535) → ∀ role, (roleOf t role).undelivered ≤ 65535
  inputs : (∀ line : Fin 12, s.inputs[line].bounce ≤ 65535) → ∀ line : Fin 12, t.inputs[line].bounce ≤ 65535
  reports : s.ru.Bounded → t.ru.Bounded
  score : s.ice.score ≤ 100 → t.ice.score ≤ 100

theorem Keeps.refl (s : State) : Keeps s s := ⟨id, id, id, id, le_rfl, id, id, id, id, id⟩

theorem Keeps.trans {s t u : State} (h : Keeps s t) (g : Keeps t u) : Keeps s u where
  line := g.line ∘ h.line
  route := g.route ∘ h.route
  plan := g.plan ∘ h.plan
  link := g.link ∘ h.link
  replies := g.replies.trans h.replies
  ports := g.ports ∘ h.ports
  roles := g.roles ∘ h.roles
  inputs := g.inputs ∘ h.inputs
  reports := g.reports ∘ h.reports
  score := g.score ∘ h.score

/-! ## What the blocks of the roof leave alone of it -/

/-- What the bounds are about. -/
structure Tally where
  lm : LineMonitor
  pr : Route
  vl : VehicleLink
  ports : Vector PortRecord 8
  undeliveredOk : Vector Bool 8
  inputs : Vector InputRecord 12
  telemetry : List TelemetryItem
  upSequence : Nat
  score : Nat

/-- R183: the undelivered count lies in its range. -/
def RoleRecord.undeliveredOk (r : RoleRecord) : Bool := decide (r.undelivered ≤ 65535)

/-- What the bounds are about, in a state. -/
def State.tally (s : State) : Tally :=
  { lm := s.lm, pr := s.pr, vl := s.vl, ports := s.ports, undeliveredOk := s.roles.map RoleRecord.undeliveredOk
    inputs := s.inputs, telemetry := s.ru.telemetry, upSequence := s.ru.upSequence, score := s.ice.score }

/-- A count that stops at 65535 neither leaves its range by a step nor enters it. -/
@[simp] theorem bump16_le_iff (n : Nat) : bump16 n ≤ 65535 ↔ n ≤ 65535 := by
  unfold bump16
  split <;> omega

/-- The blocks of the roof leave the tally alone. -/
theorem blind_tally : BlindToRoof State.tally where
  pans _ _ := rfl
  sg _ _ := rfl
  holds _ _ := rfl
  co _ _ := rfl
  ice s v h := by simp [State.tally, h]
  slots _ _ := rfl
  sent _ _ := rfl
  choices _ _ := rfl
  undelivered s i := by
    have h := updAt_map s.roles i (fun r => { r with undelivered := bump16 r.undelivered }) RoleRecord.undeliveredOk
      (by simp [RoleRecord.undeliveredOk])
    simp [State.tally, h]

/-- A state of the same tally keeps all of it. -/
theorem Keeps.of_read {s t : State} (h : t.read State.tally = s.read State.tally) : Keeps s t := by
  simp only [State.read, State.tally, Tally.mk.injEq] at h
  obtain ⟨lm, pr, vl, ports, undelivered, inputs, telemetry, upSequence, score⟩ := h
  refine ⟨lm ▸ id, pr ▸ id, pr ▸ id, vl ▸ id, (vl ▸ le_rfl), ports ▸ id, fun hs role => ?_, inputs ▸ id,
    fun hs => ⟨telemetry ▸ hs.telemetry, upSequence ▸ hs.upSequence⟩, score ▸ id⟩
  have h := congrArg (fun v => v[roleIndex role]) undelivered
  have h' : (roleOf t role).undeliveredOk = (roleOf s role).undeliveredOk := by simpa [roleOf] using h
  simpa [RoleRecord.undeliveredOk, hs role] using h'

/-! ## Updates -/

theorem Keeps.modLm (f : LineMonitor → LineMonitor) (a : Act) (h : a.s.lm.Bounded → (f a.s.lm).Bounded) :
    Keeps a.s (a.modLm f).s := { Keeps.refl a.s with line := h }

/-- A change of the Line Monitor that leaves its counts and its collections as they are. -/
theorem Keeps.modLm_aside (f : LineMonitor → LineMonitor) (a : Act)
    (gaps : (f a.s.lm).gapCount = a.s.lm.gapCount := by rfl)
    (windows : (f a.s.lm).windowSequence = a.s.lm.windowSequence := by rfl)
    (digests : (f a.s.lm).digests = a.s.lm.digests := by rfl)
    (arcs : (f a.s.lm).arcs = a.s.lm.arcs := by rfl) : Keeps a.s (a.modLm f).s :=
  .modLm f a fun h => ⟨gaps ▸ h.gaps, windows ▸ h.windows, digests ▸ h.digests, arcs ▸ h.arcs⟩

theorem Keeps.modPr (f : Route → Route) (a : Act) (h : a.s.pr.Bounded → (f a.s.pr).Bounded)
    (g : a.s.pr.Planned → (f a.s.pr).Planned) : Keeps a.s (a.modPr f).s := { Keeps.refl a.s with route := h, plan := g }

/-- A change of the route unit that leaves the jump count, the collections and the counters as they are. -/
theorem Keeps.modPr_aside (f : Route → Route) (a : Act)
    (jumps : (f a.s.pr).position.jumps = a.s.pr.position.jumps := by rfl)
    (plan : f a.s.pr = { a.s.pr with position := (f a.s.pr).position, triggerTimer := (f a.s.pr).triggerTimer } := by rfl) :
    Keeps a.s (a.modPr f).s := by
  refine .modPr f a (fun h => ?_) fun h => ?_ <;> rw [plan]
  · exact ⟨jumps ▸ h.jumps, h.queue, h.m0, h.m1⟩
  · exact ⟨h.balance, h.range, h.apart⟩

theorem Keeps.modVl (f : VehicleLink → VehicleLink) (a : Act) (h : a.s.vl.Bounded → (f a.s.vl).Bounded)
    (g : (f a.s.vl).replies.length ≤ a.s.vl.replies.length) : Keeps a.s (a.modVl f).s :=
  { Keeps.refl a.s with link := h, replies := g }

theorem Keeps.modRu (f : ReportUnit → ReportUnit) (a : Act) (h : a.s.ru.Bounded → (f a.s.ru).Bounded) :
    Keeps a.s (a.modRu f).s := { Keeps.refl a.s with reports := h }

theorem Keeps.modIce (f : Ice → Ice) (a : Act) (h : a.s.ice.score ≤ 100 → (f a.s.ice).score ≤ 100) :
    Keeps a.s (a.modIce f).s := { Keeps.refl a.s with score := h }

/-- A property that every record of a bank has is kept where one record changes. -/
theorem forall_updAt {α : Type} {n : Nat} {P : α → Prop} (v : Vector α n) (i : Fin n) (f : α → α) (h : P v[i] → P (f v[i]))
    (hv : ∀ j : Fin n, P v[j]) (j : Fin n) : P (updAt v i f)[j] := by
  by_cases e : i = j
  · subst e
    rw [updAt_same]
    exact h (hv i)
  · rw [updAt_other v i j f e]
    exact hv j

theorem Keeps.modPort (port : Fin 8) (f : PortRecord → PortRecord) (a : Act)
    (h : a.s.ports[port].Bounded → (f a.s.ports[port]).Bounded) : Keeps a.s (a.modPort port f).s :=
  { Keeps.refl a.s with ports := forall_updAt _ port f h }

theorem Keeps.modPorts_map (f : PortRecord → PortRecord) (a : Act) (h : ∀ r : PortRecord, r.Bounded → (f r).Bounded) :
    Keeps a.s (a.modPorts fun v => v.map f).s :=
  { Keeps.refl a.s with ports := fun hs port => by simpa using h _ (hs port) }

theorem Keeps.modInput (line : Fin 12) (f : InputRecord → InputRecord) (a : Act)
    (h : a.s.inputs[line].bounce ≤ 65535 → (f a.s.inputs[line]).bounce ≤ 65535) : Keeps a.s (a.modInput line f).s :=
  { Keeps.refl a.s with inputs := forall_updAt (P := fun r => r.bounce ≤ 65535) _ line f h }

theorem Keeps.modInputs_map (f : InputRecord → InputRecord) (a : Act)
    (h : ∀ r : InputRecord, r.bounce ≤ 65535 → (f r).bounce ≤ 65535) : Keeps a.s (a.modInputs fun v => v.map f).s :=
  { Keeps.refl a.s with inputs := fun hs line => by simpa using h _ (hs line) }

theorem Keeps.modRole (role : Role) (f : RoleRecord → RoleRecord) (a : Act)
    (h : (roleOf a.s role).undelivered ≤ 65535 → (f (roleOf a.s role)).undelivered ≤ 65535) :
    Keeps a.s (a.modRole role f).s :=
  { Keeps.refl a.s with
    roles := fun hs r => by
      by_cases e : roleIndex role = roleIndex r
      · obtain rfl := roleIndex_injective e
        change (updAt a.s.roles (roleIndex role) f)[roleIndex role].undelivered ≤ 65535
        rw [updAt_same]
        exact h (hs role)
      · simpa [roleOf, updAt_other _ _ _ f e] using hs r }

theorem Keeps.modRoles_map (f : RoleRecord → RoleRecord) (a : Act)
    (h : ∀ r : RoleRecord, r.undelivered ≤ 65535 → (f r).undelivered ≤ 65535) : Keeps a.s (a.modRoles fun v => v.map f).s :=
  { Keeps.refl a.s with roles := fun hs role => by simpa [roleOf] using h _ (hs role) }

/-- A list of operations each of which keeps the bounds keeps them. -/
theorem Keeps.foldl {β : Type} (f : Act → β → Act) (h : ∀ a x, Keeps a.s (f a x).s) (l : List β) (a : Act) :
    Keeps a.s (l.foldl f a).s := by
  induction l generalizing a with
  | nil => exact .refl _
  | cons x l ih => exact (h a x).trans (ih _)

theorem placeReport_keeps (r : Report) (a : Act) : Keeps a.s (placeReport r a).s := .of_read (placeReport_read blind_tally r a)

end Sys2Proof.Machine

namespace Sys2Proof.Machine

/-! ## Line Monitor (01, 02) -/

theorem setConfirmed_keeps (new : LineState) (cause : LineCause) (a : Act) : Keeps a.s (setConfirmed new cause a).s := by
  unfold setConfirmed
  dsimp only
  split
  · exact .refl _
  · have confirmed (c : LineState) (since : Option Nat) :
        Keeps a.s (a.modLm fun l => { l with confirmed := c, confirmedSince := since }).s :=
      .modLm_aside _ a
    split <;> exact (confirmed new (estimate a.s)).trans (.of_read (by simp [blind_tally]))

theorem persist_keeps (w : WindowClass) (a : Act) : Keeps a.s (persist w a).s := by
  have candidate (c : Option Candidate) : Keeps a.s (a.modLm fun l => { l with candidate := c }).s :=
    .modLm_aside _ a
  unfold persist
  split
  · exact candidate none
  · split
    · exact (candidate none).trans (setConfirmed_keeps _ _ _)
    · exact candidate _

/-- R17, R18: the Window Digest FIFO stays within its capacity. -/
theorem appendDigest_bounded (e : DigestEntry) (l : LineMonitor) (h : l.Bounded) : (appendDigest e l).Bounded := by
  have hd := h.digests
  unfold appendDigest digestCapacity
  split
  · exact ⟨h.gaps, h.windows, by simp; omega, h.arcs⟩
  · exact ⟨h.gaps, h.windows, by simp; omega, h.arcs⟩

theorem closeWindow_keeps (a : Act) : Keeps a.s (closeWindow a).s := by
  have closed (w : WindowResult) : Keeps a.s
      (a.modLm fun l => { l with windowSequence := (l.windowSequence + 1) % 65536, last := some w }).s :=
    .modLm _ a fun h => ⟨h.gaps, by dsimp only; omega, h.digests, h.arcs⟩
  have digested (e : DigestEntry) (b : Act) : Keeps b.s (b.modLm (appendDigest e)).s := .modLm _ b (appendDigest_bounded e _)
  have emptied (b : Act) : Keeps b.s (b.modLm fun l => { l with acc := {} }).s :=
    .modLm_aside _ b
  exact (((closed _).trans (persist_keeps _ _)).trans (digested _ _)).trans (emptied _)

theorem joinWindow_keeps (samples : List Int) (current : Nat) (a : Act) : Keeps a.s (joinWindow samples current a).s := by
  have joined (c : Accumulator) : Keeps a.s (a.modLm fun l => { l with acc := c }).s :=
    .modLm_aside _ a
  unfold joinWindow
  dsimp only
  split
  · exact (joined _).trans (closeWindow_keeps _)
  · exact joined _

/-- R35: the Arc Ring stays within its capacity. -/
theorem appendArc_keeps (e : ArcEntry) (a : Act) : Keeps a.s (appendArc e a).s := by
  refine Keeps.trans (.modLm _ a fun h => ?_) (placeReport_keeps _ _)
  have ha := h.arcs
  refine ⟨h.gaps, h.windows, h.digests, ?_⟩
  unfold arcCapacity
  dsimp only
  split <;> simp <;> omega

theorem deadCell_keeps (a : Act) : Keeps a.s (deadCell a).s := by
  have run (n : Nat) (start : Option RunStart) (c : Option Candidate) :
      Keeps a.s (a.modLm fun l => { l with deadRun := n, runStart := start, candidate := c }).s :=
    .modLm_aside _ a
  unfold deadCell
  dsimp only
  split
  · exact run _ _ _
  · split
    · split
      · exact (run _ _ _).trans (setConfirmed_keeps _ _ _)
      · exact run _ _ _
    · exact .refl _

theorem liveCell_keeps (a : Act) : Keeps a.s (liveCell a).s := by
  have ended : Keeps a.s (a.modLm fun l => { l with deadRun := 0, runStart := none }).s :=
    .modLm_aside _ a
  unfold liveCell
  dsimp only
  split
  · exact ended
  · split
    · exact ended.trans (appendArc_keeps _ _)
    · exact ended

theorem useCell_keeps (samples : List Int) (current : Nat) (a : Act) : Keeps a.s (useCell samples current a).s := by
  have first : Keeps a.s (fastDeadStage (peakOf (samples.map conditionSample)) a).s := by
    unfold fastDeadStage
    split
    · exact deadCell_keeps a
    · exact liveCell_keeps a
  unfold useCell
  dsimp only
  split
  · exact first.trans (joinWindow_keeps _ _ _)
  · exact first

theorem takeCell_keeps (sequence : Nat) (fault : Bool) (samples : List Int) (current : Nat) (a : Act) :
    Keeps a.s (takeCell sequence fault samples current a).s := by
  have gap (c : Option Nat) : Keeps a.s ((a.modLm lineGap).modLm fun l => { l with expected := c }).s :=
    .trans (.modLm _ a fun h => ⟨(bump16_le_iff _).2 h.gaps, h.windows, h.digests, h.arcs⟩) (.modLm_aside _ _)
  have next (c : Option Nat) : Keeps a.s (a.modLm fun l => { l with expected := c }).s :=
    .modLm_aside _ a
  unfold takeCell
  dsimp only
  split <;> split
  · exact gap _
  · exact next _
  · exact (gap _).trans (useCell_keeps _ _ _)
  · exact (next _).trans (useCell_keeps _ _ _)

theorem lineLost_keeps (a : Act) : Keeps a.s (lineLost a).s :=
  .trans (.modLm_aside _ a) (setConfirmed_keeps _ _ _)

theorem systemTableValid_keeps (a : Act) : Keeps a.s (systemTableValid a).s :=
  .modLm_aside _ a

theorem systemTableGone_keeps (a : Act) : Keeps a.s (systemTableGone a).s := by
  unfold systemTableGone
  dsimp only
  split
  · exact (systemTableValid_keeps a).trans (setConfirmed_keeps _ _ _)
  · exact systemTableValid_keeps a

theorem lineSettingsChanged_keeps (before : Settings) (a : Act) : Keeps a.s (lineSettingsChanged before a).s := by
  have window (b : Act) : Keeps b.s (b.modLm fun l => { l with acc := {}, expected := none }).s :=
    .modLm_aside _ b
  have run (b : Act) : Keeps b.s (b.modLm fun l => { l with deadRun := 0, runStart := none }).s :=
    .modLm_aside _ b
  unfold lineSettingsChanged
  dsimp only
  split <;> split
  · exact (window a).trans (run _)
  · exact run a
  · exact window a
  · exact .refl _

theorem restartLine_keeps (a : Act) : Keeps a.s (restartLine a).s := by
  refine Keeps.trans ?_ (.of_read (Act.tellLine_read _))
  exact .modLm _ a fun h => ⟨h.gaps, h.windows, Nat.zero_le _, Nat.zero_le _⟩

/-! ## Ice Control (09) -/

theorem recomputeScore_keeps (a : Act) : Keeps a.s (recomputeScore a).1.s := by
  unfold recomputeScore
  split
  · exact .refl _
  · split
    · exact .modIce _ a fun _ => Nat.min_le_left _ _
    · exact .refl _

theorem iceEvent_keeps (t : IceTrigger) (a : Act) : Keeps a.s (iceEvent t a).s := .of_read (iceEvent_read blind_tally t a)

theorem allocate_keeps (a : Act) : Keeps a.s (allocate a).s := .of_read (allocate_read blind_tally a)

theorem arcAppended_keeps (a : Act) : Keeps a.s (arcAppended a).s := by
  have score := recomputeScore_keeps a
  unfold arcAppended
  split <;> rename_i e <;> rw [e] at score
  · exact score.trans (iceEvent_keeps _ _)
  · exact score

theorem climateStatus_keeps (payload : List Byte) (a : Act) : Keeps a.s (climateStatus payload a).s :=
  .trans (.trans (.modIce _ a id) (recomputeScore_keeps _)) (iceEvent_keeps _ _)

theorem restartIce_keeps (a : Act) : Keeps a.s (restartIce a).s := by
  have reset : Keeps a.s (a.modIce fun i => { i with inhibit := false, holdOff := false, scrapePan := none, phase := none }).s :=
    .modIce _ a id
  exact ((reset.trans (recomputeScore_keeps _)).trans (.modIce _ _ id)).trans (allocate_keeps _)

/-! ## Position and Route Unit (07) -/

/-- R118, R124: the queue may lose entries that are counted, or be emptied; a Marker List may lose actions that are counted. -/
theorem flushQueue_bounded (r : Route) (h : r.Bounded) : r.flushQueue.Bounded := ⟨h.jumps, Nat.zero_le _, h.m0, h.m1⟩

theorem flushQueue_planned (r : Route) (h : r.Planned) : r.flushQueue.Planned := by
  obtain ⟨balance, range, -⟩ := h
  refine ⟨?_, range, fun m => .inr rfl⟩
  simp only [Route.flushQueue, actionsPresent, List.length_nil] at balance ⊢
  omega

theorem flushMarker_bounded (r : Route) (m : Fin 2) (h : r.Bounded) : (r.flushMarker m).Bounded := by
  match m with
  | 0 => exact ⟨h.jumps, h.queue, Nat.zero_le _, h.m1⟩
  | 1 => exact ⟨h.jumps, h.queue, h.m0, Nat.zero_le _⟩

theorem flushMarker_planned (r : Route) (m : Fin 2) (h : r.Planned) : (r.flushMarker m).Planned := by
  obtain ⟨balance, range, apart⟩ := h
  unfold actionsPresent at balance
  match m with
  | 0 =>
    refine ⟨?_, range, fun k => ?_⟩
    · simp only [Route.flushMarker, Route.setMarker, Route.marker, actionsPresent, List.length_nil]
      omega
    · match k with
      | 0 => exact .inl rfl
      | 1 => exact apart 1
  | 1 =>
    refine ⟨?_, range, fun k => ?_⟩
    · simp only [Route.flushMarker, Route.setMarker, Route.marker, actionsPresent, List.length_nil]
      omega
    · match k with
      | 0 => exact apart 0
      | 1 => exact .inl rfl

theorem flushSource_keeps (src : Source) (a : Act) : Keeps a.s (a.modPr (flushSource src)).s := by
  cases src
  · exact .modPr _ a (flushQueue_bounded _) (flushQueue_planned _)
  · exact .modPr _ a (flushMarker_bounded _ 0) (flushMarker_planned _ 0)
  · exact .modPr _ a (flushMarker_bounded _ 1) (flushMarker_planned _ 1)

/-- R122, R123: a firing keeps what the removal of its action, counted as fired, keeps. -/
theorem fire_keeps (src : Source) (x : Action) (t : Option Trigger) (s : State) (a : Act)
    (removed : Keeps s (a.modPr fun r => { r with fired := r.fired + 1 }).s) : Keeps s (fire src x t a).1.s := by
  have handed := handOff_read blind_tally src x (estimate a.s) (a.modPr fun r => { r with fired := r.fired + 1 })
  unfold fire
  dsimp only
  have reported (answer : Result) := (removed.trans (.of_read handed)).trans
    (placeReport_keeps (.actionFired src x t (estimate a.s) answer) _)
  split
  · exact reported _
  · exact ((reported _).trans (flushSource_keeps src _)).trans (placeReport_keeps _ _)

/-- The entry at the head of the queue is removed and counted as fired. -/
theorem dropHead_fired_keeps (a : Act) (e : QueueEntry) (rest : List QueueEntry) (h : a.s.pr.queue = e :: rest) :
    Keeps a.s ((dropHead a).modPr fun r => { r with fired := r.fired + 1 }).s := by
  refine .modPr (fun r => { r with queue := r.queue.drop 1, triggerTimer := none, fired := r.fired + 1 }) a
    (fun b => ⟨b.jumps, ?_, b.m0, b.m1⟩) fun p => ⟨?_, p.range, fun m => ?_⟩
  · have := b.queue
    simp [h] at this ⊢
    omega
  · have := p.balance
    simp [actionsPresent, h] at this ⊢
    omega
  · refine (p.apart m).imp id fun unused => ?_
    simp only [queueUsesMarker, h, List.any_cons, Bool.or_eq_false_iff] at unused
    simpa [queueUsesMarker, h] using unused.2

theorem fireHead_keeps (t : Option Trigger) (a : Act) (e : QueueEntry) (rest : List QueueEntry) (h : a.s.pr.queue = e :: rest) :
    Keeps a.s (fire .queue e.action t (dropHead a)).1.s :=
  fire_keeps .queue e.action t a.s (dropHead a) (dropHead_fired_keeps a e rest h)

theorem evaluateHead_keeps (fuel : Nat) (a : Act) : Keeps a.s (evaluateHead fuel a).s := by
  have timed (t : Option Nat) : Keeps a.s (a.modPr fun r => { r with triggerTimer := t }).s :=
    .modPr_aside _ a
  induction fuel generalizing a with
  | zero => exact .refl _
  | succ n ih =>
    unfold evaluateHead
    split
    · exact timed none
    · rename_i e rest h
      split
      · exact timed none
      · split
        · have fired := fireHead_keeps (some e.trigger) a e rest h
          split <;> rename_i g <;> rw [g] at fired
          · exact fired.trans (ih _ fun t => .modPr_aside _ _)
          · exact fired
        · exact timed _

theorem evaluateQueue_keeps (a : Act) : Keeps a.s (evaluateQueue a).s := by
  unfold evaluateQueue
  split
  · exact evaluateHead_keeps _ a
  · exact .refl _

theorem routeStandby_keeps (a : Act) : Keeps a.s (routeStandby a).s := .modPr_aside _ a

theorem takePosition_keeps (p speed quality : Nat) (a : Act) : Keeps a.s (takePosition p speed quality a).s := by
  have adopted (st : Settings) : Keeps a.s
      (a.modPr fun r => { r with position := adopt st a.s.now p speed quality r.position }).s :=
    .modPr_aside _ a
  have jumped (est : Nat) (b : Act) : Keeps b.s (takeJump est p b).s := by
    refine ((Keeps.modPr _ b (fun h => ?_) fun h => ?_).trans (placeReport_keeps _ _)).trans
      (.of_read (raiseJump_read blind_tally _))
    · exact { flushQueue_bounded _ h with jumps := (bump16_le_iff _).2 h.jumps }
    · exact ⟨(flushQueue_planned _ h).balance, h.range, (flushQueue_planned _ h).apart⟩
  unfold takePosition
  dsimp only
  refine Keeps.trans ?_ (evaluateQueue_keeps _)
  split
  · split
    · exact (adopted _).trans (jumped _ _)
    · exact adopted _
  · exact adopted _

theorem becomeStale_keeps (a : Act) : Keeps a.s (becomeStale a).s := by
  refine Keeps.trans ?_ (.of_read (Act.notify_read _ _))
  exact .modPr_aside _ a

end Sys2Proof.Machine

namespace Sys2Proof.Machine

/-! ## Requests to the route unit (07) -/

/-- A marker's trigger is unused where its list takes nothing, and each marker of the new entries has an empty list. -/
theorem markerInUse_none {r : Route} {entries : List QueueEntry} (h : markerInUse r entries = none) (m : Fin 2)
    (hm : r.marker m ≠ []) : ∀ e ∈ entries, e.trigger ≠ .onMarker m.val := by
  intro e he ht
  have used := List.filterMap_eq_nil_iff.1 (List.head?_eq_none_iff.1 h) e he
  have number : markerOf m.val = some m := by
    match m with
    | 0 => rfl
    | 1 => rfl
  simp [ht, number, hm] at used

/-- R118: new entries join the queue where there is room for them and their markers are free. -/
theorem appendEntries_keeps (entries : List QueueEntry) (a : Act) (room : a.s.pr.queue.length + entries.length ≤ 16)
    (range : a.s.pr.appended + entries.length ≤ max32) (free : markerInUse a.s.pr entries = none) :
    Keeps a.s (a.modPr fun r =>
      { r with queue := r.queue ++ entries, appended := r.appended + entries.length }).s := by
  refine .modPr _ a (fun h => ⟨h.jumps, by simpa using room, h.m0, h.m1⟩) fun h => ⟨?_, range, fun m => ?_⟩
  · have balance := h.balance
    simp only [actionsPresent, List.length_append] at balance ⊢
    omega
  · by_cases empty : a.s.pr.marker m = []
    · exact .inl empty
    · have unused := (h.apart m).resolve_left empty
      have new := markerInUse_none free m empty
      refine .inr ?_
      simp only [queueUsesMarker, List.any_append, Bool.or_eq_false_iff] at unused ⊢
      exact ⟨unused, by simpa using new⟩

theorem appendQueue_keeps (entries : List QueueEntry) (a : Act) : Keeps a.s (appendQueue entries a).1.s := by
  unfold appendQueue
  dsimp only
  split
  · exact .refl _
  · split
    · exact .refl _
    · rename_i full
      simp only [not_or, Nat.not_lt] at full
      split
      · exact .refl _
      · rename_i free
        have joined := appendEntries_keeps entries a full.1 full.2 free
        split
        · exact joined.trans (evaluateQueue_keeps _)
        · exact joined

/-- R126: new actions join a Marker List where there is room for them and no trigger in the queue names it. -/
theorem appendActions_keeps (m : Fin 2) (actions : List Action) (a : Act)
    (room : (a.s.pr.marker m).length + actions.length ≤ 4) (range : a.s.pr.appended + actions.length ≤ max32)
    (unused : queueUsesMarker a.s.pr m = false) :
    Keeps a.s (a.modPr fun r =>
      { r.setMarker m (r.marker m ++ actions) with appended := r.appended + actions.length }).s := by
  refine .modPr _ a (fun h => ?_) fun h => ?_
  · match m with
    | 0 => exact ⟨h.jumps, h.queue, by simpa [Route.marker, Route.setMarker] using room, h.m1⟩
    | 1 => exact ⟨h.jumps, h.queue, h.m0, by simpa [Route.marker, Route.setMarker] using room⟩
  · have balance := h.balance
    unfold actionsPresent at balance
    match m with
    | 0 =>
      refine ⟨?_, range, fun k => ?_⟩
      · simp only [actionsPresent, Route.setMarker, Route.marker, List.length_append]
        omega
      · match k with
        | 0 => exact .inr unused
        | 1 => exact h.apart 1
    | 1 =>
      refine ⟨?_, range, fun k => ?_⟩
      · simp only [actionsPresent, Route.setMarker, Route.marker, List.length_append]
        omega
      · match k with
        | 0 => exact h.apart 0
        | 1 => exact .inr unused

theorem loadMarker_keeps (list : Nat) (actions : List Action) (a : Act) : Keeps a.s (loadMarker list actions a).1.s := by
  unfold loadMarker
  dsimp only
  split
  · exact .refl _
  · split
    · exact .refl _
    · split
      · exact .refl _
      · rename_i full
        simp only [not_or, Nat.not_lt] at full
        split
        · exact .refl _
        · rename_i unused
          exact appendActions_keeps _ actions a full.1 full.2 (Bool.not_eq_true _ ▸ unused)

theorem flushQueueRequest_keeps (a : Act) : Keeps a.s (flushQueueRequest a).1.s :=
  .modPr _ a (flushQueue_bounded _) (flushQueue_planned _)

theorem flushMarkerRequest_keeps (list : Nat) (a : Act) : Keeps a.s (flushMarkerRequest list a).1.s := by
  unfold flushMarkerRequest
  split
  · exact .refl _
  · exact .modPr _ a (flushMarker_bounded _ _) (flushMarker_planned _ _)

theorem restartRoute_keeps (a : Act) : Keeps a.s (restartRoute a).s :=
  .modPr _ a (fun h => ⟨h.jumps, Nat.zero_le _, Nat.zero_le _, Nat.zero_le _⟩)
    fun _ => ⟨rfl, Nat.zero_le _, fun _ => .inr rfl⟩

/-! ## Marker edges (R125) -/

/-- The first action of a Marker List is removed and counted as fired. -/
theorem dropAction_fired_keeps (m : Fin 2) (a : Act) (x : Action) (rest : List Action) (h : a.s.pr.marker m = x :: rest) :
    Keeps a.s ((a.modPr fun r => r.setMarker m rest).modPr fun r => { r with fired := r.fired + 1 }).s := by
  refine .modPr (fun r => { r.setMarker m rest with fired := (r.setMarker m rest).fired + 1 }) a (fun b => ?_) fun p => ?_
  · match m with
    | 0 => exact ⟨b.jumps, b.queue, by have := b.m0; simp_all [Route.marker, Route.setMarker]; omega, b.m1⟩
    | 1 => exact ⟨b.jumps, b.queue, b.m0, by have := b.m1; simp_all [Route.marker, Route.setMarker]; omega⟩
  · have balance := p.balance
    have unused := (p.apart m).resolve_left (by simp [h])
    match m with
    | 0 =>
      refine ⟨?_, p.range, fun k => ?_⟩
      · simp only [Route.marker] at h
        simp only [actionsPresent, Route.setMarker, h, List.length_cons] at balance ⊢
        omega
      · match k with
        | 0 => exact .inr unused
        | 1 => exact p.apart 1
    | 1 =>
      refine ⟨?_, p.range, fun k => ?_⟩
      · simp only [Route.marker] at h
        simp only [actionsPresent, Route.setMarker, h, List.length_cons] at balance ⊢
        omega
      · match k with
        | 0 => exact p.apart 0
        | 1 => exact .inr unused

theorem markerUnused_keeps (m : Fin 2) (a : Act) : Keeps a.s (markerUnused m a).s := placeReport_keeps _ _

theorem markerToQueue_keeps (m : Fin 2) (a : Act) : Keeps a.s (markerToQueue m a).s := by
  unfold markerToQueue
  split
  · exact markerUnused_keeps m a
  · rename_i e rest h
    split
    · have fired := fireHead_keeps (some e.trigger) a e rest h
      split <;> rename_i g <;> rw [g] at fired
      · exact fired.trans (evaluateQueue_keeps _)
      · exact fired
    · exact markerUnused_keeps m a

theorem markerEdge_keeps (m : Fin 2) (a : Act) : Keeps a.s (markerEdge m a).s := by
  unfold markerEdge
  split
  · split
    · rename_i x rest h
      exact fire_keeps _ x none a.s _ (dropAction_fired_keeps m a x rest h)
    · exact markerToQueue_keeps m a
  · exact markerUnused_keeps m a

/-! ## Discrete Line Unit (05) -/

theorem rawChange_bounce (now duration : Nat) (level : Level) (r : InputRecord) (h : r.bounce ≤ 65535) :
    (rawChange now duration level r).bounce ≤ 65535 := by
  unfold rawChange
  dsimp only
  split
  · exact (bump16_le_iff _).2 h
  · split
    · exact (bump16_le_iff _).2 h
    · exact h

theorem takeRaw_keeps (line : Fin 12) (level : Level) (a : Act) : Keeps a.s (takeRaw line level a).s := by
  unfold takeRaw
  dsimp only
  split
  · exact .refl _
  · exact .modInput line _ a (rawChange_bounce _ _ level _)

theorem takeEdge_keeps (line : Fin 12) (e : Edge) (a : Act) : Keeps a.s (takeEdge line e a).s := by
  have latched : Keeps a.s (latchEdge line e a).s := by
    unfold latchEdge
    dsimp only
    split
    · exact .trans (.modInput line _ a id) (placeReport_keeps _ _)
    · exact .refl _
  unfold takeEdge
  dsimp only
  split
  · exact latched.trans (markerEdge_keeps 0 _)
  · exact latched.trans (markerEdge_keeps 1 _)
  · exact latched

theorem functionChange_keeps (f : InputFunction) (active : Bool) (a : Act) : Keeps a.s (functionChange f active a).s :=
  .of_read (functionChange_read blind_tally f active a)

theorem filterExpired_keeps (line : Fin 12) (a : Act) : Keeps a.s (filterExpired line a).s := by
  unfold filterExpired
  extract_lets before settled after handed
  have settled_keeps : Keeps a.s settled.s := .modInput line _ a id
  have handed_keeps : Keeps a.s handed.s := by
    unfold handed
    split
    · split
      · exact settled_keeps
      · exact settled_keeps.trans (functionChange_keeps _ _ _)
    · exact settled_keeps
  split
  · split
    · exact handed_keeps.trans (takeEdge_keeps _ _ _)
    · exact handed_keeps
  · exact handed_keeps

theorem relevel_keeps (before : State) (a : Act) : Keeps a.s (relevel before a).s :=
  .trans (.of_read (Act.setChoices_read blind_tally _ a)) (.foldl _ (fun b _ => functionChange_keeps _ _ b) _ _)

theorem disarmLatches_keeps (a : Act) : Keeps a.s (disarmLatches a).s := .modInputs_map _ a fun _ h => h

theorem armLine_keeps (n : Nat) (a : Act) : Keeps a.s (armLine n a).1.s := by
  unfold armLine
  split
  · exact .refl _
  · split
    · exact .refl _
    · split
      · exact .refl _
      · split
        · exact .modInput _ _ a id
        · exact .refl _
        · exact .refl _

theorem clearLine_keeps (n : Nat) (a : Act) : Keeps a.s (clearLine n a).1.s := by
  unfold clearLine
  dsimp only
  split
  · exact .refl _
  · split
    · exact .refl _
    · exact .modInput _ _ a id
    · exact .modInput _ _ a id

end Sys2Proof.Machine

namespace Sys2Proof.Machine

/-! ## Head Port Controller (10) -/

theorem reportHead_keeps (role : Role) (before : Presence) (cause : HeadCause) (expected : Option Nat) (a : Act) :
    Keeps a.s (reportHead role before cause expected a).s := placeReport_keeps _ _

theorem leavePresent_keeps (role : Role) (presence : Presence) (cause : HeadCause) (a : Act) :
    Keeps a.s (leavePresent role presence cause a).s := by
  have left : Keeps a.s (a.modRole role fun r => { r with presence, silenceDeadline := none, lastForwarded := none }).s :=
    .modRole role _ a id
  exact left.trans (reportHead_keeps _ _ _ _ _)

theorem loseRole_keeps (role : Role) (cause : HeadCause) (a : Act) : Keeps a.s (loseRole role cause a).s := by
  unfold loseRole
  split
  · exact leavePresent_keeps _ _ _ a
  · exact .refl _

theorem becomePresent_keeps (role : Role) (silence : Nat) (a : Act) : Keeps a.s (becomePresent role silence a).s := by
  unfold becomePresent
  dsimp only
  split
  · exact .refl _
  · exact .trans (.modRole role (fun r => { r with presence := .present, silenceDeadline := some (a.s.now + silence) }) a id)
      (reportHead_keeps _ _ _ _ _)

theorem refreshSilence_keeps (d : Option DirectoryRecord) (a : Act) : Keeps a.s (refreshSilence d a).s := by
  unfold refreshSilence
  split
  · exact .refl _
  · split
    · exact .refl _
    · split
      · exact .modRole _ _ a id
      · exact .refl _

theorem portLeaves_keeps (port : Fin 8) (link : PortLink) (a : Act) : Keeps a.s (portLeaves port link a).s := by
  have left : Keeps a.s (a.modPort port fun r => r.unlocked link).s :=
    .modPort port _ a fun _ => ⟨Nat.zero_le _, Nat.zero_lt_succ _⟩
  unfold portLeaves
  dsimp only
  split
  · exact left.trans (loseRole_keeps _ _ _)
  · exact left

theorem portLight_keeps (port : Fin 8) (a : Act) : Keeps a.s (portLight port a).s := by
  unfold portLight
  split
  · exact .modPort port _ a fun _ => ⟨Nat.zero_le _, Nat.zero_lt_succ _⟩
  · exact .refl _

theorem portLock_keeps (port : Fin 8) (a : Act) : Keeps a.s (portLock port a).s := by
  unfold portLock
  split
  · exact .modPort port _ a fun h => ⟨h.badFrames, h.badRun⟩
  · exact .refl _

theorem portLockLost_keeps (port : Fin 8) (a : Act) : Keeps a.s (portLockLost port a).s := by
  unfold portLockLost
  split
  · exact portLeaves_keeps _ _ a
  · exact portLeaves_keeps _ _ a
  · exact .refl _
  · exact .refl _

theorem portDark_keeps (port : Fin 8) (a : Act) : Keeps a.s (portDark port a).s := by
  unfold portDark
  split
  · exact .refl _
  · exact portLeaves_keeps _ _ a

/-- R175: the eighth bad frame in a row ends the lock, so that the bad run never stands at 8. -/
theorem portBadFrame_keeps (port : Fin 8) (a : Act) : Keeps a.s (portBadFrame port a).s := by
  unfold portBadFrame
  split
  · split
    · exact portLeaves_keeps _ _ a
    · rename_i seventh
      exact .modPort port _ a fun h => ⟨(bump16_le_iff _).2 h.badFrames, Nat.lt_of_not_le seventh⟩
  · exact .refl _

theorem validFrame_keeps (port : Fin 8) (a : Act) : Keeps a.s (validFrame port a).s :=
  .trans (.modPort port _ a fun h => ⟨h.badFrames, Nat.zero_lt_succ _⟩) (refreshSilence_keeps _ _)

theorem checkKind_keeps (port : Fin 8) (a : Act) : Keeps a.s (checkKind port a).s := by
  have barred : Keeps a.s (a.modPort port fun r => { r with link := .barred, badFrames := 0, badRun := 0 }).s :=
    .modPort port _ a fun _ => ⟨Nat.zero_le _, Nat.zero_lt_succ _⟩
  unfold checkKind
  split
  · split
    · exact .refl _
    · dsimp only
      split
      · exact barred.trans (reportHead_keeps _ _ _ _ _)
      · exact barred
  · exact .refl _

theorem takeAnnouncement_keeps (port : Fin 8) (kind serial : Nat) (a : Act) :
    Keeps a.s (takeAnnouncement port kind serial a).s :=
  .trans (.modPort port _ a fun h => ⟨h.badFrames, h.badRun⟩) (checkKind_keeps _ _)

theorem announce_keeps (port : Fin 8) (kind serial : Nat) (a : Act) : Keeps a.s (announce port kind serial a).s := by
  have valid := validFrame_keeps port a
  unfold announce
  dsimp only
  split
  · split
    · exact valid.trans (takeAnnouncement_keeps _ _ _ _)
    · split
      · exact valid
      · refine valid.trans (.trans ?_ (takeAnnouncement_keeps _ _ _ _))
        split
        · exact loseRole_keeps _ _ _
        · exact .refl _
  · exact .refl _

/-- R185: the Telemetry Forward Queue stays within its capacity. -/
theorem offerTelemetry_keeps (item : TelemetryItem) (a : Act) : Keeps a.s (offerTelemetry item a).1.s := by
  unfold offerTelemetry telemetryCapacity
  split
  · rename_i room
    exact .modRu _ a fun h => ⟨by simpa using room, h.upSequence⟩
  · exact .modRu _ a fun h => ⟨h.telemetry, h.upSequence⟩

theorem forward_keeps (d : DirectoryRecord) (role : Role) (payload : List Byte) (a : Act) :
    Keeps a.s (forward d role payload a).s := by
  have offered := offerTelemetry_keeps { role, port := d.port, kind := d.kind, payload } a
  unfold forward
  split
  · split <;> rename_i e <;> rw [e] at offered
    · exact offered.trans (.modRole role _ _ id)
    · exact offered
  · exact .refl _

theorem handStatus_keeps (role : Role) (payload : List Byte) (a : Act) : Keeps a.s (handStatus role payload a).s := by
  unfold handStatus
  split
  · exact .of_read (switchgearStatus_read blind_tally _ _)
  · exact .of_read (panStatus_read blind_tally _ _ _)
  · exact .of_read (panStatus_read blind_tally _ _ _)
  · exact .of_read (heaterStatus_read blind_tally _ _)
  · exact climateStatus_keeps _ _
  · exact .refl _
  · exact .refl _
  · exact .refl _

theorem roleStatus_keeps (d : DirectoryRecord) (role : Role) (payload : List Byte) (a : Act) :
    Keeps a.s (roleStatus d role payload a).s :=
  ((becomePresent_keeps _ _ a).trans (handStatus_keeps _ _ _)).trans (forward_keeps _ _ _ _)

theorem headStatusFrame_keeps (port : Fin 8) (payload : List Byte) (a : Act) :
    Keeps a.s (headStatusFrame port payload a).s := by
  have valid := validFrame_keeps port a
  unfold headStatusFrame
  dsimp only
  split
  · split
    · split
      · exact valid
      · split
        · split
          · exact valid.trans (roleStatus_keeps _ _ _ _)
          · exact valid
        · exact valid
    · exact portBadFrame_keeps _ a
  · exact .refl _

theorem cellFrame_keeps (port : Fin 8) (sequence : Nat) (fault : Bool) (samples : List Int) (current : Nat) (a : Act) :
    Keeps a.s (cellFrame port sequence fault samples current a).s := by
  have valid := validFrame_keeps port a
  unfold cellFrame
  dsimp only
  split
  · split
    · split
      · exact valid.trans (takeCell_keeps _ _ _ _ _)
      · exact valid
    · exact portBadFrame_keeps _ a
  · exact .refl _

theorem unmapRole_keeps (a : Act) (role : Role) : Keeps a.s (unmapRole a role).s := by
  unfold unmapRole
  split
  · exact leavePresent_keeps _ _ _ a
  · exact .trans (.modRole role _ a id) (reportHead_keeps _ _ _ _ _)
  · exact .refl _

theorem directoryGone_keeps (a : Act) : Keeps a.s (directoryGone a).s := by
  refine .trans (.foldl unmapRole unmapRole_keeps rolesInOrder a) (.modPorts_map _ _ fun r h => ?_)
  split
  · exact ⟨h.badFrames, h.badRun⟩
  · exact h

theorem directoryValid_keeps (a : Act) : Keeps a.s (directoryValid a).s := by
  refine .foldl _ (fun b port => ?_) _ a
  split
  · exact checkKind_keeps _ b
  · exact .refl _

/-! ## Tables (11) -/

theorem setTables_keeps (ts : Tables) (a : Act) : Keeps a.s (a.setTables ts).s :=
  .modVl _ a (fun h => ⟨h.badFrames, h.badRun⟩) le_rfl

theorem discarded_keeps (id : Nat) (before : State) (a : Act) : Keeps a.s (discarded id before a).s := by
  have refused : Keeps a.s (refuseHeldForTable a).s := .of_read (refuseHeldForTable_read blind_tally a)
  unfold discarded
  dsimp only
  split
  · split
    · exact refused.trans (directoryGone_keeps _)
    · exact refused
  · exact refused
  · split
    · exact systemTableGone_keeps a
    · exact .refl _
  · split
    · exact (relevel_keeps _ a).trans (disarmLatches_keeps _)
    · exact .refl _
  · exact .refl _

theorem becameValid_keeps (id : Nat) (before : State) (a : Act) : Keeps a.s (becameValid id before a).s := by
  unfold becameValid
  split
  · exact directoryValid_keeps a
  · exact systemTableValid_keeps a
  · exact relevel_keeps _ a
  · exact .refl _

theorem partDone_keeps (id : Nat) (before : State) (a : Act) : Keeps a.s (partDone id before a).s := by
  have changed := lineSettingsChanged_keeps (settings before) a
  unfold partDone
  dsimp only
  split <;> split
  · exact changed.trans (allocate_keeps _)
  · exact changed
  · exact allocate_keeps a
  · exact .refl _

theorem discardPart_keeps (id : Nat) (a : Act) : Keeps a.s (discardPart id a).s :=
  ((setTables_keeps _ a).trans (discarded_keeps _ _ _)).trans (partDone_keeps _ _ _)

theorem appendPart_keeps (id : Nat) (bytes : List Byte) (a : Act) : Keeps a.s (appendPart id bytes a).1.s := by
  have appended := (setTables_keeps (appendIn bytes a.s.vl.tables id).1 a).trans (partDone_keeps id a.s _)
  unfold appendPart
  dsimp only
  split
  · exact appended
  · exact appended

theorem lastPart_keeps (id : Nat) (bytes : List Byte) (a : Act) : Keeps a.s (lastPart id bytes a).1.s := by
  have appended := appendPart_keeps id bytes a
  unfold lastPart
  split
  rename_i b answer e
  rw [e] at appended
  have validated := appended.trans ((setTables_keeps (validateIn b.s.vl.tables id).1 b).trans (partDone_keeps id b.s _))
  split
  · dsimp only
    split
    · exact validated
    · exact validated.trans (becameValid_keeps _ _ _)
  · exact appended

theorem guardLoad_keeps (id : Nat) (body : Act → Act × Answered) (h : ∀ a, Keeps a.s (body a).1.s) (a : Act) :
    Keeps a.s (guardLoad id body a).1.s := by
  unfold guardLoad
  split
  · exact .refl _
  · exact h a

theorem whileLoading_keeps (id : Nat) (body : Act → Act × Answered) (h : ∀ a, Keeps a.s (body a).1.s) (a : Act) :
    Keeps a.s (whileLoading id body a).1.s := by
  unfold whileLoading
  split
  · exact h a
  · exact .refl _

theorem loadFirst_keeps (id : Nat) (bytes : List Byte) (a : Act) : Keeps a.s (loadFirst id bytes a).1.s :=
  guardLoad_keeps id _ (fun b => (discardPart_keeps id b).trans (appendPart_keeps id bytes _)) a

theorem loadMiddle_keeps (id : Nat) (bytes : List Byte) (a : Act) : Keeps a.s (loadMiddle id bytes a).1.s :=
  guardLoad_keeps id _ (whileLoading_keeps id _ (appendPart_keeps id bytes)) a

theorem loadLast_keeps (id : Nat) (bytes : List Byte) (a : Act) : Keeps a.s (loadLast id bytes a).1.s :=
  guardLoad_keeps id _ (whileLoading_keeps id _ (lastPart_keeps id bytes)) a

theorem loadOnly_keeps (id : Nat) (bytes : List Byte) (a : Act) : Keeps a.s (loadOnly id bytes a).1.s :=
  guardLoad_keeps id _ (fun b => (discardPart_keeps id b).trans (lastPart_keeps id bytes _)) a

theorem readTableRequest_keeps (id start : Nat) (a : Act) : Keeps a.s (readTableRequest id start a).1.s := by
  unfold readTableRequest
  split <;> exact .refl _

theorem readRecordRequest_keeps (id : Nat) (a : Act) : Keeps a.s (readRecordRequest id a).1.s := by
  unfold readRecordRequest
  split <;> exact .refl _

/-! ## Vehicle Link, modes and counts (11) -/

/-- A change of the Vehicle Link that leaves its bad frames and its replies as they are. -/
theorem Keeps.modVl_aside (f : VehicleLink → VehicleLink) (a : Act)
    (badFrames : (f a.s.vl).badFrames = a.s.vl.badFrames := by rfl) (badRun : (f a.s.vl).badRun = a.s.vl.badRun := by rfl)
    (replies : (f a.s.vl).replies = a.s.vl.replies := by rfl) : Keeps a.s (a.modVl f).s :=
  .modVl f a (fun h => ⟨badFrames ▸ h.badFrames, badRun ▸ h.badRun⟩) (replies ▸ le_rfl)

theorem unlocked_keeps (link : VlLink) (a : Act) : Keeps a.s (a.modVl fun v => v.unlocked link).s :=
  .modVl _ a (fun h => ⟨h.badFrames, Nat.zero_lt_succ _⟩) le_rfl

theorem vlLight_keeps (a : Act) : Keeps a.s (vlLight a).s := by
  unfold vlLight
  split
  · exact unlocked_keeps _ a
  · exact .refl _

theorem vlLock_keeps (a : Act) : Keeps a.s (vlLock a).s := by
  unfold vlLock
  split
  · exact .modVl_aside _ a
  · exact .refl _

theorem vlUnlock_keeps (a : Act) : Keeps a.s (vlUnlock a).s := by
  unfold vlUnlock
  split
  · exact unlocked_keeps _ a
  · exact .refl _

/-- R188: the eighth bad frame in a row ends the lock, so that the bad run never stands at 8. -/
theorem vlBad_keeps (a : Act) : Keeps a.s (vlBad a).s := by
  unfold vlBad
  split
  · refine .modVl _ a (fun h => ?_) ?_
    · dsimp only
      split
      · exact ⟨(bump16_le_iff _).2 h.badFrames, Nat.zero_lt_succ _⟩
      · rename_i seventh
        exact ⟨(bump16_le_iff _).2 h.badFrames, Nat.lt_of_not_le seventh⟩
    · dsimp only
      split <;> exact le_rfl
  · exact .refl _

theorem downFrame_keeps (a : Act) : Keeps a.s (downFrame a).s :=
  .modVl _ a (fun h => ⟨h.badFrames, Nat.zero_lt_succ _⟩) le_rfl

theorem onFrame_keeps (f : Act → Act) (h : ∀ a, Keeps a.s (f a).s) (a : Act) : Keeps a.s (onFrame f a).s := by
  unfold onFrame
  split
  · exact (downFrame_keeps a).trans (h _)
  · exact .refl _

theorem vlSilent_keeps (a : Act) : Keeps a.s (vlSilent a).s := by
  have silent : Keeps a.s (a.modVl fun v => { v with active := false, silenceDeadline := none }).s := .modVl_aside _ a
  unfold vlSilent
  dsimp only
  split
  · exact silent
  · exact silent

theorem discardRequest_keeps (a : Act) : Keeps a.s (discardRequest a).s := .modVl_aside _ a

theorem modeRun_keeps (a : Act) : Keeps a.s (modeRun a).1.s := by
  have run : Keeps a.s (setMode .run a).s := .modVl_aside _ a
  unfold modeRun
  split
  · exact .refl _
  · split
    · exact .refl _
    · exact run.trans (.modIce (fun i => { i with holdOff := false }) _ id)

theorem modeStandby_keeps (a : Act) : Keeps a.s (modeStandby a).1.s := by
  have standby : Keeps a.s (setMode .standby a).s := .modVl_aside _ a
  unfold modeStandby
  split
  · exact .refl _
  · exact standby

theorem beginRestart_keeps (a : Act) : Keeps a.s (beginRestart a).1.s := .modVl_aside _ a

theorem clearCounts_keeps (a : Act) : Keeps a.s (clearCounts a).1.s := by
  have link : Keeps a.s (a.modVl fun v => { v with badFrames := 0 }).s :=
    .modVl _ a (fun h => ⟨Nat.zero_le _, h.badRun⟩) le_rfl
  have line (b : Act) : Keeps b.s (b.modLm fun l => { l with gapCount := 0 }).s :=
    .modLm _ b fun h => ⟨Nat.zero_le _, h.windows, h.digests, h.arcs⟩
  have inputs (b : Act) : Keeps b.s (b.modInputs fun v => v.map fun r => { r with bounce := 0 }).s :=
    .modInputs_map _ b fun _ _ => Nat.zero_le _
  have ports (b : Act) : Keeps b.s (b.modPorts fun v => v.map fun r => { r with badFrames := 0 }).s :=
    .modPorts_map _ b fun _ h => ⟨Nat.zero_le _, h.badRun⟩
  have roles (b : Act) : Keeps b.s (b.modRoles fun v => v.map fun r => { r with undelivered := 0 }).s :=
    .modRoles_map _ b fun _ _ => Nat.zero_le _
  have jumps (b : Act) : Keeps b.s (b.modPr fun r => { r with position := { r.position with jumps := 0 } }).s :=
    .modPr _ b (fun h => ⟨Nat.zero_le _, h.queue, h.m0, h.m1⟩) fun h => ⟨h.balance, h.range, h.apart⟩
  exact ((((link.trans (line _)).trans (inputs _)).trans (ports _)).trans (roles _)).trans (jumps _)

/-! ## Report Unit (12) -/

theorem sendOwn_keeps (cls : UpClass) (flags : Byte) (payload : List Byte) (a : Act) :
    Keeps a.s (sendOwn cls flags payload a).s :=
  .modRu (fun u => { u with upSequence := (a.s.ru.upSequence + 1) % 256, sending := _ }) a
    fun h => ⟨h.telemetry, Nat.mod_lt _ (Nat.zero_lt_succ _)⟩

theorem takeItem_keeps (w : Waiting) (a : Act) : Keeps a.s (takeItem w a).s := by
  cases w with
  | reply r => exact .trans (.modVl _ a (fun h => ⟨h.badFrames, h.badRun⟩) (by simp)) (.modRu _ _ fun h => ⟨h.1, h.2⟩)
  | status =>
    refine .trans (.trans (.modRu (fun u => { u with statusDue := false, dropped := false }) a fun h => ⟨h.1, h.2⟩) ?_)
      (sendOwn_keeps _ _ _ _)
    exact .modVl_aside (fun v => { v with replyOverrun := false }) _
  | report i r => exact .trans (.modRu _ a fun h => ⟨h.1, h.2⟩) (sendOwn_keeps _ _ _ _)
  | digest =>
    refine .trans (.modLm _ a fun h => ⟨h.gaps, h.windows, ?_, h.arcs⟩) (sendOwn_keeps _ _ _ _)
    have := h.digests
    simp
    omega
  | telemetry t =>
    refine .trans (.modRu _ a fun h => ⟨?_, h.upSequence⟩) (sendOwn_keeps _ _ _ _)
    have := h.telemetry
    simp
    omega

theorem statusExpired_keeps (a : Act) : Keeps a.s (statusExpired a).s := .modRu _ a fun h => ⟨h.1, h.2⟩

theorem transmitterDone_keeps (a : Act) : Keeps a.s (transmitterDone a).s := .modRu _ a fun h => ⟨h.1, h.2⟩

theorem emptySlots_keeps (a : Act) : Keeps a.s (emptySlots a).s := .modRu _ a fun h => ⟨h.1, h.2⟩

/-! ## The cascade -/

theorem takeNote_keeps (n : Note) (a : Act) : Keeps a.s (takeNote n a).s := by
  cases n with
  | lineJoin samples current => exact joinWindow_keeps _ _ a
  | lineLost => exact lineLost_keeps a
  | iceArc => exact arcAppended_keeps a
  | routeRun => exact evaluateQueue_keeps a
  | routeStandby => exact routeStandby_keeps a
  | _ => exact .of_read (by simp [takeNote, blind_tally])

theorem takeNext_keeps (a : Act) : Keeps a.s (takeNext a).s := by
  unfold takeNext
  split
  · rename_i n rest cs _
    exact (Keeps.of_read (Act.setChoices_read blind_tally cs { a with notes := rest })).trans (takeNote_keeps n _)
  · exact .refl _

theorem settle_keeps (fuel : Nat) (a : Act) : Keeps a.s (settle fuel a).s := by
  induction fuel generalizing a with
  | zero => exact .refl _
  | succ n ih =>
    unfold settle
    split
    · exact .refl _
    · exact (takeNext_keeps a).trans (ih _)

theorem restartEffects_keeps (a : Act) : Keeps a.s (restartEffects a).s := by
  have roof : Keeps a.s (restartChangeover (a.modHolds fun _ => Vector.replicate 8 none)).s :=
    .of_read (by simp [blind_tally])
  have mode (b : Act) : Keeps b.s (b.modVl fun v => { v with restartPending := false, mode := .standby }).s :=
    .modVl_aside _ b
  have pans (b : Act) : Keeps b.s (requestMbOpen .protection (restartPans b)).s := .of_read (by simp [blind_tally])
  exact (((((roof.trans (mode _)).trans (restartLine_keeps _)).trans (pans _)).trans (disarmLatches_keeps _)).trans
    (restartRoute_keeps _)).trans (restartIce_keeps _)

theorem complete_keeps (a : Act) : Keeps a.s (complete a).s := by
  have told := settle_keeps noteBound a
  unfold complete
  dsimp only
  split
  · exact told
  · rename_i w _
    have taken := told.trans (takeItem_keeps w _)
    split
    · exact ((taken.trans (restartEffects_keeps _)).trans (settle_keeps _ _)).trans (emptySlots_keeps _)
    · exact taken

theorem atDeadline_keeps (deadline : Option Nat) (effect : Act → Act) (h : ∀ a, Keeps a.s (effect a).s) (a : Act) :
    Keeps a.s (atDeadline deadline effect a).s := by
  cases deadline with
  | none => exact .refl _
  | some t => exact (Keeps.of_read rfl : Keeps a.s (a.setNow (max a.s.now t)).s).trans (h _)

end Sys2Proof.Machine

namespace Sys2Proof.Machine

/-! ## Commands -/

/-- Every queue lies within its capacity and every count within its range, and the route plan is in order, in the later state where
they did in the earlier one. -/
structure Safe (s t : State) : Prop where
  bounds : WithinCapacities s → CountsInRange s → WithinCapacities t ∧ CountsInRange t
  plan : QueueBalanced s → MarkersExclusive s → QueueBalanced t ∧ MarkersExclusive t

theorem Safe.trans {s t u : State} (h : Safe s t) (g : Safe t u) : Safe s u where
  bounds cap range := by
    obtain ⟨cap, range⟩ := h.bounds cap range
    exact g.bounds cap range
  plan balanced exclusive := by
    obtain ⟨balanced, exclusive⟩ := h.plan balanced exclusive
    exact g.plan balanced exclusive

/-- The bounds, gathered from the blocks. -/
theorem bounds_iff (s : State) : WithinCapacities s ∧ CountsInRange s ↔
    s.lm.Bounded ∧ s.pr.Bounded ∧ s.vl.Bounded ∧ s.vl.replies.length ≤ 8 ∧ (∀ port : Fin 8, s.ports[port].Bounded)
      ∧ (∀ role, (roleOf s role).undelivered ≤ 65535) ∧ (∀ line : Fin 12, s.inputs[line].bounce ≤ 65535) ∧ s.ru.Bounded
      ∧ s.ice.score ≤ 100 := by
  constructor
  · rintro ⟨⟨replies, digests, arcs, telemetry, queue, m0, m1⟩,
      gaps, windows, jumps, vlBad, vlRun, ports, roles, inputs, upSequence, score⟩
    exact ⟨⟨gaps, windows, digests, arcs⟩, ⟨jumps, queue, m0, m1⟩, ⟨vlBad, vlRun⟩, replies,
      fun port => ⟨(ports port).1, (ports port).2⟩, roles, inputs, ⟨telemetry, upSequence⟩, score⟩
  · rintro ⟨⟨gaps, windows, digests, arcs⟩, ⟨jumps, queue, m0, m1⟩, ⟨vlBad, vlRun⟩, replies, ports, roles, inputs,
      ⟨telemetry, upSequence⟩, score⟩
    exact ⟨⟨replies, digests, arcs, telemetry, queue, m0, m1⟩, gaps, windows, jumps, vlBad, vlRun,
      fun port => ⟨(ports port).badFrames, (ports port).badRun⟩, roles, inputs, upSequence, score⟩

/-- The route plan in order, as a property of the route unit. -/
theorem plan_iff (s : State) : QueueBalanced s ∧ MarkersExclusive s ↔ s.pr.Planned := by
  constructor
  · rintro ⟨⟨balance, range⟩, apart⟩
    exact ⟨balance, range, apart⟩
  · rintro ⟨balance, range, apart⟩
    exact ⟨⟨balance, range⟩, apart⟩

theorem Keeps.safe {s t : State} (h : Keeps s t) : Safe s t where
  bounds cap range := by
    obtain ⟨line, route, link, replies, ports, roles, inputs, reports, score⟩ := (bounds_iff s).1 ⟨cap, range⟩
    exact (bounds_iff t).2 ⟨h.line line, h.route route, h.link link, h.replies.trans replies, h.ports ports, h.roles roles,
      h.inputs inputs, h.reports reports, h.score score⟩
  plan balanced exclusive := (plan_iff t).2 (h.plan ((plan_iff s).1 ⟨balanced, exclusive⟩))

/-- R191: a reply joins the Reply Queue where it is not full. -/
theorem reply_safe (seq code : Nat) (r : Answered) (s : State) (a : Act) (h : Keeps s a.s)
    (room : s.vl.replies.length < 8) : Safe s (reply seq code r a).s where
  bounds cap range := by
    obtain ⟨line, route, link, replies, ports, roles, inputs, reports, score⟩ := (bounds_iff s).1 ⟨cap, range⟩
    have one : (reply seq code r a).s.vl.replies.length ≤ 8 := by
      have := h.replies
      simp [State.replied]
      omega
    have link := h.link link
    exact (bounds_iff _).2 ⟨h.line line, h.route route, ⟨link.badFrames, link.badRun⟩, one, h.ports ports, h.roles roles,
      h.inputs inputs, h.reports reports, h.score score⟩
  plan balanced exclusive := h.safe.plan balanced exclusive

/-- R191, R192: a request is discarded at a full Reply Queue, and answered otherwise. -/
theorem requestWith_safe (pending : Result) (seq code : Nat) (owner : Act → Act × Answered)
    (h : ∀ a, Keeps a.s (owner a).1.s) (a : Act) : Safe a.s (requestWith pending seq code owner a).s := by
  unfold requestWith onFrame
  split
  · have framed := downFrame_keeps a
    refine framed.safe.trans ?_
    dsimp only
    split
    · exact (discardRequest_keeps _).safe
    · rename_i full
      have room : (downFrame a).s.vl.replies.length < 8 := Nat.lt_of_not_le fun h => full (decide_eq_true h)
      split
      · exact reply_safe _ _ _ _ _ (.refl _) room
      · exact reply_safe _ _ _ _ _ (h _) room
  · exact (Keeps.refl _).safe

theorem request_safe (seq code : Nat) (owner : Act → Act × Answered) (h : ∀ a, Keeps a.s (owner a).1.s) (a : Act) :
    Safe a.s (request seq code owner a).s := requestWith_safe .busy seq code owner h a

theorem perform_safe (f : Act → Act) (s t : State) (h : ∀ a, Safe a.s (f a).s) (e : perform f s = .next t) : Safe s t := by
  unfold perform at e
  split at e <;> cases e
  · exact (h { s }).trans (complete_keeps _).safe
  · exact (Keeps.refl _).safe

theorem perform_keeps (f : Act → Act) (s t : State) (h : ∀ a, Keeps a.s (f a).s) (e : perform f s = .next t) : Safe s t :=
  perform_safe f s t (fun a => (h a).safe) e

/-- The state after a power-on reset meets the bounds, whatever came before it. -/
theorem afterReset_safe (levels : LineLevels) (s : State) : Safe s (afterReset levels s) where
  bounds _ _ := by
    refine (bounds_iff _).2 ⟨⟨?_, ?_, ?_, ?_⟩, ⟨?_, ?_, ?_, ?_⟩, ⟨?_, ?_⟩, ?_, fun port => ⟨?_, ?_⟩, fun role => ?_, fun line => ?_,
      ⟨?_, ?_⟩, ?_⟩ <;> simp [afterReset, State.reset, roleOf]
  plan _ _ := (plan_iff _).2 ⟨rfl, Nat.zero_le _, fun _ => .inr rfl⟩

theorem plain_keeps (f : Act → Act × Result) (h : ∀ a, Keeps a.s (f a).1.s) (a : Act) : Keeps a.s (plain f a).1.s := h a

theorem raiseReply_keeps (p : Pan) (role : PanRole) (profile : Nat) (o : Origin) (a : Act) :
    Keeps a.s (raiseReply (raisePan p role profile o) a).1.s := .of_read (raisePan_read blind_tally p role profile o a)

theorem routeReply_keeps (f : Act → Act × RouteAnswer) (h : ∀ a, Keeps a.s (f a).1.s) (a : Act) :
    Keeps a.s (routeReply f a).1.s := h a

theorem lowerReply_keeps (pans : PanChoice) (a : Act) : Keeps a.s (lowerReply pans a).1.s :=
  .of_read (lowerChoice_read blind_tally pans a)

theorem iceReply_keeps (setting : Nat) (a : Act) : Keeps a.s (iceReply setting a).1.s := by
  have taken : Keeps a.s (takeIceMode setting a).1.s := .of_read (takeIceMode_read blind_tally setting a)
  unfold iceReply
  split <;> rename_i e <;> rw [e] at taken <;> exact taken

theorem clearReply_keeps (line : Nat) (a : Act) : Keeps a.s (clearReply line a).1.s := by
  have cleared := clearLine_keeps line a
  unfold clearReply
  split <;> rename_i e <;> rw [e] at cleared <;> exact cleared

/-- Every command keeps the queues within their capacities, the counts within their ranges and the route plan in order. -/
theorem exec_safe (c : Instr) (s t : State) (e : exec c s = .next t) : Safe s t := by
  cases c with
  | powerOnReset levels =>
    cases e
    exact afterReset_safe levels s
  | powerLoss =>
    cases e
    exact (Keeps.of_read (s := s) (t := { s with powered := false }) rfl).safe
  | headLinkLightAppears port => exact perform_keeps _ s t (portLight_keeps port) e
  | headLinkLockAchieved port => exact perform_keeps _ s t (portLock_keeps port) e
  | headLinkLockLost port => exact perform_keeps _ s t (portLockLost_keeps port) e
  | headLinkLightLost port => exact perform_keeps _ s t (portDark_keeps port) e
  | headBadFrame port => exact perform_keeps _ s t (portBadFrame_keeps port) e
  | announce port kind serial => exact perform_keeps _ s t (announce_keeps port kind serial) e
  | headStatus port payload => exact perform_keeps _ s t (headStatusFrame_keeps port payload) e
  | cell port sequence fault samples current =>
    exact perform_keeps _ s t (cellFrame_keeps port sequence fault samples current) e
  | roleSilenceExpiry role => exact perform_keeps _ s t (atDeadline_keeps _ _ (loseRole_keeps role .silence)) e
  | panRaise seq pan role profile => exact perform_safe _ s t (request_safe _ _ _ (raiseReply_keeps pan role profile .pan)) e
  | stageDeadlineExpiry pan =>
    exact perform_keeps _ s t (atDeadline_keeps _ _ fun a => .of_read (nextStage_read blind_tally pan a)) e
  | raiseDeadlineExpiry pan =>
    exact perform_keeps _ s t (atDeadline_keeps _ _ fun a => .of_read (raiseTimeout_read blind_tally pan a)) e
  | ventGuardExpiry pan =>
    exact perform_keeps _ s t (atDeadline_keeps _ _ fun a => .of_read (ventGuardOver_read blind_tally pan a)) e
  | lowerDeadlineExpiry pan =>
    exact perform_keeps _ s t (atDeadline_keeps _ _ fun a => .of_read (endAtDeadline_read blind_tally pan a)) e
  | panLower seq pans => exact perform_safe _ s t (request_safe _ _ _ (lowerReply_keeps pans)) e
  | clearPanFault seq pan =>
    exact perform_safe _ s t (request_safe _ _ _ (plain_keeps _ fun a => .of_read (clearFault_read blind_tally pan a))) e
  | moveDeadlineExpiry dev =>
    exact perform_keeps _ s t (atDeadline_keeps _ _ fun a => .of_read (giveUpMove_read blind_tally dev a)) e
  | inputRawChange line level => exact perform_keeps _ s t (takeRaw_keeps line level) e
  | filterDeadlineExpiry line => exact perform_keeps _ s t (atDeadline_keeps _ _ (filterExpired_keeps line)) e
  | inputArm seq line => exact perform_safe _ s t (request_safe _ _ _ (plain_keeps _ (armLine_keeps line))) e
  | inputClear seq line => exact perform_safe _ s t (request_safe _ _ _ (clearReply_keeps line)) e
  | headCommand seq role payload =>
    refine perform_keeps _ s t (fun a => ?_) e
    split
    · exact vlBad_keeps a
    · exact onFrame_keeps _ (fun b => .of_read (vehicleCommand_read blind_tally seq role payload b)) a
  | holdDeadlineExpiry role =>
    exact perform_keeps _ s t (atDeadline_keeps _ _ fun a => .of_read (expireHold_read blind_tally role a)) e
  | position position speed quality => exact perform_keeps _ s t (onFrame_keeps _ (takePosition_keeps position speed quality)) e
  | staleDeadlineExpiry => exact perform_keeps _ s t (atDeadline_keeps _ _ becomeStale_keeps) e
  | queueAppend seq entries => exact perform_safe _ s t (request_safe _ _ _ (routeReply_keeps _ (appendQueue_keeps entries))) e
  | triggerTimerExpiry =>
    exact perform_keeps _ s t (atDeadline_keeps _ _ fun a => (routeStandby_keeps a).trans (evaluateQueue_keeps _)) e
  | markerLoad seq list actions =>
    exact perform_safe _ s t (request_safe _ _ _ (routeReply_keeps _ (loadMarker_keeps list actions))) e
  | queueFlush seq => exact perform_safe _ s t (request_safe _ _ _ (routeReply_keeps _ flushQueueRequest_keeps)) e
  | markerFlush seq list => exact perform_safe _ s t (request_safe _ _ _ (routeReply_keeps _ (flushMarkerRequest_keeps list))) e
  | changeoverStart seq target raisePosition =>
    exact perform_safe _ s t (request_safe _ _ _ (plain_keeps _ fun a =>
      .of_read (startChangeover_read blind_tally target raisePosition .vehicle a))) e
  | raiseTimerExpiry =>
    exact perform_keeps _ s t (atDeadline_keeps _ _ fun a => .of_read (testAwaitRaise_read blind_tally a)) e
  | changeoverProceed seq =>
    exact perform_safe _ s t (request_safe _ _ _ (plain_keeps _ fun a => .of_read (proceedChangeover_read blind_tally a))) e
  | verifyDeadlineExpiry =>
    exact perform_keeps _ s t (atDeadline_keeps _ _ fun a => .of_read (verifyTimedOut_read blind_tally a)) e
  | changeoverAbort seq =>
    exact perform_safe _ s t (request_safe _ _ _ (plain_keeps _ fun a => .of_read (abortChangeover_read blind_tally a))) e
  | iceMode seq setting => exact perform_safe _ s t (request_safe _ _ _ (iceReply_keeps setting)) e
  | vlLightAppears => exact perform_keeps _ s t vlLight_keeps e
  | vlLockAchieved => exact perform_keeps _ s t vlLock_keeps e
  | vlLockLost => exact perform_keeps _ s t vlUnlock_keeps e
  | vlLightLost => exact perform_keeps _ s t (unlocked_keeps .down) e
  | vlBadFrame => exact perform_keeps _ s t vlBad_keeps e
  | vlSilenceExpiry => exact perform_keeps _ s t (atDeadline_keeps _ _ vlSilent_keeps) e
  | mgmtRequestDiscarded =>
    refine perform_keeps (fun a => if repliesFull a.s then onFrame discardRequest a else a) s t (fun a => ?_) e
    split
    · exact onFrame_keeps _ discardRequest_keeps a
    · exact .refl _
  | loadTableFirst seq table records => exact perform_safe _ s t (request_safe _ _ _ (loadFirst_keeps table records)) e
  | loadTableMiddle seq table records => exact perform_safe _ s t (request_safe _ _ _ (loadMiddle_keeps table records)) e
  | loadTableLast seq table records => exact perform_safe _ s t (request_safe _ _ _ (loadLast_keeps table records)) e
  | loadTableOnly seq table records => exact perform_safe _ s t (request_safe _ _ _ (loadOnly_keeps table records)) e
  | readTable seq table start => exact perform_safe _ s t (request_safe _ _ _ (readTableRequest_keeps table start)) e
  | readRecord seq record => exact perform_safe _ s t (request_safe _ _ _ (readRecordRequest_keeps record)) e
  | setModeRun seq => exact perform_safe _ s t (request_safe _ _ _ modeRun_keeps) e
  | setModeStandby seq => exact perform_safe _ s t (request_safe _ _ _ modeStandby_keeps) e
  | restart seq => exact perform_safe _ s t (requestWith_safe _ _ _ _ beginRestart_keeps) e
  | clearCounters seq => exact perform_safe _ s t (request_safe _ _ _ clearCounts_keeps) e
  | statusTimerExpiry => exact perform_keeps _ s t (atDeadline_keeps _ _ statusExpired_keeps) e
  | transmitterFree => exact perform_keeps _ s t transmitterDone_keeps e
  | unknownRequest seq code => exact perform_safe _ s t (request_safe _ _ _ fun _ => .refl _) e

/-- The idle step touches the clock, the order choices and the waiting commands alone. -/
theorem idle_keeps (s : State) : Keeps s (idle s) := by
  unfold idle
  split
  · split <;> exact .of_read rfl
  · exact .refl _

theorem step_safe (s t : State) (e : step s = .next t) : Safe s t := by
  unfold step at e
  split at e
  · cases e
    exact (idle_keeps s).safe
  · rename_i rest _
    exact (Keeps.of_read (s := s) (t := { s with pending := rest }) rfl).safe.trans (exec_safe _ _ t e)

/-- Settles O7: each block's operations keep its queues, counts and route plan (`Keeps`), a request adds at most the one reply for
which it found room, and so does every command and the idle step. -/
theorem stepsKeepQueuesAndCounters : Obligations.StepsKeepQueuesAndCounters :=
  ⟨fun s t cap range e => (step_safe s t e).bounds cap range, fun s t balanced exclusive e => (step_safe s t e).plan balanced exclusive⟩

end Sys2Proof.Machine

namespace Sys2Proof.Machine

/-! SUPPORT. What the samples of a window make of its accumulator (01): the crossings, of which R9 counts one at most for each
sample, and the sums. -/

/-! ## One sample -/

/-- R9: a sample that reaches one side of the band while the state stands at the other. A band of width 0 has a sample 0 reach both
sides, which is no crossing. -/
def crossesBand (h v : Int) (x : Crossing) : Prop :=
  ¬ (h ≤ v ∧ v ≤ -h) ∧ (h ≤ v ∧ x = .below ∨ v ≤ -h ∧ x = .above)

/-- R9: the crossing state after a sample. -/
def crossingAfter (h v : Int) (x : Crossing) : Crossing :=
  if h ≤ v ∧ v ≤ -h then x else if h ≤ v then .above else if v ≤ -h then .below else x

/-- R9: a sample that crosses the band is recorded at its index. -/
theorem detectCrossing_of_crosses (h v : Int) (i : Nat) (c : Accumulator) (hc : crossesBand h v c.crossing) :
    detectCrossing h v i c =
      { c with count := c.count + 1, last := some i, first := some (c.first.getD i),
               crossing := crossingAfter h v c.crossing } := by
  obtain ⟨cells, index, s1, s2, x, count, first, last, sat, sum⟩ := c
  unfold detectCrossing crossingAfter
  unfold crossesBand at hc
  revert hc
  by_cases above : h ≤ v <;> by_cases below : v ≤ -h <;> cases x <;> simp [above, below]

/-- R9: a sample that does not cross the band sets the crossing state alone. -/
theorem detectCrossing_of_not (h v : Int) (i : Nat) (c : Accumulator) (hc : ¬ crossesBand h v c.crossing) :
    detectCrossing h v i c = { c with crossing := crossingAfter h v c.crossing } := by
  obtain ⟨cells, index, s1, s2, x, count, first, last, sat, sum⟩ := c
  unfold detectCrossing crossingAfter
  unfold crossesBand at hc
  revert hc
  by_cases above : h ≤ v <;> by_cases below : v ≤ -h <;> cases x <;> simp [above, below]

/-- R8: the sums after a sample. -/
def addSums (v : Int) (c : Accumulator) : Accumulator :=
  { c with s1 := c.s1 + v, s2 := c.s2 + v.natAbs * v.natAbs, sat := c.sat || v.natAbs == 32767 }

/-- R8, R9: a sample that crosses the band. -/
theorem addSample_of_crosses (h v : Int) (c : Accumulator) (hc : crossesBand h v c.crossing) :
    addSample h c v =
      { c with index := c.index + 1, s1 := c.s1 + v, s2 := c.s2 + v.natAbs * v.natAbs, sat := c.sat || v.natAbs == 32767
               count := c.count + 1, last := some c.index, first := some (c.first.getD c.index)
               crossing := crossingAfter h v c.crossing } := 
  congrArg (fun d : Accumulator => { d with index := d.index + 1 }) (detectCrossing_of_crosses h v c.index (addSums v c) hc)

/-- R8, R9: a sample that does not cross the band. -/
theorem addSample_of_not (h v : Int) (c : Accumulator) (hc : ¬ crossesBand h v c.crossing) :
    addSample h c v =
      { c with index := c.index + 1, s1 := c.s1 + v, s2 := c.s2 + v.natAbs * v.natAbs, sat := c.sat || v.natAbs == 32767
               crossing := crossingAfter h v c.crossing } := 
  congrArg (fun d : Accumulator => { d with index := d.index + 1 }) (detectCrossing_of_not h v c.index (addSums v c) hc)

/-- R8, R9: what a sample makes of the accumulator but for its crossings. -/
theorem addSample_sums (h v : Int) (c : Accumulator) :
    (addSample h c v).index = c.index + 1 ∧ (addSample h c v).s1 = c.s1 + v
      ∧ (addSample h c v).s2 = c.s2 + v.natAbs * v.natAbs ∧ (addSample h c v).sat = (c.sat || v.natAbs == 32767)
      ∧ (addSample h c v).cells = c.cells ∧ (addSample h c v).currentSum = c.currentSum
      ∧ (addSample h c v).crossing = crossingAfter h v c.crossing := by
  by_cases hc : crossesBand h v c.crossing
  · rw [addSample_of_crosses h v c hc]
    exact ⟨rfl, rfl, rfl, rfl, rfl, rfl, rfl⟩
  · rw [addSample_of_not h v c hc]
    exact ⟨rfl, rfl, rfl, rfl, rfl, rfl, rfl⟩

/-! ## A list of samples -/

/-- R8: the samples of a list leave the cells and the current sum of an accumulator. -/
theorem foldl_addSample_cells (h : Int) (samples : List Int) (c : Accumulator) :
    (samples.foldl (addSample h) c).cells = c.cells ∧ (samples.foldl (addSample h) c).currentSum = c.currentSum := by
  induction samples generalizing c with
  | nil => exact ⟨rfl, rfl⟩
  | cons v rest ih =>
    obtain ⟨-, -, -, -, cells, currentSum, -⟩ := addSample_sums h v c
    obtain ⟨ihCells, ihSum⟩ := ih (addSample h c v)
    exact ⟨ihCells.trans cells, ihSum.trans currentSum⟩

/-- R8: the index, the two sums and the SAT mark that a list of samples adds to an accumulator. -/
theorem foldl_addSample_sums (h : Int) (samples : List Int) (c : Accumulator) :
    (samples.foldl (addSample h) c).index = c.index + samples.length
      ∧ (samples.foldl (addSample h) c).s1 = c.s1 + samples.sum
      ∧ (samples.foldl (addSample h) c).s2 = c.s2 + (samples.map fun v => v.natAbs * v.natAbs).sum
      ∧ (samples.foldl (addSample h) c).sat = (c.sat || samples.any fun v => v.natAbs == 32767) := by
  induction samples generalizing c with
  | nil => simp
  | cons v rest ih =>
    obtain ⟨index, s1, s2, sat, -⟩ := addSample_sums h v c
    obtain ⟨ihIndex, ihS1, ihS2, ihSat⟩ := ih (addSample h c v)
    simp only [List.foldl_cons, List.length_cons, List.sum_cons, List.map_cons, List.any_cons, ihIndex, ihS1, ihS2, ihSat, index,
      s1, s2, sat]
    refine ⟨by omega, by omega, by omega, Bool.or_assoc _ _ _⟩

/-- R9: the crossing record of an accumulator is in order: no crossing before the first sample, at most one for each sample after
the first, and the recorded indices in their order, far enough apart for the count. -/
structure CrossingsInOrder (c : Accumulator) : Prop where
  start : c.index = 0 → c.crossing = .unset
  count_le : c.count ≤ c.index - 1
  first_none : c.count = 0 ↔ c.first = none
  last_none : c.first = none ↔ c.last = none
  span : ∀ first last, c.first = some first → c.last = some last →
    first ≤ last ∧ last < c.index ∧ c.count - 1 ≤ last - first

/-- An empty accumulator has no crossing. -/
theorem crossingsInOrder_empty : CrossingsInOrder {} where
  start _ := rfl
  count_le := Nat.zero_le _
  first_none := ⟨fun _ => rfl, fun _ => rfl⟩
  last_none := ⟨fun _ => rfl, fun _ => rfl⟩
  span _ _ h := by cases h

/-- R9: a sample keeps the crossing record in order. -/
theorem addSample_crossings (h v : Int) (c : Accumulator) (hc : CrossingsInOrder c) : CrossingsInOrder (addSample h c v) := by
  obtain ⟨start, count_le, first_none, last_none, span⟩ := hc
  by_cases crosses : crossesBand h v c.crossing
  · have seen : c.index ≠ 0 := by
      intro zero
      have unset := start zero
      simp [crossesBand, unset] at crosses
    rw [addSample_of_crosses h v c crosses]
    refine ⟨fun zero => by simp at zero, by dsimp only; omega, by simp, by simp, ?_⟩
    intro first last hf hl
    obtain rfl : c.index = last := Option.some.inj hl
    obtain rfl : c.first.getD c.index = first := Option.some.inj hf
    cases e : c.first with
    | none =>
      have := first_none.2 e
      simp
      omega
    | some f =>
      obtain ⟨l, el⟩ := Option.ne_none_iff_exists'.1 fun n => by simp [e] at last_none; exact last_none n
      have := span f l e el
      simp
      omega
  · rw [addSample_of_not h v c crosses]
    refine ⟨fun zero => by simp at zero, by dsimp only; omega, first_none, last_none, ?_⟩
    intro first last hf hl
    have := span first last hf hl
    dsimp only
    omega

/-- R9: a list of samples keeps the crossing record in order. -/
theorem foldl_addSample_crossings (h : Int) (samples : List Int) (c : Accumulator) (hc : CrossingsInOrder c) :
    CrossingsInOrder (samples.foldl (addSample h) c) := by
  induction samples generalizing c with
  | nil => exact hc
  | cons v rest ih => exact ih _ (addSample_crossings h v c hc)

/-! ## Bounds of the sums -/

/-- R8: the sum of samples of at most 32767 is at most 32767 for each. -/
theorem natAbs_sum_le (samples : List Int) (h : ∀ v ∈ samples, v.natAbs ≤ 32767) :
    samples.sum.natAbs ≤ samples.length * 32767 := by
  induction samples with
  | nil => simp
  | cons v rest ih =>
    have head := h v (List.mem_cons_self ..)
    have tail := ih fun w hw => h w (List.mem_cons_of_mem _ hw)
    simp only [List.sum_cons, List.length_cons]
    omega

/-- R8: the sum of the squares of samples of at most 32767 is at most 32767² for each. -/
theorem sum_squares_le (samples : List Int) (h : ∀ v ∈ samples, v.natAbs ≤ 32767) :
    (samples.map fun v => v.natAbs * v.natAbs).sum ≤ samples.length * (32767 * 32767) := by
  induction samples with
  | nil => simp
  | cons v rest ih =>
    have head : v.natAbs * v.natAbs ≤ 32767 * 32767 := Nat.mul_le_mul (h v (List.mem_cons_self ..)) (h v (List.mem_cons_self ..))
    have tail := ih fun w hw => h w (List.mem_cons_of_mem _ hw)
    simp only [List.map_cons, List.sum_cons, List.length_cons]
    omega

/-- Settles O18: the sums by induction over the list, the crossing record by the invariant `CrossingsInOrder`, and one sample by
whether it crosses the band. -/
theorem samplesMakeSumsAndCrossings : Obligations.SamplesMakeSumsAndCrossings := by
  refine ⟨fun h samples _ range => ?_, fun h v c _ => ?_⟩
  · obtain ⟨index, s1, s2, sat⟩ := foldl_addSample_sums h samples {}
    have order := foldl_addSample_crossings h samples {} crossingsInOrder_empty
    simp only [Nat.zero_add, Int.zero_add, Bool.false_or] at index s1 s2 sat
    obtain ⟨-, count_le, first_none, last_none, span⟩ := order
    rw [index] at count_le span
    exact ⟨index, s1, s2, s1 ▸ natAbs_sum_le samples range, s2 ▸ sum_squares_le samples range, by simp [sat], first_none, last_none,
      count_le, span⟩
  · obtain ⟨index, s1, s2, sat, cells, currentSum, crossing⟩ := addSample_sums h v c
    refine ⟨fun both => ?_, fun one above => ?_, fun one below => ?_, fun inside inside' => ?_, fun crosses => ?_,
      fun calm => ?_, index, s1, s2, by simp [sat], cells, currentSum⟩
    · rw [crossing, crossingAfter, if_pos both]
    · rw [crossing, crossingAfter, if_neg one, if_pos above]
    · have notAbove : ¬ h ≤ v := fun above => one ⟨above, below⟩
      rw [crossing, crossingAfter, if_neg one, if_neg notAbove, if_pos below]
    · have notAbove : ¬ h ≤ v := by omega
      have notBelow : ¬ v ≤ -h := by omega
      rw [crossing, crossingAfter, if_neg fun both => notAbove both.1, if_neg notAbove, if_neg notBelow]
    · rw [addSample_of_crosses h v c crosses]
      refine ⟨rfl, rfl, fun none => by simp [none], fun some => ?_⟩
      obtain ⟨f, e⟩ := Option.ne_none_iff_exists'.1 some
      simp [e]
    · rw [addSample_of_not h v c calm]
      exact ⟨rfl, rfl, rfl⟩

end Sys2Proof.Machine

namespace Sys2Proof.Machine

/-! SUPPORT. The arithmetic of a window's result (01): the square root bit by bit, and division that truncates toward zero. -/

/-! ## The square root (R14) -/

/-- A root that is known but for its last bits comes out with the bits found. -/
theorem isqrtBits_spec (n k r : Nat) (low : r * r ≤ n) (high : n < (r + 2 ^ k) * (r + 2 ^ k)) :
    isqrtBits n k r * isqrtBits n k r ≤ n ∧ n < (isqrtBits n k r + 1) * (isqrtBits n k r + 1) := by
  induction k generalizing r with
  | zero => exact ⟨low, high⟩
  | succ k ih =>
    unfold isqrtBits
    split
    · rename_i fits
      refine ih (r + 2 ^ k) fits ?_
      rwa [Nat.add_assoc, ← Nat.two_mul, ← Nat.pow_succ']
    · rename_i exceeds
      exact ih r low (Nat.lt_of_not_le exceeds)

/-- R14: the square root is the largest number whose square does not exceed the radicand. -/
theorem isqrt_spec (n : Nat) : isqrt n * isqrt n ≤ n ∧ n < (isqrt n + 1) * (isqrt n + 1) := by
  refine isqrtBits_spec n (n.log2 / 2 + 1) 0 (Nat.zero_le n) ?_
  calc n < 2 ^ (n.log2 + 1) := Nat.lt_log2_self
    _ ≤ 2 ^ ((n.log2 / 2 + 1) + (n.log2 / 2 + 1)) := Nat.pow_le_pow_right (by omega) (by omega)
    _ = (0 + 2 ^ (n.log2 / 2 + 1)) * (0 + 2 ^ (n.log2 / 2 + 1)) := by rw [Nat.zero_add, Nat.pow_add]

/-- The square root of a number below a square lies below its root. -/
theorem isqrt_le (n b : Nat) (h : n ≤ b * b) : isqrt n ≤ b :=
  Nat.mul_self_le_mul_self_iff.1 ((isqrt_spec n).1.trans h)

/-! ## The mean (R13) -/

/-- A quotient of a sum that is not negative, truncated, is its floor. -/
theorem tdiv_of_nonneg (x n : Int) (hx : 0 ≤ x) (hn : 0 < n) :
    0 ≤ x.tdiv n ∧ n * x.tdiv n ≤ x ∧ x < n * (x.tdiv n + 1) := by
  rw [Int.tdiv_eq_ediv_of_nonneg hx]
  refine ⟨Int.ediv_nonneg hx hn.le, Int.mul_ediv_self_le hn.ne', ?_⟩
  rw [Int.mul_add, Int.mul_one]
  exact Int.lt_mul_ediv_self_add hn

/-- A quotient of a sum that is not positive, truncated, is its ceiling. -/
theorem tdiv_of_nonpos (x n : Int) (hx : x ≤ 0) (hn : 0 < n) :
    x.tdiv n ≤ 0 ∧ x ≤ n * x.tdiv n ∧ n * (x.tdiv n - 1) < x := by
  obtain ⟨sign, low, high⟩ := tdiv_of_nonneg (-x) n (Int.neg_nonneg.2 hx) hn
  rw [Int.neg_tdiv] at sign low high
  refine ⟨by omega, by linarith, by linarith⟩

/-- R13: a truncated quotient lies no farther from zero than the exact one. -/
theorem tdiv_natAbs_mul_le (x n : Int) (hn : 0 < n) : (n * x.tdiv n) * (n * x.tdiv n) ≤ x * x := by
  rcases le_total 0 x with hx | hx
  · obtain ⟨sign, low, -⟩ := tdiv_of_nonneg x n hx hn
    exact mul_self_le_mul_self (Int.mul_nonneg hn.le sign) low
  · obtain ⟨sign, low, -⟩ := tdiv_of_nonpos x n hx hn
    nlinarith [mul_nonpos_of_nonneg_of_nonpos hn.le sign]

/-- R13: a truncated quotient lies in the range of the exact one. -/
theorem tdiv_range (x n b : Int) (hn : 0 < n) (low : -(n * b) ≤ x) (high : x ≤ n * b) : -b ≤ x.tdiv n ∧ x.tdiv n ≤ b := by
  rcases le_total 0 x with hx | hx
  · obtain ⟨sign, floor, -⟩ := tdiv_of_nonneg x n hx hn
    have : x.tdiv n ≤ b := le_of_mul_le_mul_left (floor.trans high) hn
    omega
  · obtain ⟨sign, ceiling, -⟩ := tdiv_of_nonpos x n hx hn
    have : -b ≤ x.tdiv n := le_of_mul_le_mul_left (a := n) (by linarith) hn
    omega

/-! ## The result of a window (R13 to R16) -/

/-- R13: the mean of a window. -/
theorem windowResult_mean (length : Nat) (c : Accumulator) (hl : 0 < length) (h1 : c.s1.natAbs ≤ 16 * length * 32767) :
    -32767 ≤ (windowResult length c).m ∧ (windowResult length c).m ≤ 32767 :=
  tdiv_range c.s1 _ 32767 (by omega) (by push_cast; omega) (by push_cast; omega)

/-- R13: the mean square of a window of samples of at most 32767. -/
theorem meanSquare_le (length : Nat) (c : Accumulator) (h2 : c.s2 ≤ 16 * length * (32767 * 32767)) :
    c.s2 / (16 * length) ≤ 32767 * 32767 := Nat.div_le_of_le_mul h2

/-- R14: the AC power term is the mean square less the square of the mean, and 0 where that is negative. -/
theorem acPower_eq (q : Nat) (m : Int) : (acPower q m : Int) = max 0 ((q : Int) - m * m) := by
  have square : ((m.natAbs * m.natAbs : Nat) : Int) = m * m := Int.natAbs_mul_self
  unfold acPower
  omega

/-- R14: the AC voltage of a window lies in its range. -/
theorem windowResult_vac_le (length : Nat) (c : Accumulator) (h2 : c.s2 ≤ 16 * length * (32767 * 32767)) :
    (windowResult length c).vac ≤ 32767 :=
  isqrt_le _ _ ((Nat.sub_le _ _).trans (meanSquare_le length c h2))

/-- R14: a window of constant samples has no AC voltage. -/
theorem windowResult_of_constant (length : Nat) (v : Int) (c : Accumulator) (hl : 0 < length) (h1 : c.s1 = 16 * length * v)
    (h2 : c.s2 = 16 * length * (v.natAbs * v.natAbs)) : (windowResult length c).m = v ∧ (windowResult length c).vac = 0 := by
  have mean : (windowResult length c).m = v := by
    change c.s1.tdiv (16 * length : Nat) = v
    rw [h1]
    exact_mod_cast Int.mul_tdiv_cancel_left v (by omega : ((16 * length : Nat) : Int) ≠ 0)
  refine ⟨mean, ?_⟩
  change isqrt (acPower (c.s2 / (16 * length)) (windowResult length c).m) = 0
  rw [mean, h2, Nat.mul_div_cancel_left _ (by omega), acPower, Nat.sub_self]
  rfl

/-- R15: a window with fewer than three crossings has no frequency. -/
theorem frequency_of_few (c : Accumulator) (h : c.count ≤ 2) : frequency c = 0 := by
  rw [frequency, if_neg (by omega)]

/-- R15: the frequency of a window with three crossings or more, with its range. -/
theorem frequency_of_crossings (c : Accumulator) (first last : Nat) (hf : c.first = some first) (hl : c.last = some last)
    (span : c.count - 1 ≤ last - first) (width : last - first < 4000) (h : 3 ≤ c.count) :
    frequency c = (c.count - 1) * 200000 / (last - first) ∧ 2 ≤ last - first ∧ 100 ≤ frequency c ∧ frequency c ≤ 200000 := by
  have value : frequency c = (c.count - 1) * 200000 / (last - first) := by
    rw [frequency, if_pos h, hf, hl]
    rfl
  refine ⟨value, by omega, ?_, ?_⟩
  · rw [value, Nat.le_div_iff_mul_le (by omega)]
    omega
  · rw [value]
    exact Nat.div_le_of_le_mul (Nat.mul_le_mul_right _ span)

/-- Settles O17: the mean by the two signs of the sum, the voltage by the square root's own property, the frequency by the span of
the crossing record. -/
theorem windowResultFromTheAccumulator : Obligations.WindowResultFromTheAccumulator := by
  refine ⟨fun length c hl h1 h2 => ?_, fun length c hl => ⟨rfl, fun h => ?_⟩, ⟨fun length c hl h2 => ?_, ?_, by decide, by decide⟩,
    fun length c hl short => ⟨frequency_of_few c, fun first last hf hl' span order bound h => ?_⟩⟩
  · have hn : (0 : Int) < 16 * length := by omega
    obtain ⟨low, high⟩ := windowResult_mean length c hl h1
    have mean : (windowResult length c).m = c.s1.tdiv (16 * length) := by
      change c.s1.tdiv (16 * length : Nat) = _
      push_cast
      rfl
    refine ⟨mean, low, high, by omega, meanSquare_le length c h2, fun hs => ?_, fun hs => ?_, ?_⟩
    · exact mean ▸ tdiv_of_nonneg c.s1 _ hs hn
    · exact mean ▸ tdiv_of_nonpos c.s1 _ hs hn
    · exact mean ▸ tdiv_natAbs_mul_le c.s1 _ hn
  · exact Nat.div_le_of_le_mul h
  · have power := acPower_eq (c.s2 / (16 * length)) (windowResult length c).m
    obtain ⟨root, next⟩ := isqrt_spec (acPower (c.s2 / (16 * length)) (windowResult length c).m)
    have range := windowResult_vac_le length c h2
    rw [Int.natCast_div] at power
    refine ⟨?_, ?_, range, by omega⟩
    · exact power ▸ (by exact_mod_cast root)
    · exact power ▸ (by exact_mod_cast next)
  · exact windowResult_of_constant
  · exact frequency_of_crossings c first last hf hl' span (by omega) h

end Sys2Proof.Machine

namespace Sys2Proof.Machine

/-! SUPPORT. What the digest FIFO, a report slot and the Telemetry Forward Queue do with an item (01, 10, 12). -/

/-- R17: an entry joins a FIFO with room. -/
theorem appendDigest_of_room (e : DigestEntry) (l : LineMonitor) (h : l.digests.length < 64) :
    appendDigest e l = { l with digests := l.digests ++ [e] } := if_pos h

/-- R18: at a full FIFO the oldest entry leaves, and OVERFLOW is set. -/
theorem appendDigest_of_full (e : DigestEntry) (l : LineMonitor) (h : 64 ≤ l.digests.length) :
    appendDigest e l = { l with digests := l.digests.drop 1 ++ [e], overflow := true } := if_neg (Nat.not_lt.2 h)

/-- R201: a report takes its slot. -/
theorem placeReport_slot (r : Report) (a : Act) :
    (placeReport r a).s.ru.slots[slotOf r] = Slot.place r a.s.ru.slots[slotOf r] := updAt_same _ _ _

/-- R201: a report leaves the other slots. -/
theorem placeReport_slot_other (r : Report) (a : Act) (i : Fin 44) (h : i ≠ slotOf r) :
    (placeReport r a).s.ru.slots[i] = a.s.ru.slots[i] := updAt_other _ _ _ _ h.symm

/-- R184: a STATUS is offered where the role's forwarding is ALL, or CHANGES and the payload differs from the last one. -/
theorem wantsForward_iff (d : DirectoryRecord) (r : RoleRecord) (payload : List Byte) :
    wantsForward d r payload = true ↔
      d.forwarding = .named .all ∨ d.forwarding = .named .changes ∧ r.lastForwarded ≠ some payload := by
  unfold wantsForward
  cases e : d.forwarding with
  | named f => cases f <;> simp [Coded.value]
  | unnamed b => simp [Coded.value]

/-- R185: an item joins a Telemetry Forward Queue with room. -/
theorem offerTelemetry_of_room (item : TelemetryItem) (a : Act) (h : a.s.ru.telemetry.length < 16) :
    offerTelemetry item a = (a.modRu fun u => { u with telemetry := u.telemetry ++ [item] }, true) := if_pos h

/-- R185: at a full Telemetry Forward Queue the item is discarded, and DROPPED is set. -/
theorem offerTelemetry_of_full (item : TelemetryItem) (a : Act) (h : 16 ≤ a.s.ru.telemetry.length) :
    offerTelemetry item a = (a.modRu fun u => { u with dropped := true }, false) := if_neg (Nat.not_lt.2 h)

/-- Settles O21: the FIFO and the queue by whether there is room, the slots by whether they are the report's own. -/
theorem queuesAndSlotsTakeTheirItems : Obligations.QueuesAndSlotsTakeTheirItems := by
  refine ⟨fun e l => ⟨appendDigest_of_room e l, fun oldest rest h full => ?_⟩,
    fun r a i => ⟨placeReport_slot r a, placeReport_slot_other r a i, rfl⟩,
    fun d role payload a => ⟨fun unwanted => ?_, fun wanted room => ?_, fun wanted full => ?_⟩⟩
  · have appended := appendDigest_of_full e l full.ge
    rw [appended]
    simp [h] at full ⊢
    exact full
  · rw [forward, if_neg (mt (wantsForward_iff d _ payload).1 unwanted)]
  · rw [forward, if_pos ((wantsForward_iff d _ payload).2 wanted), offerTelemetry_of_room _ a room]
    exact ⟨rfl, updAt_same _ _ _⟩
  · rw [forward, if_pos ((wantsForward_iff d _ payload).2 wanted), offerTelemetry_of_full _ a full]
    rfl

end Sys2Proof.Machine

namespace Sys2Proof.Machine

/-! SUPPORT. The state right after a power-on reset. -/

/-- R93: the reset reads the raw level of each line, and starts its filter. -/
theorem afterReset_input (levels : LineLevels) (s : State) (line : Fin 12) :
    (afterReset levels s).inputs[line] = { raw := levelOf levels line } := by
  simp [afterReset]

theorem afterReset_hold (levels : LineLevels) (s : State) (role : Role) : holdOf (afterReset levels s) role = none := by
  cases role <;> rfl

theorem afterReset_role (levels : LineLevels) (s : State) (role : Role) : roleOf (afterReset levels s) role = {} := by
  cases role <;> rfl

theorem afterReset_port (levels : LineLevels) (s : State) (port : Fin 8) : (afterReset levels s).ports[port] = {} := by
  simp [afterReset, State.reset]

theorem afterReset_slot (levels : LineLevels) (s : State) (i : Fin 44) : (afterReset levels s).ru.slots[i] = {} := by
  simp [afterReset, State.reset]

/-- Settles O4: the reset state is the default of each record, but for the raw levels and the model's own fields that stand. -/
theorem powerOnResetGivesEveryBlock : Obligations.PowerOnResetGivesEveryBlock := by
  intro levels s
  refine ⟨afterReset levels s, rfl, rfl, rfl, ?_, ?_, rfl, afterReset_input levels s, afterReset_hold levels s, rfl, rfl, rfl, rfl,
    rfl, rfl, rfl, rfl, rfl, rfl, afterReset_port levels s, afterReset_role levels s, afterReset_slot levels s, rfl, rfl, rfl, rfl,
    rfl, rfl, rfl, rfl, rfl, rfl⟩
  · intro p
    cases p <;> rfl
  · intro d
    cases d <;> rfl

end Sys2Proof.Machine

namespace Sys2Proof.Machine

/-! SUPPORT. The fast dead path, the contact losses, a new confirmed state and its protective demand (01, 02). -/

/-! ## A new confirmed state (R31) -/

/-- The act once the confirmed state is new, its LINE report is placed and its readers are told. -/
def lineChanged (new : LineState) (cause : LineCause) (a : Act) : Act :=
  { s := ({ a.s with lm := { a.s.lm with confirmed := new, confirmedSince := estimate a.s } }).reported
      (.line new a.s.lm.confirmed cause a.s.lm.windowSequence (estimate a.s))
    notes := a.notes ++ [.tripRelease, .coLine, .iceEvaluate .other, .iceAllocate, .gateReview] }

/-- R31: a state that is confirmed already is no change. -/
theorem setConfirmed_of_same (new : LineState) (cause : LineCause) (a : Act) (h : a.s.lm.confirmed = new) :
    setConfirmed new cause a = a := if_pos h

/-- R36: the condition of a new state is that of the switchgear and the tables, which the change leaves as they are. -/
theorem tripCause_lineChanged (new : LineState) (cause : LineCause) (a : Act) :
    tripCause (lineChanged new cause a).s new = tripCause a.s new := rfl

/-- R31, R36: a new state that meets no condition. -/
theorem setConfirmed_of_quiet (new : LineState) (cause : LineCause) (a : Act) (h : a.s.lm.confirmed ≠ new)
    (quiet : tripCause a.s new = none) : setConfirmed new cause a = lineChanged new cause a := by
  rw [← tripCause_lineChanged new cause] at quiet
  rw [setConfirmed, if_neg h]
  change (match tripCause (lineChanged new cause a).s new with
    | some c => raiseDemand c (lineChanged new cause a)
    | none => lineChanged new cause a) = _
  rw [quiet]

/-- R31, R36: a new state that meets a condition raises its demand. -/
theorem setConfirmed_of_demand (new : LineState) (cause : LineCause) (a : Act) (c : TripCause) (h : a.s.lm.confirmed ≠ new)
    (demand : tripCause a.s new = some c) : setConfirmed new cause a = raiseDemand c (lineChanged new cause a) := by
  rw [← tripCause_lineChanged new cause] at demand
  rw [setConfirmed, if_neg h]
  change (match tripCause (lineChanged new cause a).s new with
    | some c => raiseDemand c (lineChanged new cause a)
    | none => lineChanged new cause a) = _
  rw [demand]

/-- The Line Monitor's state is none of the roof's. -/
theorem blind_lm : BlindToRoof State.lm where
  pans _ _ := rfl
  sg _ _ := rfl
  holds _ _ := rfl
  co _ _ := rfl
  ice _ _ _ := rfl
  slots _ _ := rfl
  sent _ _ := rfl
  choices _ _ := rfl
  undelivered _ _ := rfl

/-- R31: what a new confirmed state makes of the Line Monitor, whatever demand it raises. -/
theorem setConfirmed_lm (new : LineState) (cause : LineCause) (a : Act) (h : a.s.lm.confirmed ≠ new) :
    (setConfirmed new cause a).s.lm = { a.s.lm with confirmed := new, confirmedSince := estimate a.s } := by
  cases e : tripCause a.s new with
  | none => rw [setConfirmed_of_quiet new cause a h e]; rfl
  | some c =>
    rw [setConfirmed_of_demand new cause a c h e]
    exact raiseDemand_read blind_lm c (lineChanged new cause a)

/-- R31: the state asked for is confirmed. -/
theorem setConfirmed_confirmed (new : LineState) (cause : LineCause) (a : Act) :
    (setConfirmed new cause a).s.lm.confirmed = new := by
  by_cases h : a.s.lm.confirmed = new
  · rwa [setConfirmed_of_same new cause a h]
  · rw [setConfirmed_lm new cause a h]

/-! ## The LINE report stands beside the demand's reports -/

/-- R183: delivering a command to the switchgear head touches no slot but that of the head's own report. -/
theorem deliver_slot (c : Command) (a : Act) (i : Fin 44) (h : i ≠ 5 + (roleIndex c.role).castLE (by decide)) :
    (deliver c a).1.s.ru.slots[i] = a.s.ru.slots[i] := by
  unfold deliver
  split
  · rfl
  · exact placeReport_slot_other _ _ i h

/-- R95, R98: an MB open command is handed to the switchgear head's port, for the gate admits it. -/
theorem present_mbOpen_slot (o : Origin) (a : Act) (i : Fin 44) (h : i ≠ 5) :
    (present (moveCommand .mb .opened o) a).1.s.ru.slots[i] = a.s.ru.slots[i] := by
  have delivered := deliver_slot (moveCommand .mb .opened o) a i h
  rw [present_of_admitted _ a rfl (judge_mbOpen a.s o)]
  split <;> rename_i e <;> rw [e] at delivered <;> exact delivered

theorem requestMbOpen_slot (o : Origin) (a : Act) (i : Fin 44) (h : i ≠ 5) :
    (requestMbOpen o a).s.ru.slots[i] = a.s.ru.slots[i] := by
  have presented := present_mbOpen_slot o a i h
  unfold requestMbOpen moveRequest
  split
  · split
    · rfl
    · rfl
    · split <;> rename_i e <;> rw [e] at presented <;> exact presented
  · rfl

/-- R37: a demand leaves the slot of the LINE report. -/
theorem raiseDemand_slot_line (c : TripCause) (a : Act) :
    (raiseDemand c a).s.ru.slots[(14 : Fin 44)] = a.s.ru.slots[(14 : Fin 44)] := by
  have placed : (placeReport (.protectiveTrip c a.s.lm.confirmed a.s.sg.mb.reported (!a.s.sg.mb.idle) a.s.lm.windowSequence)
      a).s.ru.slots[(14 : Fin 44)] = a.s.ru.slots[(14 : Fin 44)] := placeReport_slot_other _ a 14 (by simp [slotOf])
  unfold raiseDemand
  dsimp only
  rw [requestMbOpen_slot _ _ 14 (by decide)]
  split <;> exact placed

/-- R31: the LINE report of a new confirmed state stands in its slot. -/
theorem setConfirmed_report (new : LineState) (cause : LineCause) (a : Act) (h : a.s.lm.confirmed ≠ new) :
    (setConfirmed new cause a).s.ru.slots[(14 : Fin 44)].report =
      some (.line new a.s.lm.confirmed cause a.s.lm.windowSequence (estimate a.s)) := by
  have placed : (lineChanged new cause a).s.ru.slots[(14 : Fin 44)].report =
      some (.line new a.s.lm.confirmed cause a.s.lm.windowSequence (estimate a.s)) :=
    congrArg Slot.report (updAt_same a.s.ru.slots 14 _)
  cases e : tripCause a.s new with
  | none => rwa [setConfirmed_of_quiet new cause a h e]
  | some c => rwa [setConfirmed_of_demand new cause a c h e, raiseDemand_slot_line]

/-! ## The protective demand (R36, R37, R75) -/

/-- R36: MB is engaged. -/
theorem mbEngaged_iff (s : State) :
    mbEngaged s = true ↔ s.sg.mb.reported = .closed ∨ s.sg.mb.move.isSome ∧ s.sg.mb.target = some .closed := by
  cases e : s.sg.mb.move <;> simp [mbEngaged, Device.idle, e]

/-- The SS position that a code's SYSTEM record requires. -/
def wantedSelector (s : State) (c : Nat) : Option Pos :=
  (systemRecord s c).bind fun r => r.selector.value.map selectorPos

theorem wantedSelector_iff (s : State) (c : Nat) (p : Pos) : wantedSelector s c = some p ↔
    ∃ r sel, systemRecord s c = some r ∧ r.selector = .named sel ∧ p = selectorPos sel := by
  unfold wantedSelector
  cases e : systemRecord s c with
  | none => simp
  | some r => cases es : r.selector <;> simp [es, Coded.value, eq_comm]

/-- R36: a code meets the condition where MB is engaged and SS is not where the code's record requires it. -/
theorem tripCause_system (s : State) (c : Nat) : tripCause s (.system c) =
    if mbEngaged s && wantedSelector s c != some s.sg.ss.reported then some .wrongSelector else none := by
  have wanted : wantedSelector s c = (systemRecord s c).bind fun r =>
      match r.selector with
      | .named sel => some (selectorPos sel)
      | .unnamed _ => none := by
    unfold wantedSelector
    congr 1
    funext r
    cases r.selector <;> rfl
  rw [wanted]
  rfl

/-- R36: the condition of each new confirmed state. -/
theorem tripCause_over_iff (s : State) (new : LineState) : tripCause s new = some .over ↔ new = .over := by
  cases new with
  | system c => simp [tripCause_system]
  | _ => simp [tripCause]

theorem tripCause_dead_iff (s : State) (new : LineState) :
    tripCause s new = some .dead ↔ new = .dead ∧ mbEngaged s = true := by
  cases new with
  | system c => simp [tripCause_system]
  | _ => simp [tripCause]

theorem tripCause_noSense_iff (s : State) (new : LineState) :
    tripCause s new = some .noSense ↔ new = .noSense ∧ mbEngaged s = true := by
  cases new with
  | system c => simp [tripCause_system]
  | _ => simp [tripCause]

theorem tripCause_wrongSelector_iff (s : State) (new : LineState) :
    tripCause s new = some .wrongSelector ↔ ∃ c, new = .system c ∧ mbEngaged s = true
      ∧ ¬ ∃ r sel, systemRecord s c = some r ∧ r.selector = .named sel ∧ s.sg.ss.reported = selectorPos sel := by
  simp only [← wantedSelector_iff]
  cases new with
  | system c => simp [tripCause_system]
  | _ => simp [tripCause]

/-- R37, R75: what a demand does, before its MB open request. -/
theorem raiseDemand_eq (cause : TripCause) (a : Act) :
    raiseDemand cause a = (moveRequest .mb .opened .protection
      { a with s := { a.s.reported (.protectiveTrip cause a.s.lm.confirmed a.s.sg.mb.reported a.s.sg.mb.move.isSome
          a.s.lm.windowSequence) with sg := { a.s.sg with mbTrip := a.s.sg.mbTrip || cause == .over } } }).1 := by
  have moving : (!a.s.sg.mb.idle) = a.s.sg.mb.move.isSome := by cases e : a.s.sg.mb.move <;> simp [Device.idle, e]
  unfold raiseDemand requestMbOpen
  dsimp only
  rw [moving]
  congr 2
  split <;> rename_i h
  · subst h
    simp [assertTrip, Act.modSg, placeReport, Act.modRu, State.reported]
  · have other : (cause == .over) = false := by simpa using h
    rw [other, Bool.or_false]
    rfl

/-! ## Dead and live cells (R33 to R35) -/

/-- R33: a dead run may be one of arcs. -/
theorem arcEligible_iff (s : State) : arcEligible s = true ↔
    s.pans.a.state = .up ∧ s.pans.a.role = some .collect ∧ s.sg.isoA.reported = .closed
      ∨ s.pans.b.state = .up ∧ s.pans.b.role = some .collect ∧ s.sg.isoB.reported = .closed := by
  simp [arcEligible, pansInOrder, panOf, devOf, isoOf, Pans.get, Switchgear.get, PanRecord.collecting, and_assoc]

theorem deadCell_of_first (a : Act) (h : a.s.lm.deadRun = 0) :
    deadCell a = a.modLm fun l =>
      { l with deadRun := 1
               runStart := some { eligible := arcEligible a.s, position := estimate a.s, state := l.confirmed } } := if_pos h

theorem deadCell_of_short (a : Act) (h : 0 < a.s.lm.deadRun) (short : a.s.lm.deadRun + 1 < (settings a.s).deadConfirm) :
    deadCell a = a.modLm fun l => { l with deadRun := l.deadRun + 1 } := by
  rw [deadCell, if_neg (by omega), if_pos (by omega), if_neg (by omega)]
  rfl

theorem deadCell_of_confirm (a : Act) (h : 0 < a.s.lm.deadRun) (full : a.s.lm.deadRun + 1 = (settings a.s).deadConfirm) :
    deadCell a = setConfirmed .dead .fastDead
      (a.modLm fun l => { l with deadRun := (settings a.s).deadConfirm, candidate := none }) := by
  rw [deadCell, if_neg (by omega), if_pos (by omega), if_pos full, ← full]
  rfl

theorem deadCell_of_over (a : Act) (h : 0 < a.s.lm.deadRun) (past : (settings a.s).deadConfirm ≤ a.s.lm.deadRun) :
    deadCell a = a := by
  rw [deadCell, if_neg (by omega), if_neg (by omega)]

/-- R31: a new confirmed state leaves the dead run and the candidate. -/
theorem setConfirmed_run (new : LineState) (cause : LineCause) (a : Act) :
    (setConfirmed new cause a).s.lm.deadRun = a.s.lm.deadRun
      ∧ (setConfirmed new cause a).s.lm.candidate = a.s.lm.candidate := by
  by_cases h : a.s.lm.confirmed = new
  · rw [setConfirmed_of_same new cause a h]
    exact ⟨rfl, rfl⟩
  · rw [setConfirmed_lm new cause a h]
    exact ⟨rfl, rfl⟩

/-- R34: the end of a dead run that is no contact loss. -/
theorem liveCell_of_quiet (a : Act) (h : ∀ r, a.s.lm.runStart = some r → r.eligible = true →
      a.s.lm.deadRun = 0 ∨ (settings a.s).deadConfirm ≤ a.s.lm.deadRun) :
    liveCell a = a.modLm fun l => { l with deadRun := 0, runStart := none } := by
  unfold liveCell
  dsimp only
  split
  · rfl
  · rename_i r start
    rw [if_neg]
    rintro ⟨run, short, eligible⟩
    have := h r start eligible
    omega

/-- R34, R35: the end of a dead run that is a contact loss: its entry joins the Arc Ring, its report is made and Ice Control told. -/
theorem liveCell_of_loss (a : Act) (r : RunStart) (start : a.s.lm.runStart = some r) (run : 0 < a.s.lm.deadRun)
    (short : a.s.lm.deadRun < (settings a.s).deadConfirm) (eligible : r.eligible = true) :
    liveCell a = appendArc { position := r.position, length := a.s.lm.deadRun, state := r.state }
      (a.modLm fun l => { l with deadRun := 0, runStart := none }) := by
  unfold liveCell
  dsimp only
  rw [start]
  exact if_pos ⟨run, short, eligible⟩

/-- R34: a live cell ends the dead run, and its run-start record goes with it. -/
theorem liveCell_run (a : Act) : (liveCell a).s.lm.deadRun = 0 ∧ (liveCell a).s.lm.runStart = none := by
  unfold liveCell
  dsimp only
  split
  · exact ⟨rfl, rfl⟩
  · split <;> exact ⟨rfl, rfl⟩

/-- Settles O20: each clause by its own lemma. -/
theorem deadRunsContactLossesAndDemands : Obligations.DeadRunsContactLossesAndDemands := by
  refine ⟨arcEligible_iff, fun a => ⟨deadCell_of_first a, deadCell_of_short a, fun run full => ?_, deadCell_of_over a,
      (liveCell_run a).1, (liveCell_run a).2, fun r start run short eligible => ?_, liveCell_of_quiet a⟩,
    fun new cause a => ⟨setConfirmed_of_same new cause a, setConfirmed_of_quiet new cause a,
      fun c new' demand => setConfirmed_of_demand new cause a c new' demand⟩,
    fun a => ⟨fun same => ?_, fun changed => ⟨?_, ?_⟩⟩, fun s new => ?_, raiseDemand_eq⟩
  · have confirmed := deadCell_of_confirm a run full
    obtain ⟨deadRun, candidate⟩ := setConfirmed_run .dead .fastDead
      (a.modLm fun l => { l with deadRun := (settings a.s).deadConfirm, candidate := none })
    exact ⟨confirmed ▸ setConfirmed_confirmed .dead .fastDead _, confirmed ▸ candidate, confirmed ▸ deadRun, confirmed⟩
  · rw [liveCell_of_loss a r start run short eligible]
    rfl
  · exact setConfirmed_of_same .noSense .lineLost _ same
  · exact setConfirmed_lm .noSense .lineLost _ changed
  · exact setConfirmed_report .noSense .lineLost _ changed
  · dsimp only
    simp only [← mbEngaged_iff]
    exact ⟨tripCause_over_iff s new, tripCause_dead_iff s new, tripCause_noSense_iff s new, tripCause_wrongSelector_iff s new⟩

end Sys2Proof.Machine

namespace Sys2Proof.Machine

/-! SUPPORT. How a cell is taken, how it joins the window, and what the close of a window leaves (01). -/

/-! ## The peak of a cell (R6) -/

/-- The greatest of a list's numbers and a start value bounds them all, and is one of them. -/
theorem foldl_max_spec (l : List Nat) (b : Nat) :
    b ≤ l.foldl max b ∧ (∀ n ∈ l, n ≤ l.foldl max b) ∧ (l.foldl max b = b ∨ l.foldl max b ∈ l) := by
  induction l generalizing b with
  | nil => simp
  | cons n rest ih =>
    obtain ⟨start, bound, attained⟩ := ih (max b n)
    rw [List.foldl_cons]
    refine ⟨(Nat.le_max_left _ _).trans start, fun m hm => ?_, ?_⟩
    · rcases List.mem_cons.1 hm with rfl | hm
      · exact (Nat.le_max_right _ _).trans start
      · exact bound m hm
    · rcases attained with e | mem
      · rcases Nat.le_total b n with hb | hb
        · rw [e, Nat.max_eq_right hb]
          exact .inr (List.mem_cons_self ..)
        · rw [e, Nat.max_eq_left hb]
          exact .inl rfl
      · exact .inr (List.mem_cons_of_mem _ mem)

/-- R6: no sample exceeds the peak. -/
theorem le_peakOf (samples : List Int) (v : Int) (h : v ∈ samples) : v.natAbs ≤ peakOf samples :=
  (foldl_max_spec (samples.map Int.natAbs) 0).2.1 _ (List.mem_map_of_mem h)

/-- R6: the peak is the magnitude of a sample. -/
theorem peakOf_attained (samples : List Int) (h : samples ≠ []) : ∃ v ∈ samples, peakOf samples = v.natAbs := by
  rcases (foldl_max_spec (samples.map Int.natAbs) 0).2.2 with zero | mem
  · obtain ⟨v, hv⟩ := List.exists_mem_of_ne_nil samples h
    have peak : peakOf samples = 0 := zero
    have small := le_peakOf samples v hv
    exact ⟨v, hv, by omega⟩
  · obtain ⟨v, hv, e⟩ := List.mem_map.1 mem
    exact ⟨v, hv, e.symm⟩

/-! ## A cell on the LINE role's port (R1, R179) -/

/-- R175, R180: the part after a valid frame on the port of the PRESENT role LINE. -/
def afterLineFrame (s : State) (port : Fin 8) (d : DirectoryRecord) : State :=
  { s with
    ports := updAt s.ports port fun r => { r with badRun := 0 }
    roles := updAt s.roles (roleIndex .line) fun r => { r with silenceDeadline := some (s.now + d.silence) } }

/-- R1, R179: a CELL frame from the LINE role's port reaches the Line Monitor. -/
theorem cellFrame_of_line (s : State) (port : Fin 8) (n : Nat) (fault : Bool) (samples : List Int) (current : Nat)
    (d : DirectoryRecord) (locked : s.ports[port].link = .locked) (hd : directoryOfPort s port = some d)
    (role : d.role = .named .line) (here : rolePresent s .line = true) (width : samples.length = 16) :
    cellFrame port n fault samples current { s } = takeCell n fault samples current { s := afterLineFrame s port d } := by
  let framedPort : Act := (({ s } : Act).modPort port fun r => { r with badRun := 0 })
  have here' : rolePresent framedPort.s .line = true := here
  have valid : validFrame port { s } = { s := afterLineFrame s port d } := by
    change refreshSilence (directoryOfPort s port) framedPort = _
    rw [hd]
    simp only [refreshSilence, role, Coded.value, here', if_true]
    rfl
  have mapped : roleOfPort (afterLineFrame s port d) port = some .line := by
    have same : directoryOfPort (afterLineFrame s port d) port = some d := hd
    simp only [roleOfPort, same, role]
  have present : rolePresent (afterLineFrame s port d) .line = true := by
    have kept : (roleOf (afterLineFrame s port d) .line).presence = (roleOf s .line).presence := by
      change (updAt s.roles (roleIndex .line) _)[roleIndex .line].presence = _
      rw [updAt_same]
      rfl
    rwa [rolePresent, kept]
  rw [cellFrame, if_pos locked, if_pos width]
  dsimp only
  rw [valid, if_pos ⟨mapped, present⟩]

/-! ## The order of the cells (R2 to R4) -/

/-- R4: a cell with DIVIDER_FAULT is a gap, and joins no window. -/
theorem takeCell_of_fault (n : Nat) (samples : List Int) (current : Nat) (a : Act) :
    takeCell n true samples current a = (a.modLm lineGap).modLm fun l => { l with expected := some ((n + 1) % 256) } := rfl

/-- R3: a cell out of order is a gap, after which it is used. -/
theorem takeCell_of_gap (n e : Nat) (samples : List Int) (current : Nat) (a : Act) (he : a.s.lm.expected = some e) (h : e ≠ n) :
    takeCell n false samples current a =
      useCell samples current ((a.modLm lineGap).modLm fun l => { l with expected := some ((n + 1) % 256) }) := by
  have gap : (false || outOfOrder a.s.lm.expected n) = true := by simp [outOfOrder, he, h]
  unfold takeCell
  dsimp only
  rw [if_pos gap]
  rfl

/-- R2: a cell of the expected sequence, or the first, is used. -/
theorem takeCell_of_expected (n : Nat) (samples : List Int) (current : Nat) (a : Act)
    (h : a.s.lm.expected = some n ∨ a.s.lm.expected = none) :
    takeCell n false samples current a =
      useCell samples current (a.modLm fun l => { l with expected := some ((n + 1) % 256) }) := by
  have order : (false || outOfOrder a.s.lm.expected n) = false := by rcases h with h | h <;> simp [outOfOrder, h]
  unfold takeCell
  dsimp only
  rw [order]
  rfl

/-! ## The stages of a usable cell (R6) -/

/-- R6: a cell whose first stage has told no block goes on at once. -/
theorem useCell_of_quiet (samples : List Int) (current : Nat) (a b : Act)
    (first : fastDeadStage (peakOf (samples.map conditionSample)) a = b) (h : b.notes = []) :
    useCell samples current a = joinWindow (samples.map conditionSample) current b := by
  unfold useCell
  dsimp only
  rw [first, h]
  rfl

/-- R6, R31: a cell whose first stage has told blocks waits behind them. -/
theorem useCell_of_told (samples : List Int) (current : Nat) (a b : Act)
    (first : fastDeadStage (peakOf (samples.map conditionSample)) a = b) (h : b.notes ≠ []) :
    useCell samples current a = { b with notes := b.notes ++ [.lineJoin (samples.map conditionSample) current] } := by
  unfold useCell
  dsimp only
  rw [first, if_neg (by simpa using h)]
  rfl

/-- R7: a cell adds itself to the cells of the accumulator. -/
theorem addCell_cells (h : Int) (samples : List Int) (current : Nat) (c : Accumulator) :
    (addCell h samples current c).cells = c.cells + 1 := congrArg (· + 1) (foldl_addSample_cells h samples c).1

/-- The act after a cell has joined the window. -/
def joined (volts : List Int) (current : Nat) (a : Act) : Act :=
  a.modLm fun l => { l with acc := addCell (settings a.s).hysteresis volts (min 4095 current) l.acc }

/-- R12: a cell that does not complete the window joins it. -/
theorem joinWindow_of_room (volts : List Int) (current : Nat) (a : Act)
    (h : a.s.lm.acc.cells + 1 < (settings a.s).windowLength) : joinWindow volts current a = joined volts current a := by
  refine if_neg (Nat.not_le.2 ?_)
  rwa [Act.modLm_lm, addCell_cells]

/-- R12: the cell that completes the window closes it. -/
theorem joinWindow_of_full (volts : List Int) (current : Nat) (a : Act)
    (h : (settings a.s).windowLength ≤ a.s.lm.acc.cells + 1) :
    joinWindow volts current a = closeWindow (joined volts current a) := by
  refine if_pos ?_
  rwa [Act.modLm_lm, addCell_cells]

/-- R2, R7, R34: a live cell of the expected sequence, while no dead run is there, joins the window in progress. -/
theorem takeCell_of_live (n : Nat) (samples : List Int) (current : Nat) (a : Act) (quiet : a.notes = [])
    (order : a.s.lm.expected = some n ∨ a.s.lm.expected = none)
    (live : (settings a.s).deadThreshold ≤ peakOf (samples.map conditionSample)) (run : a.s.lm.deadRun = 0)
    (room : a.s.lm.acc.cells + 1 < (settings a.s).windowLength) :
    takeCell n false samples current a = a.modLm fun l =>
      { l with
        expected := some ((n + 1) % 256), runStart := none
        acc := addCell (settings a.s).hysteresis (samples.map conditionSample) (min 4095 current) l.acc } := by
  let next := a.modLm fun l => { l with expected := some ((n + 1) % 256) }
  let ended := next.modLm fun l => { l with runStart := none }
  have first : fastDeadStage (peakOf (samples.map conditionSample)) next = ended := by
    have livened := liveCell_of_quiet next fun _ _ _ => .inl run
    have same := congrArg (fun k => next.modLm fun l => { l with deadRun := k, runStart := none }) run
    exact ((if_neg (Nat.not_lt.2 live)).trans livened).trans same.symm
  rw [takeCell_of_expected n samples current a order, useCell_of_quiet _ _ _ ended first quiet,
    joinWindow_of_room _ _ ended room]
  rfl

/-! ## The order of the notes (R31) -/

/-- Every note may be taken where it is itself the one picked. -/
theorem inOrder_self (n : Note) : inOrder n n = true := by cases n <;> rfl

/-- A note that goes before one that is no cell's join is none either. -/
theorem noJoin_of_inOrder (m n : Note) (h : inOrder m n = true) (hn : n.isJoin = false) : m.isJoin = false := by
  simp only [inOrder, hn, Bool.false_or, Bool.and_eq_true, Bool.not_eq_true'] at h
  exact h.1.1

/-- Of notes whose first is no cell's join, one that is none is taken, whatever the choices: a join that is picked lets the first
go before it. -/
theorem pickOrder_of_noJoin (first : Note) (rest : List Note) (choices : List Nat) (h : first.isJoin = false) :
    ∃ next others cs, pickOrder inOrder 1 choices (first :: rest) = (next :: others, cs) ∧ next.isJoin = false
      ∧ (next :: others).Perm (first :: rest) := by
  cases choices with
  | nil => exact ⟨first, rest, [], rfl, h, .refl _⟩
  | cons c cs =>
    let notes := first :: rest
    let chosen := notes[c % (rest.length + 1)]?.getD first
    let place := notes.findIdx fun x => inOrder x chosen
    have chosen_mem : chosen ∈ notes := by
      have index : c % (rest.length + 1) < notes.length := Nat.mod_lt _ (Nat.zero_lt_succ _)
      simp only [chosen, List.getElem?_eq_getElem index, Option.getD_some]
      exact List.getElem_mem _
    have found : place < notes.length := List.findIdx_lt_length_of_exists ⟨chosen, chosen_mem, inOrder_self chosen⟩
    refine ⟨notes[place], notes.eraseIdx place, cs, ?_, ?_, List.getElem_cons_eraseIdx_perm found⟩
    · change (notes[place]?.getD first :: notes.eraseIdx place, cs) = _
      rw [List.getElem?_eq_getElem found]
      rfl
    · cases join : chosen.isJoin with
      | true =>
        have zero : place = 0 := by simp [place, notes, List.findIdx_cons, inOrder, join]
        simpa [zero, notes] using h
      | false => exact noJoin_of_inOrder _ chosen (List.findIdx_getElem (w := found)) join

/-- A note is a cell's join. -/
theorem isJoin_iff (n : Note) : n.isJoin = true ↔ ∃ volts current, n = .lineJoin volts current := by
  cases n <;> simp [Note.isJoin]

/-- R31: while the oldest note is no cell's join, none is taken. -/
theorem takeNext_of_noJoin (a : Act) (first : Note) (rest : List Note) (ha : a.notes = first :: rest)
    (h : first.isJoin = false) : ∃ next others choices, next.isJoin = false ∧ (next :: others).Perm a.notes
      ∧ takeNext a = takeNote next { s := { a.s with choices }, notes := others } := by
  obtain ⟨next, others, cs, picked, join, perm⟩ := pickOrder_of_noJoin first rest a.s.choices h
  refine ⟨next, others, cs, join, ha ▸ perm, ?_⟩
  unfold takeNext
  rw [ha, picked]
  rfl

/-! ## The close of a window (R12) -/

/-- R29, R31: a persistence step changes the confirmed state, its age and the candidate alone. -/
theorem persist_lm (w : WindowClass) (a : Act) : (persist w a).s.lm =
    { a.s.lm with
      confirmed := (persist w a).s.lm.confirmed, confirmedSince := (persist w a).s.lm.confirmedSince
      candidate := (persist w a).s.lm.candidate } := by
  have confirmed (b : Act) : (setConfirmed (classState w) .window b).s.lm =
      { b.s.lm with
        confirmed := (setConfirmed (classState w) .window b).s.lm.confirmed
        confirmedSince := (setConfirmed (classState w) .window b).s.lm.confirmedSince } := by
    by_cases h : b.s.lm.confirmed = classState w
    · rw [setConfirmed_of_same _ _ b h]
    · rw [setConfirmed_lm _ _ b h]
  unfold persist
  split
  · rfl
  · split
    · rw [confirmed]
      rfl
    · rfl

/-- R12: a persistence step leaves the digest FIFO. -/
theorem persist_digests (w : WindowClass) (a : Act) : (persist w a).s.lm.digests = a.s.lm.digests := by
  rw [persist_lm]

/-- R12: a persistence step leaves the digest's OVERFLOW mark. -/
theorem persist_overflow (w : WindowClass) (a : Act) : (persist w a).s.lm.overflow = a.s.lm.overflow := by
  rw [persist_lm]

/-- R12: the close of a window, after its persistence step. -/
theorem closeWindow_eq (a : Act) (w : WindowResult) (hw : w = windowResult (settings a.s).windowLength a.s.lm.acc)
    (sequence : Nat) (hs : sequence = (a.s.lm.windowSequence + 1) % 65536) (step : Act)
    (hp : step = persist (classify a.s w) (a.modLm fun l => { l with windowSequence := sequence, last := some w })) :
    closeWindow a =
      { s := { step.s with
          lm := { appendDigest { sequence, m := w.m, vac := w.vac, f := w.f, cls := classify a.s w, sat := w.sat, iw := w.iw }
            step.s.lm with acc := {} } }
        notes := step.notes ++ [.iceAllocate] } := by
  subst hw hs hp
  rfl

/-- R17: an entry of the digest changes the FIFO and its OVERFLOW mark alone. -/
theorem appendDigest_aside (e : DigestEntry) (l : LineMonitor) :
    appendDigest e l = { l with digests := (appendDigest e l).digests, overflow := (appendDigest e l).overflow } := by
  unfold appendDigest
  split <;> rfl

/-- R12: what the close of a window makes of the Line Monitor. -/
theorem closeWindow_lm (a : Act) (w : WindowResult) (hw : w = windowResult (settings a.s).windowLength a.s.lm.acc)
    (sequence : Nat) (hs : sequence = (a.s.lm.windowSequence + 1) % 65536) (step : Act)
    (hp : step = persist (classify a.s w) (a.modLm fun l => { l with windowSequence := sequence, last := some w })) :
    let entry : DigestEntry := { sequence, m := w.m, vac := w.vac, f := w.f, cls := classify a.s w, sat := w.sat, iw := w.iw }
    (closeWindow a).s.lm =
      { a.s.lm with
        windowSequence := sequence, last := some w, acc := {}, confirmed := step.s.lm.confirmed
        confirmedSince := step.s.lm.confirmedSince, candidate := step.s.lm.candidate
        digests := (appendDigest entry step.s.lm).digests, overflow := (appendDigest entry step.s.lm).overflow } := by
  intro entry
  have lm := persist_lm (classify a.s w) (a.modLm fun l => { l with windowSequence := sequence, last := some w })
  rw [← hp] at lm
  rw [closeWindow_eq a w hw sequence hs step hp]
  dsimp only
  rw [appendDigest_aside]
  exact congrArg (fun k : LineMonitor =>
    { k with acc := {}, digests := (appendDigest entry step.s.lm).digests
             overflow := (appendDigest entry step.s.lm).overflow }) lm

/-- Settles O16: the frame's way to the Line Monitor, the order of the cells, the stages of a usable cell, the order in which the
notes are taken, and the close of the window. -/
theorem cellsJoinBreakOrCompleteTheWindow : Obligations.CellsJoinBreakOrCompleteTheWindow := by
  refine ⟨⟨fun v => rfl, fun samples => ⟨le_peakOf samples, peakOf_attained samples⟩⟩, ?_, ?_, ?_, ?_, ?_, ?_, ?_⟩
  · intro s port n samples current d powered sending locked hd role here width order live run room
    have taken := (cellFrame_of_line s port n false samples current d locked hd role here width).trans
      (takeCell_of_live n samples current { s := afterLineFrame s port d } rfl order live run room)
    change perform (cellFrame port n false samples current) s = _
    rw [perform_of_quiet _ s powered (by rw [taken]; rfl) (by rw [taken]; exact sending), taken]
    rfl
  · intro a n samples current
    exact ⟨takeCell_of_fault n samples current a, fun e he h => takeCell_of_gap n e samples current a he h⟩
  · intro s port n fault samples current d powered locked hd role here width
    change perform (cellFrame port n fault samples current) s = _
    rw [perform_of_powered _ s powered, cellFrame_of_line s port n fault samples current d locked hd role here width]
    rfl
  · intro a b n samples current order volts next dead live
    have first : fastDeadStage (peakOf (samples.map conditionSample))
        (a.modLm fun l => { l with expected := some ((n + 1) % 256) }) = b := by
      by_cases h : peakOf (samples.map conditionSample) < (settings a.s).deadThreshold
      · exact (if_pos h).trans (dead h).symm
      · exact (if_neg h).trans (live (Nat.le_of_not_lt h)).symm
    rw [takeCell_of_expected n samples current a order]
    exact ⟨useCell_of_quiet samples current _ b first, useCell_of_told samples current _ b first⟩
  · intro a volts current
    exact ⟨joinWindow_of_room volts current a, joinWindow_of_full volts current a⟩
  · intro a first rest ha join noJoin
    obtain ⟨next, others, choices, h, perm, taken⟩ := takeNext_of_noJoin a first rest ha
      (Bool.eq_false_iff.2 fun h => noJoin ((isJoin_iff first).1 h))
    exact ⟨next, others, choices, (isJoin_iff next).not.1 (by simp [h]), perm, taken⟩
  · intro a l w cls sequence step entry t
    have closed : t = _ := closeWindow_eq a w rfl sequence rfl step rfl
    have lm : t.s.lm = _ := closeWindow_lm a w rfl sequence rfl step rfl
    have digests : step.s.lm.digests = l.digests := persist_digests cls _
    have overflow : step.s.lm.overflow = l.overflow := persist_overflow cls _
    refine ⟨by rw [closed], by rw [closed], ?_⟩
    rw [lm]
    refine ⟨rfl, rfl, rfl, rfl, rfl, rfl, rfl, rfl, rfl, rfl, rfl, fun room => ?_, fun full => ?_⟩
    · rw [appendDigest_of_room _ _ (digests ▸ room)]
      exact ⟨congrArg (· ++ [entry]) digests, overflow⟩
    · rw [appendDigest_of_full _ _ (digests ▸ full)]
      exact ⟨congrArg (fun k => k.drop 1 ++ [entry]) digests, rfl⟩

end Sys2Proof.Machine

namespace Sys2Proof.Machine

/-! SUPPORT. The class of a window, and a persistence step by what becomes of the candidate (02). -/

/-! ## The class of a window (R23, R24) -/

/-- R24: a window's figures lie within a record's bands. -/
theorem matchesRecord_iff (w : WindowResult) (r : SystemRecord) : matchesRecord w r = true ↔
    r.vacLo ≤ w.vac ∧ w.vac ≤ r.vacHi ∧ r.dcLo ≤ w.m.natAbs ∧ w.m.natAbs ≤ r.dcHi ∧ r.fLo ≤ w.f ∧ w.f ≤ r.fHi :=
  decide_eq_true_iff

theorem classify_of_sat (s : State) (w : WindowResult) (h : w.sat = true) : classify s w = .over := if_pos h

theorem classify_of_dead (s : State) (w : WindowResult) (h : w.sat = false)
    (low : w.vac < (settings s).deadThreshold ∧ w.m.natAbs < (settings s).deadThreshold) : classify s w = .dead := by
  simp [classify, h, low]

/-- R23, R24: a live window has the class of the first record that it matches. -/
theorem classify_of_live (s : State) (w : WindowResult) (h : w.sat = false)
    (live : ¬ (w.vac < (settings s).deadThreshold ∧ w.m.natAbs < (settings s).deadThreshold)) :
    classify s w = ((validRecords s.vl.tables.system).find? (matchesRecord w)).elim .unknown fun r => .system r.code := by
  unfold classify
  simp only [h, Bool.false_eq_true, if_false, if_neg live]
  cases (validRecords s.vl.tables.system).find? (matchesRecord w) <;> rfl

/-! ## One persistence step (R29 to R31) -/

/-- R29: how many windows in a row have had the class of this one. -/
def candidateCount (l : LineMonitor) (w : WindowClass) : Nat :=
  match l.candidate with
  | some c => if c.cls = w then c.count + 1 else 1
  | none => 1

theorem nextCandidate_of_confirmed (l : LineMonitor) (w : WindowClass) (h : l.confirmed = classState w) :
    nextCandidate l.confirmed l.candidate w = none := if_pos h

theorem nextCandidate_of_new (l : LineMonitor) (w : WindowClass) (h : l.confirmed ≠ classState w) :
    nextCandidate l.confirmed l.candidate w = some { cls := w, count := candidateCount l w } := by
  unfold nextCandidate candidateCount
  rw [if_neg h]
  cases l.candidate with
  | none => rfl
  | some c =>
    by_cases same : c.cls = w
    · simp [← same]
    · simp [same]

theorem persist_of_confirmed (w : WindowClass) (a : Act) (h : a.s.lm.confirmed = classState w) :
    persist w a = a.modLm fun l => { l with candidate := none } := by
  rw [persist, nextCandidate_of_confirmed a.s.lm w h]

theorem persist_of_few (w : WindowClass) (a : Act) (h : a.s.lm.confirmed ≠ classState w)
    (few : candidateCount a.s.lm w < persistenceOf a.s w) :
    persist w a = a.modLm fun l => { l with candidate := some { cls := w, count := candidateCount a.s.lm w } } := by
  rw [persist, nextCandidate_of_new a.s.lm w h]
  exact if_neg (Nat.not_le_of_lt few)

theorem persist_of_enough (w : WindowClass) (a : Act) (h : a.s.lm.confirmed ≠ classState w)
    (enough : persistenceOf a.s w ≤ candidateCount a.s.lm w) :
    persist w a = setConfirmed (classState w) .window (a.modLm fun l => { l with candidate := none }) := by
  rw [persist, nextCandidate_of_new a.s.lm w h]
  exact if_pos enough

/-- Settles O19: the class by SAT, the dead threshold and the search of the SYSTEM records; the persistence step by whether the
class is confirmed, and else by its count. -/
theorem windowClassIsFoundAndConfirmed : Obligations.WindowClassIsFoundAndConfirmed := by
  refine ⟨fun s w => ⟨classify_of_sat s w, fun h vac m => classify_of_dead s w h ⟨vac, m⟩, fun h live => ⟨?_, ?_⟩⟩,
    fun a w => ⟨fun h => ?_, fun h few => ?_, fun h enough => ?_⟩⟩
  · intro before r after split misses hit
    have found : (validRecords s.vl.tables.system).find? (matchesRecord w) = some r :=
      List.find?_eq_some_iff_append.2 ⟨(matchesRecord_iff w r).2 hit, before, after, split, fun e he => by
        simpa using mt (matchesRecord_iff w e).1 (misses e he)⟩
    rw [classify_of_live s w h live, found, Option.elim]
  · intro misses
    have none : (validRecords s.vl.tables.system).find? (matchesRecord w) = none :=
      List.find?_eq_none.2 fun r hr => mt (matchesRecord_iff w r).1 (misses r hr)
    rw [classify_of_live s w h live, none, Option.elim]
  · rw [persist_of_confirmed w a h]
    rfl
  · rw [persist_of_few w a h few]
    rfl
  · have step := persist_of_enough w a h enough
    rw [step]
    exact ⟨setConfirmed_lm _ _ _ h, setConfirmed_report _ _ _ h⟩

end Sys2Proof.Machine

namespace Sys2Proof.Machine

/-! SUPPORT. What a clamp makes of a field, and how many fields it changes (R25, R42, R87, R103, R158, R167, R177, R194). -/

/-! ## One field -/

/-- A field clamped is set to the nearer end of its range. -/
theorem clampNat_near (lo hi x : Nat) (h : lo ≤ hi) :
    lo ≤ clampNat lo hi x ∧ clampNat lo hi x ≤ hi ∧ (x < lo → clampNat lo hi x = lo) ∧ (hi < x → clampNat lo hi x = hi)
      ∧ (lo ≤ x → x ≤ hi → clampNat lo hi x = x) := by
  unfold clampNat
  omega

/-- A signed field clamped is set to the nearer end of its range. -/
theorem clampInt_near (lo hi x : Int) (h : lo ≤ hi) :
    lo ≤ clampInt lo hi x ∧ clampInt lo hi x ≤ hi ∧ (x < lo → clampInt lo hi x = lo) ∧ (hi < x → clampInt lo hi x = hi)
      ∧ (lo ≤ x → x ≤ hi → clampInt lo hi x = x) := by
  unfold clampInt
  omega

/-- A clamp changes a field that is out of its range, and no other. -/
theorem eq_clampNat_iff (lo hi x : Nat) (h : lo ≤ hi) : x = clampNat lo hi x ↔ lo ≤ x ∧ x ≤ hi := by
  unfold clampNat
  omega

/-- An optional field clamped is there when it was, in its range. -/
theorem map_clampNat_near (hi : Nat) (x : Option Nat) :
    (x = none → x.map (clampNat 0 hi) = none) ∧ ∀ v, x = some v → ∃ w, x.map (clampNat 0 hi) = some w ∧ 0 ≤ w ∧ w ≤ hi
      ∧ (v < 0 → w = 0) ∧ (hi < v → w = hi) ∧ (0 ≤ v → v ≤ hi → w = v) := by
  refine ⟨?_, ?_⟩
  · rintro rfl
    rfl
  · rintro v rfl
    exact ⟨_, rfl, clampNat_near 0 hi v (Nat.zero_le hi)⟩

/-! ## How many fields changed -/

@[simp] theorem countChanged_nil {α : Type} [DecidableEq α] : countChanged ([] : List α) [] = 0 := rfl
@[simp] theorem countChanged_cons {α : Type} [DecidableEq α] (x y : α) (xs ys : List α) :
    countChanged (x :: xs) (y :: ys) = (if x = y then 0 else 1) + countChanged xs ys := rfl

/-- An optional field counts where its value is above its range. -/
theorem changed_map_clampNat (hi : Nat) (x : Option Nat) :
    (if x = x.map (clampNat 0 hi) then 0 else 1) = x.elim 0 fun v => if v ≤ hi then 0 else 1 := by
  cases x with
  | none => rfl
  | some v => simp [eq_clampNat_iff 0 hi v (Nat.zero_le hi)]

/-- The fields of several records count one record at a time. -/
theorem countChanged_map {α β : Type} [DecidableEq β] (f g : α → β) (l : List α) :
    countChanged (l.map f) (l.map g) = (l.map fun x => if f x = g x then 0 else 1).sum := by
  induction l with
  | nil => rfl
  | cons x l ih => rw [List.map_cons, List.map_cons, countChanged_cons, ih, List.map_cons, List.sum_cons]

/-! ## Single tables -/

/-- R103: the speed limit counts by its range alone, whether it is dropped or not (assumption log 17). -/
theorem clampGate_count (r : GateRecord) : (clampGate r).2 =
    (if r.holdTime = clampNat 0 5000 r.holdTime then 0 else 1) + r.speedLimit.elim 0 fun v => if v ≤ 12000 then 0 else 1 := by
  simp [clampGate, changed_map_clampNat, Nat.add_comm]

/-- R25: the scrape fields go with the permission. -/
theorem clampSystem_dropped (r : SystemRecord) (h : r.scrapePermitted = .named false) :
    (clampSystem r).1 = { r.inRange with scrapeSpeed := none, scrapeProfile := none } := if_pos h

theorem clampSystem_kept (r : SystemRecord) (h : r.scrapePermitted ≠ .named false) : (clampSystem r).1 = r.inRange := if_neg h

/-- R25: the permission bears on the scrape fields alone. -/
theorem clampSystem_aside (r : SystemRecord) : (clampSystem r).1 =
    { r.inRange with scrapeSpeed := (clampSystem r).1.scrapeSpeed, scrapeProfile := (clampSystem r).1.scrapeProfile } := by
  by_cases h : r.scrapePermitted = .named false
  · rw [clampSystem_dropped r h]
  · rw [clampSystem_kept r h]

/-- R42: a stage is clamped to its own ranges, then lowered to the max pressure. -/
def Stage.clamped (maxPressure : Nat) (x : Stage) : Stage :=
  { target := min x.inRange.target maxPressure, rate := x.inRange.rate }

theorem clampProfile_stages (r : ProfileRecord) :
    (clampProfile r).1.stages = r.stages.map (Stage.clamped (clampNat 1000 6000 r.maxPressure)) := by
  simp [clampProfile, Stage.clamped, Function.comp_def]

/-- R42: how many changes a stage's clamps make; a target that is clamped and then lowered counts two. -/
def Stage.changes (maxPressure : Nat) (x : Stage) : Nat :=
  (if x.target ≤ 6000 then 0 else 1) + (if min 6000 x.target ≤ maxPressure then 0 else 1)
    + (if 10 ≤ x.rate ∧ x.rate ≤ 5000 then 0 else 1)

/-- R42: the three passes over a stage count its changes. -/
theorem Stage.changes_eq (maxPressure : Nat) (x : Stage) : x.changes maxPressure =
    (if x.target = x.inRange.target then 0 else 1) + (if x.rate = x.inRange.rate then 0 else 1)
      + (if x.inRange.target = min x.inRange.target maxPressure then 0 else 1) := by
  have target : x.target = x.inRange.target ↔ x.target ≤ 6000 := by simp [Stage.inRange, eq_clampNat_iff]
  have rate : x.rate = x.inRange.rate ↔ 10 ≤ x.rate ∧ x.rate ≤ 5000 := eq_clampNat_iff 10 5000 x.rate (by decide)
  have lowered : x.inRange.target = min x.inRange.target maxPressure ↔ min 6000 x.target ≤ maxPressure := by
    simp only [Stage.inRange, clampNat]
    omega
  simp only [target, rate, lowered, Stage.changes]
  omega

theorem clampProfile_count (r : ProfileRecord) : (clampProfile r).2 =
    countChanged [r.number, r.holdBase, r.gain, r.maxPressure, r.timeout]
        [clampNat 0 3 r.number, clampNat 0 6000 r.holdBase, clampNat 0 50 r.gain, clampNat 1000 6000 r.maxPressure,
         clampNat 1000 30000 r.timeout]
      + (r.stages.map (Stage.changes (clampNat 1000 6000 r.maxPressure))).sum := by
  have stages : (r.stages.map (Stage.changes (clampNat 1000 6000 r.maxPressure))).sum =
      countChanged (r.stages.map (·.target)) (r.stages.map (·.inRange.target))
        + countChanged (r.stages.map (·.rate)) (r.stages.map (·.inRange.rate))
        + countChanged (r.stages.map (·.inRange.target))
            (r.stages.map fun x => min x.inRange.target (clampNat 1000 6000 r.maxPressure)) := by
    simp only [countChanged_map, ← List.sum_map_add, funext (Stage.changes_eq _)]
  rw [stages, ← Nat.add_assoc, ← Nat.add_assoc]
  simp only [clampProfile, List.map_map, Function.comp_def]

/-- Settles O52: each field by the clamp's own lemma, each count by the fields that changed. -/
theorem tableFieldsAreClamped : Obligations.TableFieldsAreClamped := by
  unfold Obligations.TableFieldsAreClamped
  intro near nearInt nearOpt one oneInt oneOpt
  have field (lo hi x : Nat) (h : lo ≤ hi := by decide) : near lo hi x (clampNat lo hi x) := clampNat_near lo hi x h
  refine ⟨fun r => ?directory, fun r => ?gate, fun r => ?system, fun r => ?profile, fun r => ?input,
    fun r => ?settings, fun r => ?heater, fun r => ?climate⟩
  case directory =>
    exact ⟨field 0 7 _, field 1 255 _, field 20 500 _, rfl, rfl, rfl, by simp [clampDirectory, one, Nat.add_assoc]⟩
  case gate =>
    refine ⟨field 0 5000 _, fun below => ?_, fun above => if_neg (ne_true_of_eq_false above), rfl, rfl, rfl, rfl,
      clampGate_count r⟩
    have limit : (clampGate r).1.speedLimit = r.speedLimit.map (clampNat 0 12000) := if_pos below
    exact limit ▸ map_clampNat_near 12000 r.speedLimit
  case system =>
    intro c
    have aside : c = _ := clampSystem_aside r
    rw [aside]
    refine ⟨field 1 15 _, field 0 32767 _, field 0 32767 _, field 0 32767 _, field 0 32767 _, field 0 200000 _,
      field 0 200000 _, field 0 3 _, field 1 15 _, field 1 4095 _, field 0 500 _, rfl, rfl, rfl, rfl, fun h => ?_,
      fun h => ?_, ?_⟩
    · rw [clampSystem_dropped r h]
      exact ⟨rfl, rfl⟩
    · rw [clampSystem_kept r h]
      exact ⟨map_clampNat_near 12000 r.scrapeSpeed, map_clampNat_near 3 r.scrapeProfile⟩
    · simp [clampSystem, SystemRecord.numbers, SystemRecord.inRange, changed_map_clampNat, one, oneOpt, Nat.add_assoc]
  case profile =>
    refine ⟨field 0 3 _, field 0 6000 _, field 0 50 _, field 1000 6000 _, field 1000 30000 _,
      by simp [clampProfile_stages], ?_, ?_⟩
    · intro k x y hx hy
      rw [clampProfile_stages, List.getElem?_map, hx] at hy
      obtain rfl : x.clamped (clampNat 1000 6000 r.maxPressure) = y := Option.some.inj hy
      exact ⟨field 10 5000 _, clampNat 0 6000 x.target, field 0 6000 _, rfl⟩
    · rw [clampProfile_count]
      simp only [countChanged_cons, countChanged_nil, Nat.add_zero, ← Nat.add_assoc]
      rfl
  case input =>
    exact ⟨field 0 11 _, field 0 3 _, rfl, rfl, rfl, by simp [clampInputMap, one]⟩
  case settings =>
    exact ⟨field 5 250 _, field 0 4095 _, field 100 8000 _, field 5 250 _, field 1 15 _, field 200 5000 _, field 0 65535 _,
      field 0 65535 _, field 50 5000 _, rfl, field 10 1000 _, field 1 64 _, field 20 500 _, field 20 1000 _,
      field 500 10000 _, field 500 10000 _, field 1000 20000 _, field 50 1000 _, field 2000 15000 _, field 1000 120000 _,
      field 0 100 _, field 0 100 _, field 0 100 _, field 0 100 _, field 0 20 _, field 0 100 _, field 0 65535 _,
      by simp [clampSettings, Settings.numbers, one, Nat.add_assoc]⟩
  case heater =>
    exact ⟨field 1 6 _, field 1 60 _, rfl, by simp [clampHeater, one]⟩
  case climate =>
    exact ⟨clampInt_near (-500) 500 _ (by decide), clampInt_near (-500) 500 _ (by decide), field 0 100 _, field 0 100 _,
      by simp [clampClimate, one, oneInt, Nat.add_assoc]⟩

end Sys2Proof.Machine

namespace Sys2Proof.Machine

/-! SUPPORT. How a record of each table is read (11, Frame layouts): from the bytes that write it, whatever follows them, and from
no others. -/

/-- A table's records are read from exactly the bytes that write them, where their fields are in range. -/
def TableForm.Reads {ρ : Type} (f : TableForm ρ) (fits : ρ → Prop) : Prop :=
  ∀ (r : ρ) (bytes rest : List Byte), f.get bytes = some (r, rest) ↔ fits r ∧ bytes = f.put r ++ rest

/-- Each record that is read leaves fewer bytes. -/
def TableForm.Consumes {ρ : Type} (f : TableForm ρ) : Prop :=
  ∀ (bytes rest : List Byte) (r : ρ), f.get bytes = some (r, rest) → rest.length < bytes.length

/-- A record that is written in no byte would be read from none. -/
theorem TableForm.Reads.consumes {ρ : Type} {f : TableForm ρ} {fits : ρ → Prop} (h : f.Reads fits) (empty : f.get [] = none) :
    f.Consumes := by
  intro bytes rest r read
  obtain ⟨hr, rfl⟩ := (h r bytes rest).1 read
  have some_byte : f.put r ≠ [] := fun e => by
    have := (h r [] []).2 ⟨hr, by rw [e]; rfl⟩
    rw [empty] at this
    contradiction
  have := List.length_pos_iff.2 some_byte
  rw [List.length_append]
  omega

/-! ## The next field of a record

Where the fields before it are those wanted (`E`), and what follows it holds (`P`) and reads the rest (`tail`). -/

section
variable {α β : Type} {k : α × List Byte → Option β} {kn : Nat × List Byte → Option β} {q : β} {l tail : List Byte} {E P : Prop}

theorem read_field {get : List Byte → Option (α × List Byte)} {put : α → List Byte} {fits : α → Prop}
    (h : ∀ l v rest, get l = some (v, rest) ↔ fits v ∧ l = put v ++ rest) {x : α}
    (next : ∀ v r, fits v → (k (v, r) = some q ↔ (E ∧ v = x) ∧ P ∧ r = tail)) :
    (get l >>= k) = some q ↔ E ∧ (fits x ∧ P) ∧ l = put x ++ tail := by
  rw [bind_reader_eq_some h]
  constructor
  · rintro ⟨v, r, hv, rfl, hk⟩
    obtain ⟨⟨hE, rfl⟩, hP, rfl⟩ := (next v r hv).1 hk
    exact ⟨hE, ⟨hv, hP⟩, rfl⟩
  · rintro ⟨hE, ⟨hx, hP⟩, rfl⟩
    exact ⟨x, tail, hx, rfl, (next x tail hx).2 ⟨⟨hE, rfl⟩, hP, rfl⟩⟩

theorem get8_field {x : Nat} (next : ∀ v r, v < 256 → (kn (v, r) = some q ↔ (E ∧ v = x) ∧ P ∧ r = tail)) :
    (get8 l >>= kn) = some q ↔ E ∧ (x < 256 ∧ P) ∧ l = put8 x ++ tail := read_field get8_eq_some next

theorem get16_field {x : Nat} (next : ∀ v r, v < 65536 → (kn (v, r) = some q ↔ (E ∧ v = x) ∧ P ∧ r = tail)) :
    (get16 l >>= kn) = some q ↔ E ∧ (x < 65536 ∧ P) ∧ l = put16 x ++ tail := read_field get16_eq_some next

theorem get24_field {x : Nat} (next : ∀ v r, v < 16777216 → (kn (v, r) = some q ↔ (E ∧ v = x) ∧ P ∧ r = tail)) :
    (get24 l >>= kn) = some q ↔ E ∧ (x < 16777216 ∧ P) ∧ l = put24 x ++ tail := read_field get24_eq_some next

theorem getCoded_field [DecidableEq α] {list : List α} {k : Coded α × List Byte → Option β} {x : Coded α}
    (next : ∀ v r, v.Fits list → (k (v, r) = some q ↔ (E ∧ v = x) ∧ P ∧ r = tail))
    (hd : list.Nodup := by decide) (hl : list.length ≤ 256 := by decide) :
    (getCoded list l >>= k) = some q ↔ E ∧ (x.Fits list ∧ P) ∧ l = putCoded list x ++ tail :=
  read_field (getCoded_eq_some list hd hl) next

theorem getSigned16_field {x : Int} {k : Int × List Byte → Option β}
    (next : ∀ v r, (-32768 ≤ v ∧ v ≤ 32767) → (k (v, r) = some q ↔ (E ∧ v = x) ∧ P ∧ r = tail)) :
    (getSigned16 l >>= k) = some q ↔ E ∧ ((-32768 ≤ x ∧ x ≤ 32767) ∧ P) ∧ l = putSigned16 x ++ tail :=
  read_field getSigned16_eq_some next

theorem getOption8_field {x : Option Nat} {k : Option Nat × List Byte → Option β}
    (next : ∀ v r, (∀ n, v = some n → n < 256) → (k (v, r) = some q ↔ (E ∧ v = x) ∧ P ∧ r = tail)) :
    (getOption get8 l >>= k) = some q ↔ E ∧ ((∀ n, x = some n → n < 256) ∧ P) ∧ l = putOption put8 x ++ tail :=
  read_field (getOption_eq_some get8 put8 (· < 256) get8_eq_some) next

theorem getOption16_field {x : Option Nat} {k : Option Nat × List Byte → Option β}
    (next : ∀ v r, (∀ n, v = some n → n < 65536) → (k (v, r) = some q ↔ (E ∧ v = x) ∧ P ∧ r = tail)) :
    (getOption get16 l >>= k) = some q ↔ E ∧ ((∀ n, x = some n → n < 65536) ∧ P) ∧ l = putOption put16 x ++ tail :=
  read_field (getOption_eq_some get16 put16 (· < 65536) get16_eq_some) next

/-- The last field of a record. -/
theorem last_field {A F L : Prop} (h : A ↔ E ∧ (F ∧ True) ∧ L) : A ↔ E ∧ F ∧ L := by
  rwa [and_true] at h

/-- The first field of a record. -/
theorem first_field {A B : Prop} (h : A ↔ True ∧ B) : A ↔ B := by
  rwa [true_and] at h

end

/-! ## The records of the tables -/

/-- A set of bits is the number of its field. -/
theorem ofNat_eq_iff_toNat {w : Nat} (n : Nat) (b : BitVec w) (h : n < 2 ^ w) : BitVec.ofNat w n = b ↔ n = b.toNat := by
  rw [← BitVec.toNat_inj, BitVec.toNat_ofNat, Nat.mod_eq_of_lt h]

theorem directoryForm_reads : directoryForm.Reads fun r =>
    r.role.Fits rolesInOrder ∧ r.port < 256 ∧ r.kind < 256 ∧ r.silence < 65536 ∧ r.forwarding.Fits forwardings
      ∧ r.access.Fits accesses := by
  rintro ⟨role, port, kind, silence, forwarding, access⟩ bytes rest
  simp only [directoryForm, putDirectory, List.append_assoc]
  exact first_field <| getCoded_field fun _ _ _ => get8_field fun _ _ _ => get8_field fun _ _ _ => get16_field fun _ _ _ =>
    getCoded_field fun _ _ _ => last_field <| getCoded_field fun _ _ _ => by simp [and_assoc]

theorem gateForm_reads : gateForm.Reads fun r =>
    r.role.Fits slotRoles ∧ r.kind.Fits kindsInOrder ∧ (∀ v, r.speedLimit = some v → v < 65536) ∧ r.holdTime < 65536 := by
  rintro ⟨role, kind, origins, conditions, speedLimit, holdTime⟩ bytes rest
  have wide : (origins.toNat < 256 ∧ conditions.toNat < 65536) := ⟨origins.isLt, conditions.isLt⟩
  suffices reads : getGate bytes = some (⟨role, kind, origins, conditions, speedLimit, holdTime⟩, rest) ↔
      (role.Fits slotRoles ∧ kind.Fits kindsInOrder ∧ origins.toNat < 256 ∧ conditions.toNat < 65536
        ∧ (∀ v, speedLimit = some v → v < 65536) ∧ holdTime < 65536)
      ∧ bytes = putGate ⟨role, kind, origins, conditions, speedLimit, holdTime⟩ ++ rest by
    simpa only [gateForm, wide, true_and] using reads
  simp only [putGate, List.append_assoc]
  exact first_field <| getCoded_field fun _ _ _ => getCoded_field fun _ _ _ => get8_field fun o _ ho =>
    get16_field fun c _ hc => getOption16_field fun _ _ _ => last_field <| get16_field fun _ _ _ => by
      simp [and_assoc, ofNat_eq_iff_toNat o origins ho, ofNat_eq_iff_toNat c conditions hc]

theorem systemForm_reads : systemForm.Reads fun r =>
    r.code < 256 ∧ r.vacLo < 65536 ∧ r.vacHi < 65536 ∧ r.dcLo < 65536 ∧ r.dcHi < 65536 ∧ r.fLo < 16777216 ∧ r.fHi < 16777216
      ∧ r.selector.Fits selectors ∧ r.panSet.Fits panSets ∧ r.preferred.Fits pansInOrder ∧ r.raiseProfile < 256
      ∧ r.persistence < 256 ∧ r.iMax < 65536 ∧ r.budget < 65536 ∧ r.scrapePermitted.Fits yesNo
      ∧ (∀ v, r.scrapeSpeed = some v → v < 65536) ∧ ∀ v, r.scrapeProfile = some v → v < 256 := by
  intro r bytes rest
  cases r
  simp only [systemForm, putSystem, List.append_assoc]
  exact first_field <| get8_field fun _ _ _ => get16_field fun _ _ _ => get16_field fun _ _ _ => get16_field fun _ _ _ =>
    get16_field fun _ _ _ => get24_field fun _ _ _ => get24_field fun _ _ _ => getCoded_field fun _ _ _ =>
    getCoded_field fun _ _ _ => getCoded_field fun _ _ _ => get8_field fun _ _ _ => get8_field fun _ _ _ =>
    get16_field fun _ _ _ => get16_field fun _ _ _ => getCoded_field fun _ _ _ => getOption16_field fun _ _ _ => last_field <|
    getOption8_field fun _ _ _ => by simp [and_assoc]

/-- A stage is read from its four bytes. -/
theorem getStage_eq_some (l : List Byte) (x : Stage) (rest : List Byte) :
    getStage l = some (x, rest) ↔ (x.target < 65536 ∧ x.rate < 65536) ∧ l = putStage x ++ rest := by
  rcases x with ⟨target, rate⟩
  simp only [putStage, List.append_assoc]
  exact first_field <| get16_field fun _ _ _ => last_field <| get16_field fun _ _ _ => by simp [and_assoc]

theorem getStages_field {β : Type} {q : β} {l tail : List Byte} {E P : Prop} {xs : List Stage}
    {k : List Stage × List Byte → Option β}
    (next : ∀ v r, v.length < 256 ∧ (∀ x ∈ v, x.target < 65536 ∧ x.rate < 65536) →
      (k (v, r) = some q ↔ (E ∧ v = xs) ∧ P ∧ r = tail)) :
    (getList getStage l >>= k) = some q ↔
      E ∧ (xs.length < 256 ∧ (∀ x ∈ xs, x.target < 65536 ∧ x.rate < 65536) ∧ P) ∧ l = putList putStage xs ++ tail := by
  have reads (l : List Byte) (v : List Stage) (r : List Byte) :=
    (getList_eq_some getStage putStage _ getStage_eq_some l v r).trans and_assoc.symm
  exact (read_field reads next).trans (by rw [and_assoc (a := xs.length < 256)])

theorem profileForm_reads : profileForm.Reads fun r =>
    r.number < 256 ∧ r.stages.length < 256 ∧ (∀ x ∈ r.stages, x.target < 65536 ∧ x.rate < 65536)
      ∧ r.holdBase < 65536 ∧ r.gain < 256 ∧ r.maxPressure < 65536 ∧ r.timeout < 65536 := by
  rintro ⟨number, stages, holdBase, gain, maxPressure, timeout⟩ bytes rest
  simp only [profileForm, putProfile, List.append_assoc]
  exact first_field <| get8_field fun _ _ _ => getStages_field fun _ _ _ => get16_field fun _ _ _ => get8_field fun _ _ _ =>
    get16_field fun _ _ _ => last_field <| get16_field fun _ _ _ => by simp [and_assoc]

theorem inputForm_reads : inputForm.Reads fun r =>
    r.line < 256 ∧ r.function.Fits functionsInOrder ∧ r.filter < 256 ∧ r.active.Fits levels ∧ r.sense.Fits senses := by
  rintro ⟨line, function, filter, active, sense⟩ bytes rest
  simp only [inputForm, putInputMap, List.append_assoc]
  exact first_field <| get8_field fun _ _ _ => getCoded_field fun _ _ _ => get8_field fun _ _ _ => getCoded_field fun _ _ _ =>
    last_field <| getCoded_field fun _ _ _ => by simp [and_assoc]

theorem settingsForm_reads : settingsForm.Reads fun r =>
    r.windowLength < 256 ∧ r.hysteresis < 65536 ∧ r.deadThreshold < 65536 ∧ r.deadConfirm < 256 ∧ r.unknownPersistence < 256
      ∧ r.staleLimit < 65536 ∧ r.jumpBack < 65536 ∧ r.jumpForward < 65536 ∧ r.vlSilence < 65536 ∧ r.policy.Fits policies
      ∧ r.statusPeriod < 65536 ∧ r.digestThreshold < 256 ∧ r.mbOpen < 65536 ∧ r.mbClose < 65536 ∧ r.ss < 65536 ∧ r.iso < 65536
      ∧ r.es < 65536 ∧ r.ventGuard < 65536 ∧ r.lowerTimeout < 65536 ∧ r.verifyTimeout < 16777216 ∧ r.heatOn < 256
      ∧ r.heatOff < 256 ∧ r.scrapeOn < 256 ∧ r.scrapeOff < 256 ∧ r.arcWeight < 256 ∧ r.arcCap < 256 ∧ r.arcWindow < 65536 := by
  intro r bytes rest
  cases r
  change getSettings bytes = some (_, rest) ↔ _ ∧ bytes = putSettings _ ++ rest
  -- `simp` cannot derive an equation of a definition this long within its limits.
  delta putSettings
  simp only [List.append_assoc]
  exact first_field <| get8_field fun _ _ _ => get16_field fun _ _ _ => get16_field fun _ _ _ => get8_field fun _ _ _ =>
    get8_field fun _ _ _ => get16_field fun _ _ _ => get16_field fun _ _ _ => get16_field fun _ _ _ =>
    get16_field fun _ _ _ => getCoded_field fun _ _ _ => get16_field fun _ _ _ => get8_field fun _ _ _ =>
    get16_field fun _ _ _ => get16_field fun _ _ _ => get16_field fun _ _ _ => get16_field fun _ _ _ =>
    get16_field fun _ _ _ => get16_field fun _ _ _ => get16_field fun _ _ _ => get24_field fun _ _ _ =>
    get8_field fun _ _ _ => get8_field fun _ _ _ => get8_field fun _ _ _ => get8_field fun _ _ _ => get8_field fun _ _ _ =>
    get8_field fun _ _ _ => last_field <| get16_field fun _ _ _ => by simp [and_assoc]

theorem heaterForm_reads : heaterForm.Reads fun r => r.group < 256 ∧ r.power < 256 ∧ r.watch.Fits yesNo := by
  rintro ⟨group, power, watch⟩ bytes rest
  simp only [heaterForm, putHeater, List.append_assoc]
  exact first_field <| get8_field fun _ _ _ => get8_field fun _ _ _ => last_field <|
    getCoded_field fun _ _ _ => by simp [and_assoc]

theorem climateForm_reads : climateForm.Reads fun r =>
    (-32768 ≤ r.tempLo ∧ r.tempLo ≤ 32767) ∧ (-32768 ≤ r.tempHi ∧ r.tempHi ≤ 32767) ∧ r.humMin < 256 ∧ r.points < 256 := by
  rintro ⟨tempLo, tempHi, humMin, points⟩ bytes rest
  simp only [climateForm, putClimate, List.append_assoc]
  exact first_field <| getSigned16_field fun _ _ _ => getSigned16_field fun _ _ _ => get8_field fun _ _ _ => last_field <|
    get8_field fun _ _ _ => by simp [and_assoc]

end Sys2Proof.Machine

namespace Sys2Proof.Machine

/-! SUPPORT. How a block's records are appended (R193). -/

section
variable {ρ : Type} (f : TableForm ρ)

/-! ## One record -/

theorem appendRecords_nil (fuel : Nat) (held : List ρ) (n : Nat) : appendRecords f fuel held n [] = ⟨held, n, none⟩ := by
  cases fuel <;> rfl

theorem appendRecords_of_full (fuel : Nat) (held : List ρ) (n : Nat) (bytes : List Byte) (some_byte : bytes ≠ [])
    (full : f.capacity ≤ held.length) :
    appendRecords f (fuel + 1) held n bytes = ⟨held, n, some (.overflow, held.length)⟩ := by
  obtain ⟨b, l, rfl⟩ := List.exists_cons_of_ne_nil some_byte
  exact if_pos full

theorem appendRecords_of_none (fuel : Nat) (held : List ρ) (n : Nat) (bytes : List Byte) (some_byte : bytes ≠ [])
    (room : held.length < f.capacity) (broken : f.get bytes = none) :
    appendRecords f (fuel + 1) held n bytes = ⟨held, n, some (.field, held.length)⟩ := by
  obtain ⟨b, l, rfl⟩ := List.exists_cons_of_ne_nil some_byte
  rw [appendRecords, if_neg (Nat.not_le_of_lt room), broken]
  exact some_byte

theorem appendRecords_of_some (fuel : Nat) (held : List ρ) (n : Nat) (bytes rest : List Byte) (r : ρ) (some_byte : bytes ≠ [])
    (room : held.length < f.capacity) (read : f.get bytes = some (r, rest)) :
    appendRecords f (fuel + 1) held n bytes =
      appendRecords f fuel (held ++ [(f.clamp r).1]) (n + (f.clamp r).2) rest := by
  obtain ⟨b, l, rfl⟩ := List.exists_cons_of_ne_nil some_byte
  rw [appendRecords, if_neg (Nat.not_le_of_lt room), read]
  exact some_byte

/-! ## A block -/

/-- The count of clamped fields goes on from where it stands. -/
theorem appendRecords_clamped (fuel : Nat) (held : List ρ) (n m : Nat) (bytes : List Byte) :
    appendRecords f fuel held (n + m) bytes =
      { appendRecords f fuel held m bytes with clamped := n + (appendRecords f fuel held m bytes).clamped } := by
  induction fuel generalizing held m bytes with
  | zero => rfl
  | succ fuel ih =>
    by_cases none_left : bytes = []
    · simp only [none_left, appendRecords_nil]
    by_cases full : f.capacity ≤ held.length
    · simp only [appendRecords_of_full f fuel held _ bytes none_left full]
    have room := Nat.lt_of_not_le full
    cases read : f.get bytes with
    | none => simp only [appendRecords_of_none f fuel held _ bytes none_left room read]
    | some p =>
      obtain ⟨r, rest⟩ := p
      simp only [appendRecords_of_some f fuel held _ bytes rest r none_left room read, Nat.add_assoc, ih]

/-- A bound on the number of records that the bytes keep to bears on nothing. -/
theorem appendRecords_fuel (consumes : f.Consumes) (fuel fuel' : Nat) (held : List ρ) (n : Nat) (bytes : List Byte)
    (h : bytes.length ≤ fuel) (h' : bytes.length ≤ fuel') :
    appendRecords f fuel held n bytes = appendRecords f fuel' held n bytes := by
  induction fuel generalizing fuel' held n bytes with
  | zero =>
    obtain rfl := List.length_eq_zero_iff.1 (Nat.le_zero.1 h)
    simp only [appendRecords_nil]
  | succ fuel ih =>
    by_cases none_left : bytes = []
    · simp only [none_left, appendRecords_nil]
    obtain ⟨k, rfl⟩ : ∃ k, fuel' = k + 1 := ⟨fuel' - 1, by have := List.length_pos_iff.2 none_left; omega⟩
    by_cases full : f.capacity ≤ held.length
    · simp only [appendRecords_of_full f _ held n bytes none_left full]
    have room := Nat.lt_of_not_le full
    cases read : f.get bytes with
    | none => simp only [appendRecords_of_none f _ held n bytes none_left room read]
    | some p =>
      obtain ⟨r, rest⟩ := p
      have := consumes bytes rest r read
      simp only [appendRecords_of_some f _ held n bytes rest r none_left room read]
      exact ih k _ _ rest (by omega) (by omega)

/-- R193: how a block joins a table. -/
theorem Table.append_cases (consumes : f.Consumes) (t : Table ρ) (bytes : List Byte) :
    (bytes = [] → t.append f bytes = (t, { held := t.records.length }))
      ∧ (bytes ≠ [] → f.capacity ≤ t.records.length →
          (t.append f bytes).1 = { load := .invalid .overflow t.records.length, records := t.records }
            ∧ (t.append f bytes).2.failure = some (.overflow, t.records.length))
      ∧ (bytes ≠ [] → t.records.length < f.capacity → f.get bytes = none →
          (t.append f bytes).1 = { load := .invalid .field t.records.length, records := t.records }
            ∧ (t.append f bytes).2.failure = some (.field, t.records.length))
      ∧ ∀ r rest, t.records.length < f.capacity → f.get bytes = some (r, rest) →
          (let u := { t with records := t.records ++ [(f.clamp r).1] }.append f rest
           (t.append f bytes).1 = u.1 ∧ (t.append f bytes).2 = { u.2 with clamped := (f.clamp r).2 + u.2.clamped }) := by
  have bound {bytes : List Byte} (h : bytes ≠ []) : ∃ k, bytes.length = k + 1 :=
    Nat.exists_eq_add_one_of_ne_zero (mt List.length_eq_zero_iff.1 h)
  refine ⟨?_, fun some_byte full => ?_, fun some_byte room broken => ?_, fun r rest room read => ?_⟩
  · rintro rfl
    rfl
  · obtain ⟨k, hk⟩ := bound some_byte
    simp [Table.append, hk, appendRecords_of_full f k t.records 0 bytes some_byte full]
  · obtain ⟨k, hk⟩ := bound some_byte
    simp [Table.append, hk, appendRecords_of_none f k t.records 0 bytes some_byte room broken]
  · have shorter := consumes bytes rest r read
    have some_byte : bytes ≠ [] := by
      rintro rfl
      simp at shorter
    obtain ⟨k, hk⟩ := bound some_byte
    have step : appendRecords f bytes.length t.records 0 bytes = _ := hk ▸
      appendRecords_of_some f k t.records 0 bytes rest r some_byte room read
    rw [Nat.zero_add, ← Nat.add_zero (f.clamp r).2, appendRecords_clamped,
      appendRecords_fuel f consumes k rest.length _ _ _ (by omega) (Nat.le_refl _)] at step
    simp [Table.append, step]

end

end Sys2Proof.Machine

namespace Sys2Proof.Machine

/-! SUPPORT. The checks of a record in their order, and what they make of a table (R26, R43, R87, R103, R158, R167, R193, R194). -/

/-! ## Checks in their order -/

/-- The answer of a list of checks, each with its reason: the reason of the first that fails, or none. -/
def ChecksInOrder (o : Option Reason) (checks : List (Reason × Prop)) : Prop :=
  (∀ before reason fails after, checks = before ++ (reason, fails) :: after → (∀ x ∈ before, ¬ x.2) → fails → o = some reason)
    ∧ ((∀ x ∈ checks, ¬ x.2) → o = none)

theorem checksInOrder_nil : ChecksInOrder none [] :=
  ⟨fun before _ _ after h => absurd h.symm (by simp), fun _ => rfl⟩

/-- The next check of a list: it fails with its reason, or the checks after it answer. -/
theorem checksInOrder_cons {o : Option Reason} {reason : Reason} {fails : Prop} {checks : List (Reason × Prop)}
    (hit : fails → o = some reason) (pass : ¬ fails → ChecksInOrder o checks) : ChecksInOrder o ((reason, fails) :: checks) := by
  refine ⟨fun before reason' fails' after split misses => ?_, fun misses => ?_⟩
  · cases before with
    | nil =>
      rw [List.nil_append, List.cons.injEq, Prod.mk.injEq] at split
      obtain ⟨⟨rfl, rfl⟩, -⟩ := split
      exact hit
    | cons x before =>
      rw [List.cons_append, List.cons.injEq] at split
      obtain ⟨rfl, split⟩ := split
      exact (pass (misses _ List.mem_cons_self)).1 before reason' fails' after split fun y hy =>
        misses y (List.mem_cons_of_mem _ hy)
  · exact (pass (misses _ List.mem_cons_self)).2 fun y hy => misses y (List.mem_cons_of_mem _ hy)

/-- A check that passes. -/
theorem checksInOrder_pass {o : Option Reason} {reason : Reason} {fails : Prop} {checks : List (Reason × Prop)} (h : ¬ fails)
    (next : ChecksInOrder o checks) : ChecksInOrder o ((reason, fails) :: checks) :=
  checksInOrder_cons (fun hit => absurd hit h) fun _ => next

/-- A check that fails. -/
theorem checksInOrder_fail {reason : Reason} {fails : Prop} {checks : List (Reason × Prop)} (h : fails) :
    ChecksInOrder (some reason) ((reason, fails) :: checks) :=
  checksInOrder_cons (fun _ => rfl) fun pass => absurd h pass

/-- A check that decides what follows. -/
theorem checksInOrder_ite {o : Option Reason} {reason : Reason} {p fails : Prop} [Decidable p] {checks : List (Reason × Prop)}
    (same : p ↔ fails) (next : ChecksInOrder o checks) :
    ChecksInOrder (if p then some reason else o) ((reason, fails) :: checks) := by
  by_cases h : p
  · rw [if_pos h]
    exact checksInOrder_fail (same.1 h)
  · rw [if_neg h]
    exact checksInOrder_pass (same.not.1 h) next

/-- The check that ends a list. -/
theorem checksInOrder_last {reason : Reason} {p fails : Prop} [Decidable p] (same : p ↔ fails) :
    ChecksInOrder (if p then some reason else none) [(reason, fails)] := checksInOrder_ite same checksInOrder_nil

/-- A record that comes after one with the same key. -/
theorem any_beq_iff {ρ κ : Type} [DecidableEq κ] (key : ρ → κ) (k : κ) (earlier : List ρ) :
    (earlier.any fun e => key e == k) = true ↔ ∃ e ∈ earlier, key e = k := by
  simp

/-! ## The checks of each table -/

theorem checkDirectory_inOrder (earlier : List DirectoryRecord) (r : DirectoryRecord) :
    ChecksInOrder (checkDirectory earlier r)
      [(.field, ¬ ∃ x y z, r.role = .named x ∧ r.forwarding = .named y ∧ r.access = .named z),
       (.duplicate, ∃ e ∈ earlier, e.role = r.role), (.duplicate, ∃ e ∈ earlier, e.port = r.port)] := by
  unfold checkDirectory
  split
  next x y z hx hy hz =>
    exact checksInOrder_pass (not_not_intro ⟨x, y, z, hx, hy, hz⟩)
      (checksInOrder_ite (any_beq_iff _ _ _) (checksInOrder_last (any_beq_iff _ _ _)))
  next unnamed =>
    exact checksInOrder_fail fun ⟨x, y, z, hx, hy, hz⟩ => unnamed x y z hx hy hz

theorem checkGate_inOrder (earlier : List GateRecord) (r : GateRecord) :
    ChecksInOrder (checkGate earlier r)
      [(.field, ¬ ((∃ x y, r.role = .named x ∧ r.kind = .named y) ∧ r.origins.toNat < 16 ∧ r.conditions.toNat < 512)),
       (.key, ¬ ∃ x y, r.role = .named x ∧ r.kind = .named y ∧ y ∈ roleKinds x ∧ y ≠ .mbOpen ∧ y ≠ .vent ∧ y ≠ .esOpen),
       (.duplicate, ∃ e ∈ earlier, e.role = r.role ∧ e.kind = r.kind),
       (.conflict, ∃ k ∈ [0, 2, 4], r.conditions.getLsbD k = true ∧ r.conditions.getLsbD (k + 1) = true),
       (.reference, r.conditions.getLsbD 8 = true ∧ r.speedLimit = none)] := by
  unfold checkGate
  split
  next x y hx hy =>
    refine checksInOrder_ite ?field <| checksInOrder_ite ?key <| checksInOrder_ite ?duplicate <| checksInOrder_ite ?conflict <|
      checksInOrder_last ?reference
    case field =>
      have named : ∃ x y, r.role = .named x ∧ r.kind = .named y := ⟨x, y, hx, hy⟩
      simp only [named, true_and]
      omega
    case key => simp [hx, hy, Decidable.imp_iff_not_or]
    case duplicate => simp
    case conflict => simp [or_assoc]
    case reference => simp [GateRecord.belowSpeed]
  next unnamed =>
    exact checksInOrder_fail fun ⟨⟨x, y, hx, hy⟩, _⟩ => unnamed x y hx hy

theorem checkSystem_inOrder (earlier : List SystemRecord) (r : SystemRecord) :
    ChecksInOrder (checkSystem earlier r)
      [(.field, ¬ ∃ w x y z, r.selector = .named w ∧ r.panSet = .named x ∧ r.preferred = .named y ∧ r.scrapePermitted = .named z),
       (.order, r.vacHi < r.vacLo ∨ r.dcHi < r.dcLo ∨ r.fHi < r.fLo), (.duplicate, ∃ e ∈ earlier, e.code = r.code),
       (.reference, ¬ ∃ x y, r.panSet = .named x ∧ r.preferred = .named y ∧ x.holds y = true),
       (.reference, r.scrapePermitted = .named true ∧ (r.scrapeSpeed = none ∨ r.scrapeProfile = none))] := by
  unfold checkSystem
  split
  next w x y z hw hx hy hz =>
    refine checksInOrder_pass (not_not_intro ⟨w, x, y, z, hw, hx, hy, hz⟩) <| checksInOrder_ite ?order <|
      checksInOrder_ite (any_beq_iff _ _ _) <| checksInOrder_ite ?preferred <| checksInOrder_last ?scrape
    case order => omega
    case preferred => simp [hx, hy]
    case scrape => simp [hz]
  next unnamed =>
    exact checksInOrder_fail fun ⟨w, x, y, z, hw, hx, hy, hz⟩ => unnamed w x y z hw hx hy hz

theorem checkProfile_inOrder (earlier : List ProfileRecord) (r : ProfileRecord) :
    ChecksInOrder (checkProfile earlier r)
      [(.length, r.stages.length < 1 ∨ 8 < r.stages.length), (.duplicate, ∃ e ∈ earlier, e.number = r.number)] :=
  checksInOrder_ite (by omega) (checksInOrder_last (any_beq_iff _ _ _))

theorem checkInputMap_inOrder (earlier : List InputMapRecord) (r : InputMapRecord) :
    ChecksInOrder (checkInputMap earlier r)
      [(.field, ¬ ∃ x y z, r.function = .named x ∧ r.active = .named y ∧ r.sense = .named z),
       (.duplicate, ∃ e ∈ earlier, e.line = r.line),
       (.duplicate, r.function ≠ .named .general ∧ ∃ e ∈ earlier, e.function = r.function)] := by
  unfold checkInputMap
  split
  next x y z hx hy hz =>
    exact checksInOrder_pass (not_not_intro ⟨x, y, z, hx, hy, hz⟩)
      (checksInOrder_ite (any_beq_iff _ _ _) (checksInOrder_last (by simp [hx])))
  next unnamed =>
    exact checksInOrder_fail fun ⟨x, y, z, hx, hy, hz⟩ => unnamed x y z hx hy hz

theorem checkSettings_inOrder (earlier : List Settings) (r : Settings) :
    ChecksInOrder (checkSettings earlier r)
      [(.field, ¬ ∃ x, r.policy = .named x),
       (.order, ¬ (r.heatOff < r.heatOn ∧ r.heatOn ≤ r.scrapeOn ∧ r.scrapeOff < r.scrapeOn))] := by
  unfold checkSettings
  split
  next b hb => exact checksInOrder_fail (by simp [hb])
  next x hx =>
    refine checksInOrder_pass (not_not_intro ⟨x, hx⟩) ?_
    rw [← ite_not]
    exact checksInOrder_last Iff.rfl

theorem checkHeater_inOrder (earlier : List HeaterRecord) (r : HeaterRecord) :
    ChecksInOrder (checkHeater earlier r)
      [(.field, ¬ ∃ x, r.watch = .named x), (.duplicate, ∃ e ∈ earlier, e.group = r.group)] := by
  unfold checkHeater
  split
  next b hb => exact checksInOrder_fail (by simp [hb])
  next x hx => exact checksInOrder_pass (not_not_intro ⟨x, hx⟩) (checksInOrder_last (any_beq_iff _ _ _))

theorem checkClimate_inOrder (earlier : List ClimateRecord) (r : ClimateRecord) :
    ChecksInOrder (checkClimate earlier r) [(.order, r.tempHi < r.tempLo)] := checksInOrder_last Iff.rfl

/-! ## The validation of a table (R193) -/

section
variable {ρ : Type}

/-- The first record that fails its checks, with its index, after records that are in the table already. -/
theorem firstFailure_of_failure (check : List ρ → ρ → Option Reason) (earlier before : List ρ) (i : Nat) (r : ρ)
    (after : List ρ) (reason : Reason)
    (passes : ∀ first x later, before = first ++ x :: later → check (earlier ++ first) x = none)
    (fails : check (earlier ++ before) r = some reason) :
    firstFailure check earlier i (before ++ r :: after) = some (reason, i + before.length) := by
  induction before generalizing earlier i with
  | nil =>
    rw [List.append_nil] at fails
    simp [firstFailure, fails]
  | cons y before ih =>
    have pass : check earlier y = none := by simpa using passes [] y before rfl
    have rest := ih (earlier ++ [y]) (i + 1)
      (fun first x later h => by simpa using passes (y :: first) x later (congrArg (y :: ·) h)) (by simpa using fails)
    rw [List.cons_append, firstFailure, pass]
    dsimp only
    rw [rest, List.length_cons, Nat.add_right_comm, Nat.add_assoc]

/-- Records that all pass their checks. -/
theorem firstFailure_of_passes (check : List ρ → ρ → Option Reason) (earlier records : List ρ) (i : Nat)
    (passes : ∀ first x later, records = first ++ x :: later → check (earlier ++ first) x = none) :
    firstFailure check earlier i records = none := by
  induction records generalizing earlier i with
  | nil => rfl
  | cons y records ih =>
    have pass : check earlier y = none := by simpa using passes [] y records rfl
    rw [firstFailure, pass]
    exact ih (earlier ++ [y]) (i + 1) fun first x later h => by simpa using passes (y :: first) x later (congrArg (y :: ·) h)

theorem validate_of_records (f : TableForm ρ) (records : List ρ) (h : records ≠ []) :
    validate f records = firstFailure f.check [] 0 records := by
  cases records with
  | nil => contradiction
  | cons _ _ => rfl

/-- R193: the first record that fails makes the table INVALID with the reason and its index. -/
theorem Table.validated_of_failure (f : TableForm ρ) (t : Table ρ) (before : List ρ) (r : ρ) (after : List ρ) (reason : Reason)
    (split : t.records = before ++ r :: after)
    (passes : ∀ first x later, before = first ++ x :: later → f.check first x = none) (fails : f.check before r = some reason) :
    t.validated f = ({ t with load := .invalid reason before.length }, some (reason, before.length)) := by
  have failure : validate f t.records = some (reason, before.length) := by
    rw [validate_of_records f t.records (by simp [split]), split,
      firstFailure_of_failure f.check [] before 0 r after reason passes fails, Nat.zero_add]
  simp [Table.validated, failure]

/-- R193: records that all pass make the table VALID. -/
theorem Table.validated_of_passes (f : TableForm ρ) (t : Table ρ) (h : t.records ≠ [])
    (passes : ∀ first x later, t.records = first ++ x :: later → f.check first x = none) :
    t.validated f = ({ t with load := .valid }, none) := by
  have failure : validate f t.records = none := by
    rw [validate_of_records f t.records h]
    exact firstFailure_of_passes f.check [] t.records 0 passes
  simp [Table.validated, failure]

/-- R193: a table of no records. -/
theorem Table.validated_of_empty (f : TableForm ρ) (t : Table ρ) (h : t.records = []) (invalid : f.emptyValid = false) :
    t.validated f = ({ t with load := .invalid .empty 0 }, some (.empty, 0)) := by
  simp [Table.validated, validate, h, invalid]

/-- R103: a table that may hold no records is VALID with none. -/
theorem Table.validated_of_none (f : TableForm ρ) (t : Table ρ) (h : t.records = []) (valid : f.emptyValid = true) :
    t.validated f = ({ t with load := .valid }, none) := by
  simp [Table.validated, validate, h, valid]

/-! ## What the users of a table find (11, Table loading) -/

theorem mem_validRecords (t : Table ρ) (r : ρ) : r ∈ validRecords t ↔ t.load = .valid ∧ r ∈ t.records := by
  unfold validRecords
  split <;> simp [*]

theorem find?_validRecords_eq_some (t : Table ρ) (p : ρ → Bool) (r : ρ) : (validRecords t).find? p = some r ↔
    t.load = .valid ∧ ∃ before after, t.records = before ++ r :: after ∧ p r = true ∧ ∀ e ∈ before, ¬ p e = true := by
  unfold validRecords
  split
  next valid => simp [List.find?_eq_some_iff_append, valid, and_left_comm]
  next other => simp [other]

theorem find?_validRecords_eq_none (t : Table ρ) (p : ρ → Bool) :
    (validRecords t).find? p = none ↔ (t.load = .valid → ∀ r ∈ t.records, ¬ p r = true) := by
  simp only [List.find?_eq_none, mem_validRecords, and_imp]
  exact ⟨fun h valid r hr => h r valid hr, fun h r valid hr => h valid r hr⟩

/-- A VALID table's users find the first record with their key, and none in a table that is not VALID. -/
theorem find?_validRecords (t : Table ρ) (p : ρ → Bool) (key : ρ → Prop) (h : ∀ r, p r = true ↔ key r) :
    (∀ r, (validRecords t).find? p = some r ↔
        t.load = .valid ∧ ∃ before after, t.records = before ++ r :: after ∧ key r ∧ ∀ e ∈ before, ¬ key e)
      ∧ ((validRecords t).find? p = none ↔ (t.load = .valid → ∀ r ∈ t.records, ¬ key r)) := by
  simp only [find?_validRecords_eq_some, find?_validRecords_eq_none, h, implies_true, and_self]

end

/-- Settles O53: the appending by whether a byte, room and a record are left; the reading by the fields of each record; the checks
by the branches of each table's check; the validation by the first record that fails; the lookups by the first that is found. -/
theorem tableRecordsAreAppendedAndChecked : Obligations.TableRecordsAreAppendedAndChecked := by
  refine ⟨?appended, ?read, ?checked, ?validated, ?found⟩
  case appended =>
    exact ⟨Table.append_cases _ (directoryForm_reads.consumes rfl), Table.append_cases _ (gateForm_reads.consumes rfl),
      Table.append_cases _ (systemForm_reads.consumes rfl), Table.append_cases _ (profileForm_reads.consumes rfl),
      Table.append_cases _ (inputForm_reads.consumes rfl), Table.append_cases _ (settingsForm_reads.consumes rfl),
      Table.append_cases _ (heaterForm_reads.consumes rfl), Table.append_cases _ (climateForm_reads.consumes rfl),
      rfl, rfl, rfl, rfl, rfl, rfl, rfl, rfl⟩
  case read =>
    exact ⟨directoryForm_reads, gateForm_reads, systemForm_reads, profileForm_reads, inputForm_reads, settingsForm_reads,
      heaterForm_reads, climateForm_reads⟩
  case checked =>
    exact ⟨checkDirectory_inOrder, checkGate_inOrder, checkSystem_inOrder, checkProfile_inOrder, checkInputMap_inOrder,
      checkSettings_inOrder, checkHeater_inOrder, checkClimate_inOrder⟩
  case validated =>
    exact ⟨fun _ f t => ⟨fun before r after reason => t.validated_of_failure f before r after reason, t.validated_of_passes f⟩,
      fun t h => t.validated_of_empty _ h rfl, fun t h => t.validated_of_empty _ h rfl, fun t h => t.validated_of_empty _ h rfl,
      fun t h => t.validated_of_empty _ h rfl, fun t h => t.validated_of_empty _ h rfl, fun t h => t.validated_of_empty _ h rfl,
      fun t h => t.validated_of_empty _ h rfl, fun t h => t.validated_of_none _ h rfl⟩
  case found =>
    refine ⟨fun s => ⟨fun role => ?_, fun port => ?_, fun role kind => ?_, fun code => ?_, fun number => ?_, fun line => ?_⟩,
      fun ρ => mem_validRecords, fun role => ?kinds, fun set p => ?pans⟩
    case kinds => cases role <;> rfl
    case pans => cases set <;> cases p <;> decide
    all_goals exact find?_validRecords _ _ _ fun r => by simp

end Sys2Proof.Machine


namespace Sys2Proof.Machine

/-! SUPPORT. What each operation of the Pantograph Controller makes of the act it is given: the Pan Record it writes and the notes
it leaves (03). -/

/-! ## Two pantographs -/

theorem eq_or_eq_otherPan (p q : Pan) : q = p ∨ q = otherPan p := by cases p <;> cases q <;> simp [otherPan]

@[simp] theorem Pans.get_set_otherPan (ps : Pans) (p : Pan) (r : PanRecord) : (ps.set p r).get (otherPan p) = ps.get (otherPan p) := by
  cases p <;> rfl

@[simp] theorem Pans.set_set (ps : Pans) (p : Pan) (r r' : PanRecord) : (ps.set p r).set p r' = ps.set p r' := by cases p <;> rfl

/-- A pantograph that is RAISING or UP. -/
theorem PanRecord.raised_iff (r : PanRecord) : r.raised = true ↔ r.state = .raising ∨ r.state = .up := by
  simp [PanRecord.raised]

/-! ## Reports of a Pan Record's state (R41) -/

/-- The notes by which a change of a Pan Record's state is told. -/
def panNotes (p : Pan) (new : PanState) (cause : Option LowerCause) (quiet : Bool) : List Note :=
  (if quiet then [] else [.coPan p new cause]) ++ [.iceEvaluate .other, .gateReview]

/-- R41: a change of state is reported and told, and nothing else changes. -/
theorem changedPan_eq (p : Pan) (previous : PanState) (causes : Option (LowerCause × List LowerCause)) (quiet : Bool) (a : Act) :
    changedPan p previous causes quiet a =
      { s := a.s.reported (.panState p (panOf a.s p).state previous (panOf a.s p).role causes (panOf a.s p).latch)
        notes := a.notes ++ panNotes p (panOf a.s p).state
          (if (panOf a.s p).state = .lowering then (panOf a.s p).primary else none) quiet } := by
  cases quiet <;> rfl

/-! ## The end of a lowering (R57, R58) -/

/-- The Pan Record of a lowering that is over. -/
def endedRecord (r : PanRecord) (latch : Option FaultLatch) (vent : Bool) : PanRecord :=
  { r with
    state := if latch.isSome then .fault else .down
    latch, vent, causes := [], primary := none, phase := none, ventGuard := none, lowerDeadline := none }

/-- The report of the fault latch, where the lowering leaves one. -/
def latchReported (p : Pan) (latch : Option FaultLatch) (r : PanRecord) (s : State) : State :=
  match latch with
  | some l => s.reported (.panFault p l r.causes r.measured)
  | none => s

/-- R57, R58: the end of a lowering writes the Pan Record, reports its state and its fault, and tells its readers. -/
theorem finishLowering_eq (p : Pan) (latch : Option FaultLatch) (vent quiet : Bool) (a : Act) :
    finishLowering p latch vent quiet a =
      { s := latchReported p latch (panOf a.s p)
          (({ a.s with pans := a.s.pans.set p (endedRecord (panOf a.s p) latch vent) }).reported
            (.panState p (if latch.isSome then .fault else .down) (panOf a.s p).state (panOf a.s p).role
              ((panOf a.s p).primary.map fun c => (c, (panOf a.s p).causes)) latch))
        notes := a.notes ++ panNotes p (if latch.isSome then .fault else .down) none quiet } := by
  cases p <;> cases quiet <;> cases latch <;> rfl

@[simp] theorem latchReported_pans (p : Pan) (latch : Option FaultLatch) (r : PanRecord) (s : State) :
    (latchReported p latch r s).pans = s.pans := by cases latch <;> rfl
@[simp] theorem latchReported_sg (p : Pan) (latch : Option FaultLatch) (r : PanRecord) (s : State) :
    (latchReported p latch r s).sg = s.sg := by cases latch <;> rfl
@[simp] theorem latchReported_co (p : Pan) (latch : Option FaultLatch) (r : PanRecord) (s : State) :
    (latchReported p latch r s).co = s.co := by cases latch <;> rfl
@[simp] theorem latchReported_vl (p : Pan) (latch : Option FaultLatch) (r : PanRecord) (s : State) :
    (latchReported p latch r s).vl = s.vl := by cases latch <;> rfl

/-! ## The first cause of a lowering (R53) -/

/-- R53: a lowering has begun in a phase: the Pan Record is LOWERING, and its change is reported and told. -/
def loweringBegun (p : Pan) (cause : LowerCause) (phase : LowerPhase) (guard : Option Nat) (vent quiet : Bool) (a : Act) : Act :=
  { s := ({ a.s with
        pans := a.s.pans.set p
          (loweringRecord (panOf a.s p) cause (a.s.now + (settings a.s).lowerTimeout) phase guard vent) }).reported
      (.panState p .lowering (panOf a.s p).state none (some (cause, [cause])) (panOf a.s p).latch)
    notes := a.notes ++ panNotes p .lowering (some cause) quiet }

/-- The Pan Record that the first cause writes, whatever the phase is to be. -/
def causedRecord (cause : LowerCause) (deadline : Nat) (r : PanRecord) : PanRecord :=
  { r with
    state := .lowering, causes := [cause], primary := some cause, role := none, profile := none, raiseOrigin := none,
    stage := none, stageDeadline := none, raiseDeadline := none, lowerDeadline := some deadline }

/-- R53: the first cause is taken, and the phase is still open. -/
def causeTaken (p : Pan) (cause : LowerCause) (quiet : Bool) (a : Act) : Act :=
  changedPan p (panOf a.s p).state (some (cause, [cause])) quiet
    (a.modPan p (causedRecord cause (a.s.now + (settings a.s).lowerTimeout)))

theorem enterVenting_causeTaken (p : Pan) (cause : LowerCause) (immediate quiet : Bool) (a : Act) :
    enterVenting p immediate (causeTaken p cause quiet a) =
      presentVent p (loweringBegun p cause .venting none ((panOf a.s p).vent || immediate) quiet a) := by
  cases p <;> cases quiet <;> rfl

theorem enterAwaitMb_causeTaken (p : Pan) (cause : LowerCause) (quiet : Bool) (a : Act) :
    enterAwaitMb p quiet (causeTaken p cause quiet a) = testAwaitMb p quiet (requestMbOpen .pan
      (loweringBegun p cause .awaitMb (some (a.s.now + (settings a.s).ventGuard)) (panOf a.s p).vent quiet a)) := by
  cases p <;> cases quiet <;> rfl

/-- R53, R55: an orderly cause with MB not engaged, or a role other than COLLECT. -/
theorem beginLowering_orderly (p : Pan) (cause : LowerCause) (quiet : Bool) (a : Act)
    (h : ¬ ((panOf a.s p).role = some .collect ∧ mbEngaged a.s = true)) :
    beginLowering p cause .orderly quiet a = presentVent p (loweringBegun p cause .venting none (panOf a.s p).vent quiet a) := by
  have venting := enterVenting_causeTaken p cause false quiet a
  rw [Bool.or_false] at venting
  exact (if_neg h).trans venting

/-- R53, R54: an orderly cause with MB engaged and the role COLLECT. -/
theorem beginLowering_awaiting (p : Pan) (cause : LowerCause) (quiet : Bool) (a : Act)
    (h : (panOf a.s p).role = some .collect ∧ mbEngaged a.s = true) :
    beginLowering p cause .orderly quiet a = testAwaitMb p quiet (requestMbOpen .pan
      (loweringBegun p cause .awaitMb (some (a.s.now + (settings a.s).ventGuard)) (panOf a.s p).vent quiet a)) :=
  (if_pos h).trans (enterAwaitMb_causeTaken p cause quiet a)

/-- R55: an immediate cause asks for MB open where MB is engaged and the role was COLLECT, and tests the DOWN contact. -/
theorem beginLowering_immediate (p : Pan) (cause : LowerCause) (quiet : Bool) (a : Act) :
    beginLowering p cause .immediate quiet a = testContact p quiet
      (if (panOf a.s p).role = some .collect ∧ mbEngaged a.s = true
        then requestMbOpen .pan (presentVent p (loweringBegun p cause .venting none true quiet a))
        else presentVent p (loweringBegun p cause .venting none true quiet a)) := by
  have venting := enterVenting_causeTaken p cause true quiet a
  rw [Bool.or_true] at venting
  rw [← venting]
  rfl

end Sys2Proof.Machine


namespace Sys2Proof.Machine

/-! SUPPORT. What keeps the Pan Records in order (03), and what pays for the notes of an act: one relation between the states of two
acts for the order of the records, and one between the acts that adds their notes. A pantograph that is lowered, a device that
begins a move and a changeover that leaves a step each go down a rank, and each step down pays for the notes it leaves, so that in
STANDBY, where nothing is raised, an act takes few notes. -/

/-! ## What an act has still to do -/

/-- The steps down that a pantograph has left: from raised to LOWERING, and from there to DOWN or FAULT. -/
def PanRecord.rank (r : PanRecord) : Nat := if r.raised then 2 else if r.state = .lowering then 1 else 0

/-- The moves that can still begin at a device (R71): an MB close in flight can be reversed. -/
def moveRank (d : Dev) (e : Device) : Nat := if e.idle then 2 else if d = .mb ∧ e.target = some .closed then 1 else 0

/-- A step of a changeover lies above those that can follow it (R137). -/
def CoStep.rank : CoStep → Nat
  | .idle => 0
  | .aborting => 1
  | .closing => 2
  | .verifying => 3
  | .halted => 4
  | .raisingNew => 5
  | .awaitRaise => 6
  | .selecting => 7
  | .loweringOld => 8
  | .opening => 9

/-- One note, and those that it leaves beyond what the ranks pay for. -/
def Note.weight : Note → Nat
  | .switchgearLost => 57
  | .lineJoin _ _ => 7
  | .lineLost => 6
  | _ => 1

/-- What the notes of an act weigh. -/
def weights (ns : List Note) : Nat := (ns.map Note.weight).sum

/-- The moves that can still begin. -/
def Switchgear.rank (g : Switchgear) : Nat := (devsInOrder.map fun d => moveRank d (g.get d)).sum

/-- A bound of the notes that an act has still to take, each rank at the number of notes that a step down leaves. -/
def Act.load (a : Act) : Nat :=
  weights a.notes + 3 * (a.s.pans.a.rank + a.s.pans.b.rank) + 5 * a.s.sg.rank + 2 * a.s.co.step.rank

@[simp] theorem weights_append (ms ns : List Note) : weights (ms ++ ns) = weights ms + weights ns := by simp [weights]

theorem weights_perm {ms ns : List Note} (h : ms.Perm ns) : weights ms = weights ns := (h.map Note.weight).sum_eq

theorem Note.weight_pos (n : Note) : 0 < n.weight := by cases n <;> simp [Note.weight]

/-! ## The relations -/

/-- The Pan Records stay in order, at most one pantograph collects, and where the mode is STANDBY none is raised that was not. -/
structure PansKept (s t : State) : Prop where
  mode : t.vl.mode = s.vl.mode
  order : PansInOrder s → PansInOrder t
  collector : OneCollector s → OneCollector t
  standby : s.vl.mode = .standby → ∀ p, (panOf t p).raised = true → (panOf s p).raised = true

/-- An act that follows another within one event: the Pan Records are kept, a lowering that waits for both pantographs still waits,
and in STANDBY no more than `k` notes have joined that no rank has paid for. -/
structure Told (k : Nat) (a b : Act) : Prop where
  kept : PansKept a.s b.s
  waits : ∀ cause kind, .panLowerBoth cause kind ∈ a.notes → .panLowerBoth cause kind ∈ b.notes
  paid : a.s.vl.mode = .standby → PansInOrder a.s → b.load ≤ a.load + k

/-- An act that follows another within one step of the changeover. -/
structure Still (a b : Act) : Prop where
  told : Told 0 a b
  step : b.s.co.step = a.s.co.step

/-- An act that follows another, in which one pantograph alone may have been lowered. -/
structure Lowered (p : Pan) (a b : Act) : Prop extends Still a b where
  other : panOf b.s (otherPan p) = panOf a.s (otherPan p)
  raised : (panOf b.s p).raised = true → (panOf a.s p).raised = true

/-- An act that differs from another in nothing that the Pan Records and the notes depend on. -/
structure Aside (a b : Act) : Prop where
  pans : b.s.pans = a.s.pans
  devs : b.s.sg.get = a.s.sg.get
  step : b.s.co.step = a.s.co.step
  mode : b.s.vl.mode = a.s.vl.mode
  notes : b.notes = a.notes

theorem PansKept.refl (s : State) : PansKept s s := ⟨rfl, id, id, fun _ _ => id⟩

theorem PansKept.trans {s t u : State} (h : PansKept s t) (g : PansKept t u) : PansKept s u where
  mode := g.mode.trans h.mode
  order := g.order ∘ h.order
  collector := g.collector ∘ h.collector
  standby standby p := h.standby standby p ∘ g.standby (h.mode.trans standby) p

/-- The Pan Records and the mode are as they were. -/
theorem PansKept.of_pans {s t : State} (pans : t.pans = s.pans) (mode : t.vl.mode = s.vl.mode) :
    PansKept s t := by
  have same (p : Pan) : panOf t p = panOf s p := congrArg (·.get p) pans
  exact ⟨mode, fun h p => same p ▸ h p, fun h => by rwa [OneCollector, pans], fun _ p h => same p ▸ h⟩

theorem Told.refl (a : Act) : Told 0 a a := ⟨.refl _, fun _ _ => id, fun _ _ => le_rfl⟩

theorem Told.trans {j k : Nat} {a b c : Act} (h : Told j a b) (g : Told k b c) : Told (j + k) a c where
  kept := h.kept.trans g.kept
  waits cause kind := g.waits cause kind ∘ h.waits cause kind
  paid standby order := by
    have first := h.paid standby order
    have second := g.paid (h.kept.mode.trans standby) (h.kept.order order)
    omega

theorem Told.slack {j k : Nat} {a b : Act} (h : Told j a b) (le : j ≤ k) : Told k a b :=
  ⟨h.kept, h.waits, fun standby order => (h.paid standby order).trans (Nat.add_le_add_left le _)⟩

theorem Aside.refl (a : Act) : Aside a a := ⟨rfl, rfl, rfl, rfl, rfl⟩

theorem Aside.trans {a b c : Act} (h : Aside a b) (g : Aside b c) : Aside a c :=
  ⟨g.pans.trans h.pans, g.devs.trans h.devs, g.step.trans h.step, g.mode.trans h.mode, g.notes.trans h.notes⟩

theorem Aside.told {a b : Act} (h : Aside a b) : Told 0 a b where
  kept := .of_pans h.pans h.mode
  waits _ _ := h.notes ▸ id
  paid _ _ := by simp [Act.load, Switchgear.rank, h.pans, h.devs, h.step, h.notes]

theorem Aside.still {a b : Act} (h : Aside a b) : Still a b := ⟨h.told, h.step⟩

theorem Still.refl (a : Act) : Still a a := (Aside.refl a).still

theorem Still.trans {a b c : Act} (h : Still a b) (g : Still b c) : Still a c := ⟨h.told.trans g.told, g.step.trans h.step⟩

theorem Aside.lowered {a b : Act} (h : Aside a b) (p : Pan) : Lowered p a b where
  toStill := h.still
  other := congrArg (·.get (otherPan p)) h.pans
  raised := by rw [panOf, h.pans]; exact id

theorem Lowered.refl (p : Pan) (a : Act) : Lowered p a a := (Aside.refl a).lowered p

theorem Lowered.trans {p : Pan} {a b c : Act} (h : Lowered p a b) (g : Lowered p b c) : Lowered p a c :=
  ⟨h.toStill.trans g.toStill, g.other.trans h.other, h.raised ∘ g.raised⟩

/-- Notes join those that wait. -/
theorem Told.notify (ns : List Note) (a : Act) : Told (weights ns) a (a.notify ns) where
  kept := .refl _
  waits _ _ := List.mem_append_left _
  paid _ _ := by simp [Act.load]; omega

/-- Both Pan Records are in order where those of a pantograph and of the other are. -/
theorem pansInOrder_iff (s : State) (p : Pan) :
    PansInOrder s ↔ (panOf s p).InOrder ∧ (panOf s (otherPan p)).InOrder := by
  refine ⟨fun h => ⟨h _, h _⟩, fun ⟨one, other⟩ q => ?_⟩
  obtain rfl | rfl := eq_or_eq_otherPan p q
  · exact one
  · exact other

/-- At most one pantograph collects, seen from either. -/
theorem oneCollector_iff (s : State) (p : Pan) : OneCollector s ↔
    ¬ (((panOf s p).raised ∧ (panOf s p).role = some .collect)
      ∧ ((panOf s (otherPan p)).raised ∧ (panOf s (otherPan p)).role = some .collect)) := by
  cases p
  · rfl
  · exact not_congr and_comm

theorem rank_pans (s : State) (p : Pan) :
    s.pans.a.rank + s.pans.b.rank = (panOf s p).rank + (panOf s (otherPan p)).rank := by
  cases p
  · rfl
  · exact Nat.add_comm _ _

/-- One Pan Record is written: the pantographs are kept where that record stays in order and is not newly raised. -/
theorem PansKept.of_set {s t : State} (p : Pan) (r : PanRecord) (pans : t.pans = s.pans.set p r) (mode : t.vl.mode = s.vl.mode)
    (order : (panOf s p).InOrder → r.InOrder)
    (raised : r.raised = true → (panOf s p).raised = true ∧ r.role = (panOf s p).role) : PansKept s t := by
  have one : panOf t p = r := by simp [panOf, pans]
  have other : panOf t (otherPan p) = panOf s (otherPan p) := by simp [panOf, pans]
  refine ⟨mode, ?_, ?_, fun _ q h => ?_⟩
  · rw [pansInOrder_iff s p, pansInOrder_iff t p, one, other]
    exact And.imp_left order
  · rw [oneCollector_iff s p, oneCollector_iff t p, one, other]
    rintro single ⟨⟨up, role⟩, second⟩
    obtain ⟨was, same⟩ := raised up
    exact single ⟨⟨was, same ▸ role⟩, second⟩
  · obtain rfl | rfl := eq_or_eq_otherPan p q
    · exact (raised (one ▸ h)).1
    · exact other ▸ h

/-- One Pan Record is written and notes are left: its rank pays for them. -/
theorem Lowered.of_set {a b : Act} (p : Pan) (r : PanRecord) (ns : List Note) (pans : b.s.pans = a.s.pans.set p r)
    (sg : b.s.sg = a.s.sg) (step : b.s.co.step = a.s.co.step) (mode : b.s.vl.mode = a.s.vl.mode)
    (notes : b.notes = a.notes ++ ns) (order : (panOf a.s p).InOrder → r.InOrder)
    (raised : r.raised = true → (panOf a.s p).raised = true ∧ r.role = (panOf a.s p).role)
    (paid : weights ns + 3 * r.rank ≤ 3 * (panOf a.s p).rank) : Lowered p a b := by
  have one : panOf b.s p = r := by simp [panOf, pans]
  have other : panOf b.s (otherPan p) = panOf a.s (otherPan p) := by simp [panOf, pans]
  refine ⟨⟨⟨.of_set p r pans mode order raised, fun _ _ => notes ▸ List.mem_append_left _, fun _ _ => ?_⟩, step⟩, other,
    fun h => (raised (one ▸ h)).1⟩
  simp only [Act.load, rank_pans b.s p, rank_pans a.s p, one, other, sg, step, notes, weights_append]
  omega

theorem weights_panNotes (p : Pan) (new : PanState) (cause : Option LowerCause) (quiet : Bool) :
    weights (panNotes p new cause quiet) ≤ 3 := by
  cases quiet <;> simp [panNotes, weights, Note.weight]

/-! ## Commands toward the heads (05, 06, 10) -/

theorem placeReport_aside (r : Report) (a : Act) : Aside a (placeReport r a) := ⟨rfl, rfl, rfl, rfl, rfl⟩

theorem deliver_aside (c : Command) (a : Act) : Aside a (deliver c a).1 := by
  unfold deliver
  split <;> exact ⟨rfl, rfl, rfl, rfl, rfl⟩

theorem refuse_aside (c : Command) (f : Failed) (a : Act) : Aside a (refuse c f a) := placeReport_aside _ a

theorem present_aside (c : Command) (a : Act) : Aside a (present c a).1 := by
  have delivered := deliver_aside c a
  unfold present
  split
  · split
    · exact refuse_aside _ _ a
    · split <;> rename_i e <;> rw [e] at delivered <;> exact delivered
  · exact refuse_aside _ _ a

theorem present_eq_aside {c : Command} {a b : Act} {r : Answer} (e : present c a = (b, r)) : Aside a b := by
  have presented := present_aside c a
  rwa [e] at presented

theorem presentVent_aside (p : Pan) (a : Act) : Aside a (presentVent p a) := present_aside _ a

/-! ## Switchgear (04) -/

theorem Switchgear.rank_set (g : Switchgear) (d : Dev) (e : Device) :
    (g.set d e).rank + moveRank d (g.get d) = g.rank + moveRank d e := by
  cases d <;> simp [Switchgear.rank, devsInOrder, Switchgear.set, Switchgear.get] <;> omega

/-- R71: a device at which a move may begin goes down a rank with it. -/
theorem moveRank_of_free (s : State) (d : Dev) (target : Pos) (m : Move) (h : moveCheck s d target = .free) :
    moveRank d { devOf s d with target := some target, move := some m } < moveRank d (devOf s d) := by
  have moved : moveRank d { devOf s d with target := some target, move := some m } =
      if d = .mb ∧ target = .closed then 1 else 0 := by simp [moveRank, Device.idle]
  rw [moved]
  unfold moveCheck at h
  unfold moveRank
  dsimp only at h
  split at h
  · rename_i idle
    rw [if_pos idle]
    split <;> omega
  · rename_i moving
    rw [if_neg moving]
    split at h
    · cases h
    · split at h
      · rename_i reversed
        obtain ⟨rfl, closing, rfl⟩ := reversed
        rw [if_neg (by simp : ¬ (Dev.mb = .mb ∧ Pos.opened = .closed)), if_pos ⟨rfl, closing⟩]
        exact Nat.one_pos
      · cases h

/-- R70, R71: the move that begins pays for what it tells. -/
theorem beginMove_told (d : Dev) (target : Pos) (o : Origin) (a : Act) (h : moveCheck a.s d target = .free) :
    Told 0 a (beginMove d target o a) where
  kept := .of_pans rfl rfl
  waits _ _ := List.mem_append_left _
  paid _ _ := by
    let move : Move := { origin := o, deadline := a.s.now + moveTimeout (settings a.s) d target
                         timeout := moveTimeout (settings a.s) d target }
    have free := moveRank_of_free a.s d target move h
    have set := a.s.sg.rank_set d { devOf a.s d with target := some target, move := some move }
    have told : weights (beginMove d target o a).notes = weights a.notes + 5 := weights_append _ _
    change weights (beginMove d target o a).notes + 3 * (a.s.pans.a.rank + a.s.pans.b.rank)
      + 5 * (a.s.sg.set d { devOf a.s d with target := some target, move := some move }).rank + 2 * a.s.co.step.rank ≤ _
    simp only [Act.load, devOf] at *
    omega

theorem moveCheck_of_aside {a b : Act} (h : Aside a b) (d : Dev) (target : Pos) : moveCheck b.s d target = moveCheck a.s d target := by
  unfold moveCheck devOf
  rw [h.devs]

theorem moveRequest_still (d : Dev) (target : Pos) (o : Origin) (a : Act) : Still a (moveRequest d target o a).1 := by
  unfold moveRequest
  split
  · split
    · exact .refl a
    · exact .refl a
    · rename_i free
      split <;> rename_i e <;> have presented := present_eq_aside e
      · have begun := beginMove_told d target o _ ((moveCheck_of_aside presented d target).trans free)
        exact presented.still.trans ⟨begun, rfl⟩
      · exact presented.still
      · exact presented.still
  · exact .refl a

theorem moveRequest_pans (d : Dev) (target : Pos) (o : Origin) (a : Act) : (moveRequest d target o a).1.s.pans = a.s.pans := by
  unfold moveRequest
  split
  · split
    · rfl
    · rfl
    · split <;> rename_i e <;> exact (present_eq_aside e).pans
  · rfl

@[simp] theorem requestMbOpen_pans (o : Origin) (a : Act) : (requestMbOpen o a).s.pans = a.s.pans := moveRequest_pans _ _ _ a

theorem requestMbOpen_still (o : Origin) (a : Act) : Still a (requestMbOpen o a) := moveRequest_still _ _ _ a

theorem requestMbOpen_lowered (p : Pan) (o : Origin) (a : Act) : Lowered p a (requestMbOpen o a) where
  toStill := requestMbOpen_still o a
  other := congrArg (·.get (otherPan p)) (requestMbOpen_pans o a)
  raised := by rw [panOf, requestMbOpen_pans]; exact id

@[simp] theorem presentVent_pans (p : Pan) (a : Act) : (presentVent p a).s.pans = a.s.pans := (presentVent_aside p a).pans

/-! ## Lowering a pantograph (R52 to R58) -/

/-- 03, The Pan Records: the order of a record in LOWERING. -/
theorem PanRecord.inOrder_of_lowering {r : PanRecord} (h : r.state = .lowering) : r.InOrder ↔
    (r.role = none ∧ r.profile = none ∧ r.raiseOrigin = none) ∧ (r.stage = none ∧ r.stageDeadline = none ∧ r.raiseDeadline = none)
      ∧ r.primary.isSome ∧ r.phase.isSome ∧ (r.ventGuard.isSome ↔ r.phase = some .awaitMb) ∧ r.latch = none := by
  simp only [PanRecord.InOrder, PanRecord.raised, h]
  simp
  tauto

/-- R57, R58: a LOWERING pantograph ends its lowering. -/
theorem finishLowering_lowered (p : Pan) (latch : Option FaultLatch) (vent quiet : Bool) (a : Act)
    (h : (panOf a.s p).state = .lowering) : Lowered p a (finishLowering p latch vent quiet a) := by
  have down : (endedRecord (panOf a.s p) latch vent).raised = false := by cases latch <;> rfl
  have rank : (panOf a.s p).rank = 1 := by simp [PanRecord.rank, PanRecord.raised, h]
  have ended : (endedRecord (panOf a.s p) latch vent).rank = 0 := by cases latch <;> rfl
  refine .of_set p (endedRecord (panOf a.s p) latch vent)
    (panNotes p (if latch.isSome then .fault else .down) none quiet) ?_ ?_ ?_ ?_ ?_ ?_ ?_ ?_
  · simp [finishLowering_eq, State.reported]
  · simp [finishLowering_eq, State.reported]
  · simp [finishLowering_eq, State.reported]
  · simp [finishLowering_eq, State.reported]
  · simp [finishLowering_eq]
  · simp only [PanRecord.InOrder, endedRecord]
    simp only [h, PanRecord.raised]
    cases latch <;> simp +contextual
  · simp [down]
  · have := weights_panNotes p (if latch.isSome then .fault else .down) none quiet
    omega

theorem endAtContact_lowered (p : Pan) (quiet : Bool) (a : Act) (h : (panOf a.s p).state = .lowering) :
    Lowered p a (endAtContact p quiet a) := by
  unfold endAtContact
  dsimp only
  split
  · refine ((presentVent_aside p a).lowered p).trans (finishLowering_lowered p _ _ quiet _ ?_)
    rwa [panOf, presentVent_pans]
  · exact finishLowering_lowered p _ _ quiet a h

theorem testContact_lowered (p : Pan) (quiet : Bool) (a : Act) (h : (panOf a.s p).state = .lowering) :
    Lowered p a (testContact p quiet a) := by
  unfold testContact
  split
  · exact endAtContact_lowered p quiet a h
  · exact .refl p a

/-- A Pan Record that keeps its state and its role is neither raised nor lowered. -/
theorem modPan_lowered (p : Pan) (f : PanRecord → PanRecord) (a : Act) (order : (panOf a.s p).InOrder → (f (panOf a.s p)).InOrder)
    (state : (f (panOf a.s p)).state = (panOf a.s p).state)
    (role : (f (panOf a.s p)).role = (panOf a.s p).role) : Lowered p a (a.modPan p f) := by
  refine .of_set p (f (panOf a.s p)) [] rfl rfl rfl rfl (List.append_nil _).symm order ?_ ?_
  · simp [PanRecord.raised, state, role]
  · simp [PanRecord.rank, PanRecord.raised, state, weights]

theorem enterVenting_lowered (p : Pan) (immediate : Bool) (a : Act) (h : (panOf a.s p).state = .lowering) :
    Lowered p a (enterVenting p immediate a) := by
  refine .trans (modPan_lowered p _ a ?_ rfl rfl) ((presentVent_aside p _).lowered p)
  simp +contextual [PanRecord.inOrder_of_lowering, h]

@[simp] theorem enterVenting_state (p : Pan) (immediate : Bool) (a : Act) :
    (panOf (enterVenting p immediate a).s p).state = (panOf a.s p).state := by
  simp [enterVenting, panOf]

theorem leaveAwaitMb_lowered (p : Pan) (immediate quiet : Bool) (a : Act) (h : (panOf a.s p).state = .lowering) :
    Lowered p a (leaveAwaitMb p immediate quiet a) :=
  (enterVenting_lowered p immediate a h).trans (testContact_lowered p quiet _ ((enterVenting_state p immediate a).trans h))

theorem testAwaitMb_lowered (p : Pan) (quiet : Bool) (a : Act)
    (h : (panOf a.s p).phase = some .awaitMb → (panOf a.s p).state = .lowering) : Lowered p a (testAwaitMb p quiet a) := by
  unfold testAwaitMb
  split
  · rename_i awaiting
    exact leaveAwaitMb_lowered p false quiet a (h awaiting.1)
  · exact .refl p a

/-- R53: the first cause of a raised pantograph begins a lowering. -/
theorem loweringBegun_lowered (p : Pan) (cause : LowerCause) (phase : LowerPhase) (guard : Option Nat) (vent quiet : Bool) (a : Act)
    (guarded : guard.isSome ↔ phase = .awaitMb) (h : (panOf a.s p).raised = true) :
    Lowered p a (loweringBegun p cause phase guard vent quiet a) := by
  refine .of_set p _ (panNotes p .lowering (some cause) quiet) rfl rfl rfl rfl rfl ?_ ?_ ?_
  · obtain state | state := (PanRecord.raised_iff _).1 h <;>
      simp +contextual [PanRecord.InOrder, loweringRecord, PanRecord.raised, state, guarded]
  · simp [loweringRecord, PanRecord.raised]
  · have notes := weights_panNotes p .lowering (some cause) quiet
    have before : (panOf a.s p).rank = 2 := by simp [PanRecord.rank, h]
    have after : (loweringRecord (panOf a.s p) cause (a.s.now + (settings a.s).lowerTimeout) phase guard vent).rank = 1 := rfl
    omega

theorem loweringBegun_state (p : Pan) (cause : LowerCause) (phase : LowerPhase) (guard : Option Nat) (vent quiet : Bool) (a : Act) :
    (panOf (loweringBegun p cause phase guard vent quiet a).s p).state = .lowering := by
  simp [loweringBegun, panOf, State.reported, loweringRecord]

/-- R53: what follows the first cause lowers the pantograph that it has made LOWERING, which is raised no more. -/
theorem lowered_of_begun {p : Pan} {a b c : Act} (begun : Lowered p a b) (state : (panOf b.s p).state = .lowering)
    (rest : Lowered p b c) : Lowered p a c ∧ (panOf c.s p).raised = false :=
  ⟨begun.trans rest, Bool.eq_false_iff.2 fun up => by simpa [PanRecord.raised, state] using rest.raised up⟩

theorem beginLowering_lowers (p : Pan) (cause : LowerCause) (kind : CauseKind) (quiet : Bool) (a : Act)
    (h : (panOf a.s p).raised = true) :
    Lowered p a (beginLowering p cause kind quiet a) ∧ (panOf (beginLowering p cause kind quiet a).s p).raised = false := by
  have vents (b : Act) := (presentVent_aside p b).lowered p
  cases kind with
  | orderly =>
    by_cases awaits : (panOf a.s p).role = some .collect ∧ mbEngaged a.s = true
    · rw [beginLowering_awaiting p cause quiet a awaits]
      have state := loweringBegun_state p cause .awaitMb (some (a.s.now + (settings a.s).ventGuard)) (panOf a.s p).vent quiet a
      refine lowered_of_begun (loweringBegun_lowered p cause .awaitMb _ _ quiet a (by simp) h) state
        ((requestMbOpen_lowered p .pan _).trans (testAwaitMb_lowered p quiet _ fun _ => ?_))
      rwa [panOf, requestMbOpen_pans]
    · rw [beginLowering_orderly p cause quiet a awaits]
      exact lowered_of_begun (loweringBegun_lowered p cause .venting none _ quiet a (by simp) h)
        (loweringBegun_state ..) (vents _)
  | immediate =>
    rw [beginLowering_immediate]
    have state := loweringBegun_state p cause .venting none true quiet a
    refine lowered_of_begun (loweringBegun_lowered p cause .venting none true quiet a (by simp) h) state ?_
    split
    · refine ((vents _).trans (requestMbOpen_lowered p .pan _)).trans (testContact_lowered p quiet _ ?_)
      rwa [panOf, requestMbOpen_pans, presentVent_pans]
    · refine (vents _).trans (testContact_lowered p quiet _ ?_)
      rwa [panOf, presentVent_pans]

theorem joinLowering_lowered (p : Pan) (cause : LowerCause) (kind : CauseKind) (quiet : Bool) (a : Act)
    (h : (panOf a.s p).state = .lowering) : Lowered p a (joinLowering p cause kind quiet a) := by
  have joined : Lowered p a
      (a.modPan p fun r => { r with causes := if r.causes.contains cause then r.causes else r.causes ++ [cause] }) := by
    refine modPan_lowered p _ a ?_ rfl rfl
    simp [PanRecord.inOrder_of_lowering, h]
  have state : (panOf (a.modPan p fun r =>
      { r with causes := if r.causes.contains cause then r.causes else r.causes ++ [cause] }).s p).state = .lowering := by
    simpa [panOf] using h
  unfold joinLowering
  dsimp only
  split
  · exact joined
  · split
    · exact joined.trans (leaveAwaitMb_lowered p true quiet _ state)
    · refine joined.trans (modPan_lowered p _ _ ?_ rfl rfl)
      simp only [PanRecord.inOrder_of_lowering, state]
      exact id

/-- R52: a lower cause lowers its pantograph, and leaves it raised in no case. -/
theorem lowerPan_lowers (p : Pan) (cause : LowerCause) (kind : CauseKind) (quiet : Bool) (a : Act) :
    Lowered p a (lowerPan p cause kind quiet a).1 ∧ (panOf (lowerPan p cause kind quiet a).1.s p).raised = false := by
  have still : (panOf a.s p).raised = false → Lowered p a a ∧ (panOf a.s p).raised = false := fun down => ⟨.refl p a, down⟩
  unfold lowerPan
  split <;> rename_i state
  · exact beginLowering_lowers p cause kind quiet a (by simp [PanRecord.raised, state])
  · exact beginLowering_lowers p cause kind quiet a (by simp [PanRecord.raised, state])
  · have joined := joinLowering_lowered p cause kind quiet a state
    refine ⟨joined, Bool.eq_false_iff.2 fun up => ?_⟩
    simpa [PanRecord.raised, state] using joined.raised up
  · exact still (by simp [PanRecord.raised, state])
  · exact still (by simp [PanRecord.raised, state])

theorem lowerPan_lowered (p : Pan) (cause : LowerCause) (kind : CauseKind) (quiet : Bool) (a : Act) :
    Lowered p a (lowerPan p cause kind quiet a).1 := (lowerPan_lowers p cause kind quiet a).1

theorem lowerPan_still (p : Pan) (cause : LowerCause) (kind : CauseKind) (quiet : Bool) (a : Act) :
    Still a (lowerPan p cause kind quiet a).1 := (lowerPan_lowered p cause kind quiet a).toStill

theorem lowerPan_told (p : Pan) (cause : LowerCause) (kind : CauseKind) (quiet : Bool) (a : Act) :
    Told 0 a (lowerPan p cause kind quiet a).1 := (lowerPan_lowered p cause kind quiet a).told

/-- R52: a cause that names both leaves none raised. -/
theorem lowerBoth_lowers (cause : LowerCause) (kind : CauseKind) (a : Act) :
    Told 0 a (lowerBoth cause kind a).1 ∧ ∀ p, (panOf (lowerBoth cause kind a).1.s p).raised = false := by
  obtain ⟨first, downA⟩ := lowerPan_lowers .a cause kind false a
  obtain ⟨second, downB⟩ := lowerPan_lowers .b cause kind false (lowerPan .a cause kind false a).1
  refine ⟨first.told.trans second.told, fun p => ?_⟩
  cases p with
  | a => exact (congrArg PanRecord.raised second.other).trans downA
  | b => exact downB

theorem lowerBoth_told (cause : LowerCause) (kind : CauseKind) (a : Act) : Told 0 a (lowerBoth cause kind a).1 :=
  (lowerBoth_lowers cause kind a).1

end Sys2Proof.Machine


namespace Sys2Proof.Machine

/-! ## Raising a pantograph (R44 to R46) -/

/-- R44: what passes the first four checks. -/
theorem raiseRefusal_none_iff (s : State) (p : Pan) (role : PanRole) (profile : Nat) :
    raiseRefusal s p role profile = none ↔ s.vl.mode = .run ∧ profileRecord s profile ≠ none
      ∧ rolePresent s (panRole p) = true ∧ (panOf s p).state = .down := by
  unfold raiseRefusal
  dsimp only
  by_cases run : s.vl.mode = .run
  · cases record : profileRecord s profile with
    | none => simp [run]
    | some pr =>
      cases present : rolePresent s (panRole p) with
      | false => simp [run]
      | true => cases state : (panOf s p).state <;> simp [run] <;> split <;> simp
  · simp [run]

/-- R45: the other pantograph collects, so that this one may not be raised to collect. -/
def otherCollects (s : State) (p : Pan) : Prop :=
  (panOf s (otherPan p)).raised = true ∧ (panOf s (otherPan p)).role = some .collect

/-- R45: what passes the raise interlocks. -/
theorem raiseClauses_none_iff (s : State) (p : Pan) (role : PanRole) :
    firstFailed (raiseClauses s p role) = none ↔ functionActive s .roofAccess = false ∧ s.sg.es.reported = .opened
      ∧ ¬ (role = .collect ∧ otherCollects s p)
      ∧ (devOf s (isoOf p)).reported = (if role = .collect then .closed else .opened) := by
  have passes (f : Failed) (b : Bool) (rest : List (Failed × Bool)) :
      firstFailed ((f, b) :: rest) = none ↔ b = true ∧ firstFailed rest = none := by cases b <;> simp [firstFailed]
  have single : (role == .scrape || !((panOf s (otherPan p)).raised && (panOf s (otherPan p)).role == some .collect)) = true ↔
      ¬ (role = .collect ∧ otherCollects s p) := by
    cases role <;> simp [otherCollects, ← Bool.not_eq_true, imp_iff_not_or]
  simp only [raiseClauses, passes, single]
  simp [firstFailed]

/-- R46: the Pan Record of a raise is in order. -/
theorem raisedRecord_inOrder (r : PanRecord) (role : PanRole) (pr : ProfileRecord) (first : Stage) (o : Origin) (now : Nat)
    (h : r.state = .down) (order : r.InOrder) : (raisedRecord r role pr first o now).InOrder := by
  have fields := order
  simp only [PanRecord.InOrder, PanRecord.raised, h] at fields
  simp [PanRecord.InOrder, PanRecord.raised, raisedRecord]
  simp at fields
  tauto

/-- R46: the raise is taken, and the strip switch not yet read. -/
def raiseTaken (p : Pan) (role : PanRole) (pr : ProfileRecord) (first : Stage) (o : Origin) (a : Act) : Act :=
  { s := ({ a.s with pans := a.s.pans.set p (raisedRecord (panOf a.s p) role pr first o a.s.now) }).reported
      (.panState p .raising .down (some role) none (panOf a.s p).latch)
    notes := a.notes ++ panNotes p .raising none false }

/-- R46, R59: a raise that is taken is lowered at once where the strip switch is active. -/
theorem takeRaise_eq (p : Pan) (role : PanRole) (pr : ProfileRecord) (first : Stage) (o : Origin) (a : Act) :
    takeRaise p role pr first o a = if stripActive a.s p
      then (lowerPan p .strip .immediate false (raiseTaken p role pr first o a)).1 else raiseTaken p role pr first o a := by
  have taken : changedPan p .down none false (a.modPan p fun r => raisedRecord r role pr first o a.s.now) =
      raiseTaken p role pr first o a := by cases p <;> rfl
  rw [← taken]
  rfl

/-- R45, R46: a raise is taken in RUN, of a pantograph that is DOWN, and not beside another that collects. -/
theorem raiseTaken_still (p : Pan) (role : PanRole) (pr : ProfileRecord) (first : Stage) (o : Origin) (a : Act)
    (run : a.s.vl.mode = .run) (down : (panOf a.s p).state = .down) (single : ¬ (role = .collect ∧ otherCollects a.s p)) :
    Still a (raiseTaken p role pr first o a) := by
  have one : panOf (raiseTaken p role pr first o a).s p = raisedRecord (panOf a.s p) role pr first o a.s.now := by
    simp [raiseTaken, panOf, State.reported]
  have other : panOf (raiseTaken p role pr first o a).s (otherPan p) = panOf a.s (otherPan p) := by
    simp [raiseTaken, panOf, State.reported]
  have standby : a.s.vl.mode ≠ .standby := by simp [run]
  refine ⟨⟨⟨rfl, ?_, ?_, fun h => absurd h standby⟩, fun _ _ => List.mem_append_left _, fun h => absurd h standby⟩, rfl⟩
  · rw [pansInOrder_iff _ p, pansInOrder_iff _ p, one, other]
    exact And.imp_left (raisedRecord_inOrder _ role pr first o a.s.now down)
  · rw [oneCollector_iff _ p, oneCollector_iff _ p, one, other]
    rintro - ⟨⟨-, collect⟩, second⟩
    exact single ⟨Option.some.inj collect, second⟩

theorem takeRaise_still (p : Pan) (role : PanRole) (pr : ProfileRecord) (first : Stage) (o : Origin) (a : Act)
    (run : a.s.vl.mode = .run) (down : (panOf a.s p).state = .down) (single : ¬ (role = .collect ∧ otherCollects a.s p)) :
    Still a (takeRaise p role pr first o a) := by
  have taken := raiseTaken_still p role pr first o a run down single
  rw [takeRaise_eq]
  split
  · exact taken.trans (lowerPan_still p .strip .immediate false _)
  · exact taken

theorem raisePan_still (p : Pan) (role : PanRole) (profile : Nat) (o : Origin) (a : Act) :
    Still a (raisePan p role profile o a).1 := by
  unfold raisePan
  split
  · exact .refl a
  · rename_i checked
    split
    · exact .refl a
    · rename_i passed
      split
      · exact .refl a
      · obtain ⟨run, -, -, down⟩ := (raiseRefusal_none_iff _ _ _ _).1 checked
        obtain ⟨-, -, single, -⟩ := (raiseClauses_none_iff _ _ _).1 passed
        have taken (b : Act) (h : Aside a b) (pr : ProfileRecord) (first : Stage) : Still a (takeRaise p role pr first o b) := by
          refine h.still.trans (takeRaise_still p role pr first o b (h.mode.trans run) ?_ ?_)
          · rwa [panOf, h.pans]
          · rwa [otherCollects, panOf, h.pans]
        dsimp only
        split <;> rename_i e
        · exact (present_eq_aside e).still
        · exact taken _ (present_eq_aside e) _ _
        · exact taken _ (present_eq_aside e) _ _

/-! ## Hold pressure, heads and contacts (R47 to R51, R57 to R64) -/

theorem presentHold_lowered (p : Pan) (pressure : Nat) (a : Act) : Lowered p a (presentHold p pressure a) := by
  have held (b : Act) : Lowered p b (b.modPan p fun r => { r with lastHold := some pressure }) := modPan_lowered p _ b id rfl rfl
  unfold presentHold
  split <;> rename_i e <;> have presented := (present_eq_aside e).lowered p
  · exact presented
  · exact presented.trans (held _)
  · exact presented.trans (held _)

theorem updateHold_lowered (p : Pan) (a : Act) : Lowered p a (updateHold p a) := by
  unfold updateHold
  dsimp only
  split
  · split
    · exact presentHold_lowered p _ a
    · exact .refl p a
  · exact .refl p a

theorem panHeadLost_lowered (p : Pan) (a : Act) : Lowered p a (panHeadLost p a) :=
  (modPan_lowered p _ a id rfl rfl).trans (lowerPan_lowered p .headLost .immediate false _)

theorem panStatus_lowered (p : Pan) (payload : List Byte) (a : Act) : Lowered p a (panStatus p payload a) := by
  have measured : Lowered p a
      (a.modPan p fun r => { r with measured := some (statusPressure payload), headFault := statusFault payload }) :=
    modPan_lowered p _ a id rfl rfl
  unfold panStatus
  dsimp only
  split
  · exact measured.trans (lowerPan_lowered p .protect .immediate false _)
  · exact measured

/-- R47, R48: a RAISING pantograph passes to its next stage, or is lowered. -/
theorem nextStage_lowered (p : Pan) (a : Act) : Lowered p a (nextStage p a) := by
  unfold nextStage
  dsimp only
  split
  · rename_i k pr raising stage record
    have staged (n : Nat) (deadline : Option Nat) (b : Act) (h : (panOf b.s p).state = .raising) :
        Lowered p b (b.modPan p fun r => { r with stage := some n, stageDeadline := deadline }) := by
      refine modPan_lowered p _ b ?_ rfl rfl
      simp +contextual [PanRecord.InOrder, PanRecord.raised, h]
    have started (deadline : Nat) (b : Act) (h : (panOf b.s p).state = .raising) :
        Lowered p b (b.modPan p fun r => { r with stageDeadline := some deadline }) := by
      refine modPan_lowered p _ b ?_ rfl rfl
      simp +contextual [PanRecord.InOrder, PanRecord.raised, h]
    split
    · exact staged _ none a raising
    · have waiting := staged (k + 1) none a raising
      have state : (panOf (a.modPan p fun r => { r with stage := some (k + 1), stageDeadline := none }).s p).state = .raising := by
        simpa [panOf] using raising
      split <;> rename_i e <;> have presented := present_eq_aside e
      · exact (waiting.trans (presented.lowered p)).trans (lowerPan_lowered p .protect .immediate false _)
      · refine (waiting.trans (presented.lowered p)).trans (started _ _ ?_)
        rwa [panOf, presented.pans]
      · refine (waiting.trans (presented.lowered p)).trans (started _ _ ?_)
        rwa [panOf, presented.pans]
  · exact .refl p a

theorem raiseTimeout_lowered (p : Pan) (a : Act) : Lowered p a (raiseTimeout p a) := by
  unfold raiseTimeout
  split
  · exact lowerPan_lowered p .raiseTimeout .immediate false a
  · exact .refl p a

/-- 03, The Pan Records: a phase stands in LOWERING alone. -/
theorem lowering_of_phase {r : PanRecord} (order : r.InOrder) (phase : LowerPhase) (h : r.phase = some phase) :
    r.state = .lowering := by
  obtain ⟨-, -, -, -, -, -, -, lowering, -⟩ := order
  exact lowering.1 (by simp [h])

theorem ventGuardOver_lowered (p : Pan) (a : Act) (order : PansInOrder a.s) : Lowered p a (ventGuardOver p a) := by
  unfold ventGuardOver
  split
  · rename_i awaiting
    exact leaveAwaitMb_lowered p false false a (lowering_of_phase (order p) _ awaiting)
  · exact .refl p a

theorem endAtDeadline_lowered (p : Pan) (a : Act) : Lowered p a (endAtDeadline p a) := by
  unfold endAtDeadline
  dsimp only
  split
  · rename_i lowering
    split
    · refine ((presentVent_aside p a).lowered p).trans (finishLowering_lowered p _ true false _ ?_)
      rwa [panOf, presentVent_pans]
    · exact finishLowering_lowered p _ true false a lowering
  · exact .refl p a

theorem changedPan_kept (p : Pan) (previous : PanState) (causes : Option (LowerCause × List LowerCause)) (quiet : Bool) (a : Act) :
    PansKept a.s (changedPan p previous causes quiet a).s := by
  rw [changedPan_eq]
  exact .of_pans rfl rfl

/-- R49: the UP contact makes a RAISING pantograph UP, in the same role. -/
theorem upContactOn_kept (p : Pan) (a : Act) : PansKept a.s (upContactOn p a).s := by
  unfold upContactOn
  dsimp only
  split
  · rename_i raising
    have up : PansKept a.s
        (a.modPan p fun r => { r with state := .up, stage := none, stageDeadline := none, raiseDeadline := none }).s := by
      refine .of_set p { panOf a.s p with state := .up, stage := none, stageDeadline := none, raiseDeadline := none } rfl rfl ?_
        fun _ => ⟨by simp [PanRecord.raised, raising], rfl⟩
      simp +contextual [PanRecord.InOrder, PanRecord.raised, raising]
    have told := up.trans (changedPan_kept p .raising none false _)
    split
    · exact told.trans (presentHold_lowered p _ _).told.kept
    · exact told
  · exact .refl _

theorem upContactOff_lowered (p : Pan) (a : Act) : Lowered p a (upContactOff p a) := by
  unfold upContactOff
  split
  · exact lowerPan_lowered p .drop .immediate false a
  · exact .refl p a

theorem downContactOn_lowered (p : Pan) (a : Act) : Lowered p a (downContactOn p a) := by
  unfold downContactOn
  split
  · rename_i lowering
    exact endAtContact_lowered p false a lowering
  · exact .refl p a

/-- R64: a FAULT that is cleared leaves the pantograph DOWN. -/
theorem clearFault_kept (p : Pan) (a : Act) : PansKept a.s (clearFault p a).1.s := by
  unfold clearFault
  split
  · rename_i fault
    split
    · refine .trans ?_ (changedPan_kept p .fault none false _)
      refine .of_set p { panOf a.s p with state := .down, latch := none, vent := false } rfl rfl ?_
        fun h => by simp [PanRecord.raised] at h
      simp +contextual [PanRecord.InOrder, PanRecord.raised, fault]
    · exact .refl _
  · exact .refl _

/-- R49, R57, R59, R62: each function reaches the pantographs as its contact does. -/
theorem functionChange_kept (f : InputFunction) (active : Bool) (a : Act) : PansKept a.s (functionChange f active a).s := by
  have contact (p : Pan) : PansKept a.s (if active then upContactOn p a else upContactOff p a).s := by
    split
    · exact upContactOn_kept p a
    · exact (upContactOff_lowered p a).told.kept
  have down (p : Pan) : PansKept a.s (if active then downContactOn p a else a).s := by
    split
    · exact (downContactOn_lowered p a).told.kept
    · exact .refl _
  have strip (p : Pan) : PansKept a.s (if active then stripOn p a else a).s := by
    split
    · exact (lowerPan_told p .strip .immediate false a).kept
    · exact .refl _
  cases f with
  | panAUp => exact contact .a
  | panBUp => exact contact .b
  | panADown => exact down .a
  | panBDown => exact down .b
  | stripA => exact strip .a
  | stripB => exact strip .b
  | roofAccess =>
    change PansKept a.s (if active then roofAccessOn a else a).s
    split
    · exact (lowerBoth_told .roofAccess .immediate a).kept
    · exact .refl _
  | marker0 => exact .refl _
  | marker1 => exact .refl _
  | general => exact .refl _

end Sys2Proof.Machine

namespace Sys2Proof.Machine

/-! ## Switchgear (04) and hold slots (06) -/

theorem assertTrip_aside (a : Act) : Aside a (assertTrip a) :=
  ⟨rfl, funext fun d => by cases d <;> rfl, rfl, rfl, rfl⟩

theorem evaluateTrip_aside (a : Act) : Aside a (evaluateTrip a) := by
  unfold evaluateTrip
  split
  · exact ⟨rfl, funext fun d => by cases d <;> rfl, rfl, rfl, rfl⟩
  · exact .refl a

theorem Switchgear.rank_le (g : Switchgear) : g.rank ≤ 10 := by
  have two (d : Dev) (e : Device) : moveRank d e ≤ 2 := by
    unfold moveRank
    split <;> [skip; split] <;> omega
  have mb := two .mb g.mb
  have ss := two .ss g.ss
  have isoA := two .isoA g.isoA
  have isoB := two .isoB g.isoB
  have es := two .es g.es
  simp only [Switchgear.rank, devsInOrder, Switchgear.get, List.map_cons, List.map_nil, List.sum_cons, List.sum_nil]
  omega

/-- R77: the loss of the head ends every move in flight, and its note's weight pays for those that may begin anew. -/
theorem switchgearLost_told (a : Act) : Told 56 a (switchgearLost a) where
  kept := .of_pans rfl rfl
  waits _ _ := List.mem_append_left _
  paid _ _ := by
    have rank := (switchgearLost a).s.sg.rank_le
    have told : weights (switchgearLost a).notes ≤ weights a.notes + 6 := by
      unfold switchgearLost Act.tellSwitchgear
      rw [Act.notify_notes, weights_append, placeReport_notes]
      exact Nat.add_le_add_left (by split <;> decide) _
    change weights (switchgearLost a).notes + 3 * (a.s.pans.a.rank + a.s.pans.b.rank) + 5 * (switchgearLost a).s.sg.rank
      + 2 * a.s.co.step.rank ≤ _
    simp only [Act.load]
    omega

/-- R107: an admitted MOVE begins where its device may begin one. -/
theorem sendVehicle_told (c : Command) (a : Act) (h : ∀ d target, c.content = .move d target → moveCheck a.s d target = .free) :
    Told 0 a (sendVehicle c a) := by
  have delivered := deliver_aside c a
  unfold sendVehicle
  split <;> rename_i e <;> rw [e] at delivered
  · exact delivered.told
  · split <;> rename_i content
    · exact delivered.told.trans (beginMove_told _ _ _ _ ((moveCheck_of_aside delivered _ _).trans (h _ _ content)))
    all_goals exact delivered.told

theorem reportGate_aside (c : Command) (o : GateOutcome) (f l : Option Failed) (j : Bool) (a : Act) :
    Aside a (reportGate c o f l j a) := placeReport_aside _ a

theorem admitHeld_told (c : Command) (a : Act) : Told 0 a (admitHeld c a) := by
  have reported := reportGate_aside c .admitted none none false a
  have sent (h : ∀ d target, c.content ≠ .move d target) : Told 0 a (sendVehicle c (reportGate c .admitted none none false a)) :=
    reported.told.trans (sendVehicle_told c _ fun d target e => absurd e (h d target))
  unfold admitHeld
  split <;> rename_i content
  · split
    · rename_i free
      refine reported.told.trans (sendVehicle_told c _ fun d target e => ?_)
      obtain ⟨rfl, rfl⟩ := Content.move.inj (content.symm.trans e)
      exact (moveCheck_of_aside reported _ _).trans free
    · exact (reportGate_aside _ _ _ _ _ a).told
    · exact (refuse_aside _ _ a).told
  all_goals exact sent fun d target e => by simp [content] at e

theorem Told.foldl {β : Type} (f : Act → β → Act) (h : ∀ a x, Told 0 a (f a x)) (l : List β) (a : Act) :
    Told 0 a (l.foldl f a) := by
  induction l generalizing a with
  | nil => exact .refl a
  | cons x l ih => exact (h a x).trans (ih _)

theorem Still.foldl {β : Type} (f : Act → β → Act) (h : ∀ a x, Still a (f a x)) (l : List β) (a : Act) :
    Still a (l.foldl f a) := by
  induction l generalizing a with
  | nil => exact .refl a
  | cons x l ih => exact (h a x).trans (ih _)

theorem reviewSlot_told (a : Act) (role : Role) : Told 0 a (reviewSlot a role) := by
  have emptied (h : Option Held) : Aside a (a.setHold role h) := ⟨rfl, rfl, rfl, rfl, rfl⟩
  unfold reviewSlot
  split
  · exact .refl a
  · split
    · split
      · exact (emptied _).told
      · exact (emptied none).told.trans (admitHeld_told _ _)
    · exact .refl a

theorem reviewHolds_told (a : Act) : Told 0 a (reviewHolds a) := .foldl reviewSlot reviewSlot_told _ a

theorem dropHold_aside (role : Role) (f : Failed) (l : Held → Option Failed) (a : Act) : Aside a (dropHold role f l a) := by
  unfold dropHold
  split <;> exact ⟨rfl, rfl, rfl, rfl, rfl⟩

/-! ## Line Monitor (02) -/

theorem raiseDemand_told (c : TripCause) (a : Act) : Told 0 a (raiseDemand c a) := by
  have tripped (b : Act) : Aside b (if c = .over then assertTrip b else b) := by
    split
    · exact assertTrip_aside b
    · exact .refl b
  exact (placeReport_aside _ a).told.trans ((tripped _).told.trans (requestMbOpen_still .protection _).told)

/-- R31: a new confirmed state is told to five readers. -/
theorem setConfirmed_told (new : LineState) (cause : LineCause) (a : Act) : Told 5 a (setConfirmed new cause a) := by
  have changed : Told 5 a (lineChanged new cause a) :=
    (Aside.told ⟨rfl, rfl, rfl, rfl, rfl⟩ : Told 0 a { lineChanged new cause a with notes := a.notes }).trans
      (.notify [.tripRelease, .coLine, .iceEvaluate .other, .iceAllocate, .gateReview] _)
  by_cases same : a.s.lm.confirmed = new
  · rw [setConfirmed_of_same new cause a same]
    exact (Told.refl a).slack (Nat.zero_le _)
  · cases demand : tripCause a.s new with
    | none =>
      rw [setConfirmed_of_quiet new cause a same demand]
      exact changed
    | some c =>
      rw [setConfirmed_of_demand new cause a c same demand]
      exact changed.trans (raiseDemand_told c _)

theorem modLm_aside (f : LineMonitor → LineMonitor) (a : Act) : Aside a (a.modLm f) := ⟨rfl, rfl, rfl, rfl, rfl⟩

theorem persist_told (w : WindowClass) (a : Act) : Told 5 a (persist w a) := by
  unfold persist
  split
  · exact (modLm_aside _ a).told.slack (Nat.zero_le _)
  · split
    · exact (modLm_aside _ a).told.trans (setConfirmed_told _ _ _)
    · exact (modLm_aside _ a).told.slack (Nat.zero_le _)

theorem closeWindow_told (a : Act) : Told 6 a (closeWindow a) :=
  ((modLm_aside _ a).told.trans (persist_told _ _)).trans
    (((modLm_aside _ _).trans (modLm_aside _ _)).told.trans (.notify [.iceAllocate] _))

theorem joinWindow_told (samples : List Int) (current : Nat) (a : Act) : Told 6 a (joinWindow samples current a) := by
  unfold joinWindow
  dsimp only
  split
  · exact (modLm_aside _ a).told.trans (closeWindow_told _)
  · exact (modLm_aside _ a).told.slack (Nat.zero_le _)

theorem lineLost_told (a : Act) : Told 5 a (lineLost a) := (modLm_aside _ a).told.trans (setConfirmed_told _ _ _)

end Sys2Proof.Machine


namespace Sys2Proof.Machine

/-! ## Changeover (08) -/

/-- The Changeover Record may change within its step. -/
theorem modCo_aside (f : Changeover → Changeover) (a : Act) (step : (f a.s.co).step = a.s.co.step) :
    Aside a (a.modCo f) := ⟨rfl, rfl, step, rfl, rfl⟩

theorem reportStep_aside (left : CoStep) (passed : List CoStep) (a : Act) : Aside a (reportStep left passed a) :=
  placeReport_aside _ a

theorem reportResult_aside (result : CoResult) (reason : Option AbortReason) (a : Act) :
    Aside a (reportResult result reason a) := placeReport_aside _ a

/-- R137: a step that lies below the one left pays for what its change tells. -/
theorem toStep_told (step : CoStep) (a : Act) (h : a.s.vl.mode = .standby → step.rank < a.s.co.step.rank) :
    Told 0 a (toStep step a) where
  kept := .of_pans rfl rfl
  waits _ _ := List.mem_append_left _
  paid standby _ := by
    have below := h standby
    have told : weights (toStep step a).notes = weights a.notes + 2 := by
      unfold toStep Act.tellStep
      rw [Act.notify_notes, weights_append]
      rfl
    change weights (toStep step a).notes + 3 * (a.s.pans.a.rank + a.s.pans.b.rank) + 5 * a.s.sg.rank + 2 * step.rank ≤ _
    simp only [Act.load]
    omega

@[simp] theorem toStep_step (step : CoStep) (a : Act) : (toStep step a).s.co.step = step := rfl

theorem endChangeover_told (result : CoResult) (reason : Option AbortReason) (left : CoStep) (passed : List CoStep) (a : Act)
    (h : a.s.vl.mode = .standby → 0 < a.s.co.step.rank) : Told 0 a (endChangeover result reason left passed a) := by
  have ended := modCo_aside (fun c => { c with usable := none, lastResult := some result }) a rfl
  have left := ended.told.trans (toStep_told .idle _ h)
  exact left.trans ((reportResult_aside _ _ _).trans (reportStep_aside _ _ _)).told

theorem finishAbort_told (left : CoStep) (passed : List CoStep) (a : Act) (h : a.s.vl.mode = .standby → 0 < a.s.co.step.rank) :
    Told 0 a (finishAbort left passed a) := endChangeover_told _ _ left passed a h

theorem abortRaise_still (a : Act) (p : Pan) : Still a (abortRaise a p) := by
  unfold abortRaise
  split
  · exact (lowerPan_still p .changeover .orderly true a).trans (modCo_aside _ _ rfl).still
  · exact .refl a

theorem abortOpen_still (a : Act) : Still a (abortOpen a) := by
  unfold abortOpen
  split
  · exact .refl a
  · exact (requestMbOpen_still .sequencer a).trans (modCo_aside _ _ rfl).still

theorem abortWrongPan_still (reason : AbortReason) (a : Act) : Still a (abortWrongPan reason a) := by
  unfold abortWrongPan
  split
  · exact lowerPan_still _ .changeover .orderly true a
  · exact .refl a

/-- R150: an abort may be taken in any step that lies above ABORTING. -/
theorem abort_told (reason : AbortReason) (detail : Option AbortDetail) (left : CoStep) (passed : List CoStep) (a : Act)
    (h : a.s.vl.mode = .standby → CoStep.rank .aborting < a.s.co.step.rank) : Told 0 a (abort reason detail left passed a) := by
  unfold abort
  extract_lets at' begun acted
  have entered : Told 0 a begun :=
    (modCo_aside (fun c => { c with abortReason := some reason, detail, abortStep := some at', usable := none }) a rfl).told.trans
      (toStep_told .aborting _ h)
  have asked : Still begun acted :=
    ((abortWrongPan_still reason begun).trans (abortOpen_still _)).trans (.foldl abortRaise abortRaise_still pansInOrder _)
  have done := entered.trans asked.told
  split
  · exact done.trans (finishAbort_told _ _ _ fun _ => by rw [asked.step]; exact Nat.one_pos)
  · exact done.trans (reportStep_aside _ _ _).told

theorem rank_of_inProgress {s : State} (h : inProgress s = true) : CoStep.rank .aborting < s.co.step.rank := by
  unfold inProgress at h
  cases step : s.co.step <;> simp_all [CoStep.rank]

theorem abortOnEvent_told (reason : AbortReason) (a : Act) : Told 0 a (abortOnEvent reason a) := by
  unfold abortOnEvent
  split
  · rename_i progress
    exact abort_told reason none _ [] a fun _ => rank_of_inProgress progress
  · exact .refl a

theorem seqMove_still (d : Dev) (target : Pos) (a : Act) : Still a (seqMove d target a).1 := by
  have requested := moveRequest_still d target .sequencer a
  unfold seqMove
  split
  rename_i e
  rw [e] at requested
  split
  · exact requested
  · exact requested.trans (modCo_aside (fun c => { c with requested := c.requested ++ [(d, target)] }) _ rfl).still

/-- R147. -/
theorem enterClosing_told (left : CoStep) (passed : List CoStep) (a : Act)
    (h : a.s.vl.mode = .standby → CoStep.rank .closing < a.s.co.step.rank) : Told 0 a (enterClosing left passed a) := by
  have entered := toStep_told .closing a h
  have moved := seqMove_still .mb .closed (toStep .closing a)
  unfold enterClosing
  split <;> rename_i e <;> rw [e] at moved <;> have done := entered.trans moved.told
  · exact done.trans (abort_told _ _ _ _ _ fun _ => by rw [moved.step, toStep_step]; decide)
  · split
    · exact done.trans (endChangeover_told _ _ _ _ _ fun _ => by rw [moved.step, toStep_step]; decide)
    · exact done.trans (reportStep_aside _ _ _).told

/-- R146. -/
theorem enterVerifying_told (left : CoStep) (passed : List CoStep) (a : Act)
    (h : a.s.vl.mode = .standby → CoStep.rank .verifying < a.s.co.step.rank) : Told 0 a (enterVerifying left passed a) := by
  unfold enterVerifying
  extract_lets deadline entered
  have done : Told 0 a entered := (toStep_told .verifying a h).trans
    (modCo_aside (fun c => { c with verifyDeadline := some deadline }) _ rfl).told
  split
  · exact done.trans (reportStep_aside _ _ _).told
  · exact done.trans (enterClosing_told _ _ _ fun _ => Nat.lt_add_one _)
  · exact done.trans (abort_told _ _ _ _ _ fun _ => Nat.lt_add_of_pos_right Nat.two_pos)

theorem testVerifying_told (a : Act) : Told 0 a (testVerifying a) := by
  unfold testVerifying
  split
  · rename_i step
    split
    · exact .refl a
    · exact enterClosing_told _ _ a fun _ => by rw [step]; decide
    · exact abort_told _ _ _ _ a fun _ => by rw [step]; decide
  · exact .refl a

/-- R145. -/
theorem enterRaisingNew_told (left : CoStep) (passed : List CoStep) (a : Act)
    (h : a.s.vl.mode = .standby → CoStep.rank .raisingNew < a.s.co.step.rank) : Told 0 a (enterRaisingNew left passed a) := by
  have entered := toStep_told .raisingNew a h
  unfold enterRaisingNew
  dsimp only
  split
  · rename_i r p _ _
    have raised := raisePan_still p .collect r.raiseProfile .sequencer (toStep .raisingNew a)
    have done := entered.trans raised.told
    split
    · exact done.trans (abort_told _ _ _ _ _ fun _ => by rw [raised.step, toStep_step]; decide)
    · split
      · exact done.trans (enterVerifying_told _ _ _ fun _ => by rw [raised.step, toStep_step]; decide)
      · exact done.trans (reportStep_aside _ _ _).told
  · exact entered.trans (abort_told _ _ _ _ _ fun _ => by rw [toStep_step]; decide)

/-- R142. -/
theorem enterAwaitRaise_told (left : CoStep) (passed : List CoStep) (a : Act)
    (h : a.s.vl.mode = .standby → CoStep.rank .awaitRaise < a.s.co.step.rank) : Told 0 a (enterAwaitRaise left passed a) := by
  have entered := toStep_told .awaitRaise a h
  unfold enterAwaitRaise
  dsimp only
  split
  · exact entered.trans (enterRaisingNew_told _ _ _ fun _ => Nat.lt_add_one _)
  · exact entered.trans ((modCo_aside _ _ rfl).trans (reportStep_aside _ _ _)).told

theorem testAwaitRaise_told (a : Act) : Told 0 a (testAwaitRaise a) := by
  unfold testAwaitRaise
  split
  · rename_i step
    split
    · exact enterRaisingNew_told _ _ a fun _ => by rw [step]; decide
    · exact (modCo_aside _ a rfl).told
  · exact .refl a

/-- R141. -/
theorem leaveSelecting_told (left : CoStep) (passed : List CoStep) (a : Act)
    (h : a.s.vl.mode = .standby → CoStep.rank .awaitRaise < a.s.co.step.rank) : Told 0 a (leaveSelecting left passed a) := by
  unfold leaveSelecting
  split
  · exact enterVerifying_told _ _ a fun standby => lt_trans (by decide) (h standby)
  · exact enterAwaitRaise_told _ _ a h

theorem askMoves_still (moves : List (Dev × Pos)) (a : Act) : Still a (askMoves moves a).1 := by
  induction moves generalizing a with
  | nil => exact .refl a
  | cons m rest ih =>
    obtain ⟨d, target⟩ := m
    have asked := seqMove_still d target a
    unfold askMoves
    split
    · exact ih a
    · split <;> rename_i e <;> rw [e] at asked
      · exact asked
      · exact asked.trans (ih _)

theorem enterSelecting_told (left : CoStep) (passed : List CoStep) (a : Act)
    (h : a.s.vl.mode = .standby → CoStep.rank .selecting < a.s.co.step.rank) : Told 0 a (enterSelecting left passed a) := by
  have entered := toStep_told .selecting a h
  unfold enterSelecting
  dsimp only
  split
  · exact entered.trans (abort_told _ _ _ _ _ fun _ => by rw [toStep_step]; decide)
  · rename_i r _
    have asked := askMoves_still (selectingGoals (toStep .selecting a).s r) (toStep .selecting a)
    split <;> rename_i e <;> rw [e] at asked <;> have done := entered.trans asked.told
    · exact done.trans (abort_told _ _ _ _ _ fun _ => by rw [asked.step, toStep_step]; decide)
    · split
      · exact done.trans (leaveSelecting_told _ _ _ fun _ => by rw [asked.step, toStep_step]; decide)
      · exact done.trans (reportStep_aside _ _ _).told

theorem lowerOld_still (kept : Option Pan) (a : Act) (p : Pan) : Still a (lowerOld kept a p) := by
  unfold lowerOld
  split
  · exact lowerPan_still p .changeover .orderly true a
  · exact .refl a

/-- R140. -/
theorem enterLoweringOld_told (left : CoStep) (passed : List CoStep) (a : Act)
    (h : a.s.vl.mode = .standby → CoStep.rank .loweringOld < a.s.co.step.rank) : Told 0 a (enterLoweringOld left passed a) := by
  have entered := toStep_told .loweringOld a h
  unfold enterLoweringOld
  extract_lets old
  split
  · exact entered.trans (abort_told _ _ _ _ _ fun _ => by rw [toStep_step]; decide)
  · rename_i r _
    extract_lets kept new named lowered awaited waiting
    have done : Still (toStep .loweringOld a) waiting :=
      ((modCo_aside _ _ rfl).still.trans (.foldl _ (lowerOld_still kept) pansInOrder named)).trans (modCo_aside _ _ rfl).still
    split
    · exact entered.trans (done.told.trans (enterSelecting_told _ _ _ fun _ => by rw [done.step, toStep_step]; decide))
    · exact entered.trans (done.told.trans (reportStep_aside _ _ _).told)

/-- R139. -/
theorem enterOpening_told (left : CoStep) (passed : List CoStep) (a : Act)
    (h : a.s.vl.mode = .standby → CoStep.rank .opening < a.s.co.step.rank) : Told 0 a (enterOpening left passed a) := by
  have entered := toStep_told .opening a h
  have moved := seqMove_still .mb .opened (toStep .opening a)
  unfold enterOpening
  dsimp only
  split
  · exact entered.trans (enterLoweringOld_told _ _ _ fun _ => Nat.lt_add_one _)
  · split <;> rename_i e <;> rw [e] at moved <;> have done := entered.trans moved.told
    · exact done.trans (abort_told _ _ _ _ _ fun _ => by rw [moved.step, toStep_step]; decide)
    · split
      · exact done.trans (enterLoweringOld_told _ _ _ fun _ => by rw [moved.step, toStep_step]; decide)
      · exact done.trans (reportStep_aside _ _ _).told

/-- R139, R141, R147, R148, R151: each step at a change of the Switchgear Record. -/
theorem coSwitch_told (a : Act) : Told 0 a (coSwitch a) := by
  have closed (step : CoStep) (h : CoStep.rank .aborting < a.s.co.step.rank) :
      Told 0 a (if mbEngaged a.s then abort .mbClosed none step [] a else a) := by
    split
    · exact abort_told _ _ _ _ a fun _ => h
    · exact .refl a
  unfold coSwitch
  split <;> rename_i step
  case h_1 => exact .refl a
  case h_2 =>
    split
    · exact enterLoweringOld_told _ _ a fun _ => by rw [step]; decide
    · exact .refl a
  case h_3 =>
    split
    · exact abort_told _ _ _ _ a fun _ => by rw [step]; decide
    · split
      · exact leaveSelecting_told _ _ a fun _ => by rw [step]; decide
      · exact .refl a
  case h_9 =>
    split
    · exact abort_told _ _ _ _ a fun _ => by rw [step]; decide
    · split
      · exact endChangeover_told _ _ _ _ a fun _ => by rw [step]; decide
      · exact .refl a
  case h_10 =>
    split
    · exact finishAbort_told _ _ a fun _ => by rw [step]; decide
    · exact .refl a
  all_goals exact closed _ (by rw [step]; decide)

theorem coGaveUp_told (d : Dev) (target : Pos) (a : Act) : Told 0 a (coGaveUp d target a) := by
  unfold coGaveUp
  split <;> rename_i step
  case h_3 => exact endChangeover_told _ _ _ _ a fun _ => by rw [step]; decide
  case h_7 => exact .refl a
  all_goals exact abort_told _ _ _ _ a fun _ => by rw [step]; decide

theorem coPanLowered_told (p : Pan) (new : PanState) (a : Act) (step : a.s.co.step = .loweringOld) :
    Told 0 a (coPanLowered p new a) := by
  unfold coPanLowered
  split
  · split
    · exact abort_told _ _ _ _ a fun _ => by rw [step]; decide
    · dsimp only
      split
      · exact (modCo_aside _ a rfl).told.trans (enterSelecting_told _ _ _ fun _ => by
          change CoStep.rank .selecting < a.s.co.step.rank
          rw [step]
          decide)
      · exact (modCo_aside _ a rfl).told
  · exact .refl a

/-- R149: the changeover relies on a pantograph while it is in progress. -/
theorem rank_of_reliesOn {s : State} {p : Pan} (h : reliesOn s p = true) : CoStep.rank .aborting < s.co.step.rank := by
  unfold reliesOn at h
  cases step : s.co.step <;> simp_all [CoStep.rank]

theorem coPan_told (p : Pan) (new : PanState) (cause : Option LowerCause) (a : Act) : Told 0 a (coPan p new cause a) := by
  unfold coPan
  split
  · rename_i relied
    exact abort_told _ _ _ _ a fun _ => rank_of_reliesOn relied.2.1
  · split
    · rename_i step
      exact coPanLowered_told p new a step
    · split
      · rename_i raising
        exact enterVerifying_told _ _ a fun _ => by rw [raising.1]; decide
      · split
        · rename_i aborting
          exact finishAbort_told _ _ a fun _ => by rw [aborting.1]; decide
        · exact .refl a

theorem coRole_told (role : Role) (present : Bool) (a : Act) : Told 0 a (coRole role present a) := by
  unfold coRole
  extract_lets aborted
  have first : Told 0 a aborted := by
    unfold aborted
    split
    · exact abortOnEvent_told .senseLost a
    · exact abortOnEvent_told .headLost a
    · exact .refl a
  split
  · rename_i aborting
    exact first.trans (finishAbort_told _ _ _ fun _ => by rw [aborting.2.1]; decide)
  · exact first

theorem lowerScrape_still (a : Act) (p : Pan) : Still a (lowerScrape a p) := by
  unfold lowerScrape
  split
  · exact lowerPan_still p .changeover .orderly true a
  · exact .refl a

theorem PansKept.not_standby {s t : State} (h : PansKept s t) (run : s.vl.mode = .run) : t.vl.mode ≠ .standby := by
  simp [h.mode, run]

/-- R134 to R136: a start is taken in RUN alone, where no rank has to pay. -/
theorem startChangeover_told (target : Nat) (raisePosition : Option Nat) (o : CoOrigin) (a : Act) :
    Told 0 a (startChangeover target raisePosition o a).1 := by
  unfold startChangeover
  split
  · exact .refl a
  · rename_i accepted
    have run : a.s.vl.mode = .run := by
      by_contra other
      simp [startRefusal, other] at accepted
    split
    · exact ((modCo_aside _ a rfl).trans (reportResult_aside _ _ _)).told
    · have begun : Still a (pansInOrder.foldl lowerScrape (a.modCo fun c =>
          { c with
            target := some target, origin := some o, raisePosition, usable := some true, oldSystem := confirmedCode a.s
            newPan := none, kept := false, abortReason := none, detail := none, abortStep := none })) :=
        (modCo_aside _ a rfl).still.trans (.foldl _ lowerScrape_still pansInOrder _)
      exact begun.told.trans (enterOpening_told _ _ _ fun standby => absurd standby (begun.told.kept.not_standby run))

end Sys2Proof.Machine

namespace Sys2Proof.Machine

/-! ## Ice (09) -/

theorem modIce_aside (f : Ice → Ice) (a : Act) : Aside a (a.modIce f) := ⟨rfl, rfl, rfl, rfl, rfl⟩

theorem presentGroups_aside (a : Act) : Aside a (presentGroups a) := by
  unfold presentGroups
  dsimp only
  split
  · split <;> rename_i e <;> have presented := present_eq_aside e
    · exact presented.trans (modIce_aside _ _)
    · exact presented
    · exact presented
  · exact .refl a

theorem allocate_aside (a : Act) : Aside a (allocate a) := (modIce_aside _ a).trans (presentGroups_aside _)

theorem leaveScrape_told (a : Act) : Told 0 a (leaveScrape a) := by
  unfold leaveScrape
  dsimp only
  split
  · exact (modIce_aside _ a).told
  · exact (lowerPan_told _ .scrapeEnd .orderly false a).trans (modIce_aside _ _).told

theorem failEntry_told (a : Act) : Told 0 a (failEntry a) := (leaveScrape_told a).trans (modIce_aside _ _).told

theorem askScrapeRaise_told (p : Pan) (a : Act) : Told 0 a (askScrapeRaise p a).1 := by
  have raised (profile : Nat) : Told 0 a (raisePan p .scrape profile .ice (a.modIce fun i => { i with phase := some .raising })).1 :=
    (modIce_aside _ a).told.trans (raisePan_still p .scrape profile .ice _).told
  unfold askScrapeRaise
  dsimp only
  split
  · exact raised _
  · exact raised _

theorem enterScrape_told (collecting : Pan) (a : Act) : Told 0 a (enterScrape collecting a).act := by
  have entered : Told 0 a (a.modIce fun i =>
      { i with state := .scrape, scrapePan := some (otherPan collecting), phase := some .isoOpening }) := (modIce_aside _ a).told
  have raised := entered.trans (askScrapeRaise_told (otherPan collecting) _)
  have moved := entered.trans (moveRequest_still (isoOf (otherPan collecting)) .opened .ice _).told
  unfold enterScrape
  dsimp only
  split <;> rename_i e <;> split at e <;> have asked := congrArg (fun x => x.1) e <;> dsimp only at asked
  · exact asked ▸ raised
  · exact asked ▸ moved
  · exact (asked ▸ raised).trans (failEntry_told _)
  · exact (asked ▸ moved).trans (failEntry_told _)

theorem testIsoOpening_told (p : Pan) (a : Act) (m : IceMove) (e : testIsoOpening p a = some m) : Told 0 a m.act := by
  have asked := askScrapeRaise_told p a
  unfold testIsoOpening at e
  split at e
  · cases e
  · split at e
    · split at e <;> rename_i raised <;> rw [raised] at asked <;> cases e
      · exact asked
      · exact asked.trans (failEntry_told _)
    · cases e
      exact failEntry_told a

theorem promotePhase_aside (a : Act) : Aside a (promotePhase a) := by
  unfold promotePhase
  split
  · split
    · exact modIce_aside _ a
    · exact .refl a
  · exact .refl a

theorem scrapeStep_told (trigger : IceTrigger) (a : Act) (m : IceMove) (e : scrapeStep trigger a = some m) : Told 0 a m.act := by
  have left := (leaveScrape_told a).trans (modIce_aside (fun i => { i with state := .heat }) _).told
  unfold scrapeStep at e
  split at e
  · cases e
    exact left
  · split at e
    · cases e
      exact left
    · split at e
      · split at e
        · exact testIsoOpening_told _ a m e
        · cases e
      · cases e
        exact failEntry_told a

theorem autoStep_told (trigger : IceTrigger) (a : Act) (m : IceMove) (e : autoStep trigger a = some m) : Told 0 a m.act := by
  have passed (state : IceState) : Told 0 a (a.modIce fun i => { i with state }) := (modIce_aside _ a).told
  unfold autoStep at e
  dsimp only at e
  split at e
  · cases e
    exact passed .watch
  · split at e <;> cases e
    exact passed .heat
  · split at e
    · cases e
      exact passed .watch
    · split at e
      · obtain ⟨p, -, rfl⟩ := Option.map_eq_some_iff.1 e
        exact enterScrape_told p a
      · cases e
  · exact scrapeStep_told trigger a m e

theorem autoSteps_told (trigger : IceTrigger) (fuel : Nat) (a : Act) (cause : Option IceCause) :
    Told 0 a (autoSteps trigger fuel a cause).1 := by
  induction fuel generalizing a cause with
  | zero => exact .refl a
  | succ n ih =>
    unfold autoSteps
    split
    · exact .refl a
    · rename_i m e
      exact (autoStep_told trigger a m e).trans (ih _ _)

theorem iceTransition_told (trigger : IceTrigger) (a : Act) : Told 0 a (iceTransition trigger a).1 := by
  have left (state : IceState) := (leaveScrape_told a).trans (modIce_aside (fun i => { i with state }) _).told
  unfold iceTransition
  split
  · split
    · exact .refl a
    · exact left .inactive
  · split
    · split
      · exact .refl a
      · exact left .heat
    · exact (promotePhase_aside a).told.trans (autoSteps_told trigger 8 _ none)

theorem evaluateIce_told (trigger : IceTrigger) (a : Act) : Told 0 a (evaluateIce trigger a) := by
  have passed := iceTransition_told trigger a
  unfold evaluateIce
  dsimp only
  split
  · exact passed.trans ((allocate_aside _).trans (placeReport_aside _ _)).told
  · exact passed

/-- A step change that has been seen is told as another change is, and weighs as much. -/
theorem stepSeen_told (a : Act) : Told 0 a { a with notes := a.notes.map Note.stepSeen } where
  kept := .of_pans rfl rfl
  waits cause kind h := List.mem_map.2 ⟨_, h, rfl⟩
  paid _ _ := by
    have weight (n : Note) : n.stepSeen.weight = n.weight := by
      unfold Note.stepSeen
      split <;> rfl
    simp [Act.load, weights, Function.comp_def, weight]

theorem iceEvent_told (trigger : IceTrigger) (a : Act) : Told 0 a (iceEvent trigger a) := by
  have seen : Told 0 a (evaluateSteps a) := by
    unfold evaluateSteps
    dsimp only
    split
    · exact (stepSeen_told a).trans (evaluateIce_told .step _)
    · exact stepSeen_told a
  exact seen.trans (evaluateIce_told trigger _)

theorem recomputeScore_aside (a : Act) : Aside a (recomputeScore a).1 := by
  unfold recomputeScore
  dsimp only
  split
  · exact .refl a
  · split
    · exact ⟨rfl, rfl, rfl, rfl, rfl⟩
    · exact .refl a

theorem heaterLost_aside (a : Act) : Aside a (heaterLost a) := modIce_aside _ a

theorem climateLost_aside (a : Act) : Aside a (climateLost a) := modIce_aside _ a

theorem arcAppended_told (a : Act) : Told 0 a (arcAppended a) := by
  have score := recomputeScore_aside a
  unfold arcAppended
  split <;> rename_i e <;> rw [e] at score
  · exact score.told.trans (iceEvent_told .other _)
  · exact score.told

/-! ## Position and Route Unit (07) -/

theorem modPr_aside (f : Route → Route) (a : Act) : Aside a (a.modPr f) := ⟨rfl, rfl, rfl, rfl, rfl⟩

theorem routeStandby_aside (a : Act) : Aside a (routeStandby a) := modPr_aside _ a

theorem handOff_told (source : Source) (action : Action) (at' : Option Nat) (a : Act) : Told 0 a (handOff source action at' a).1 := by
  cases action with
  | changeover target raisePosition => exact startChangeover_told target raisePosition _ a
  | lowerAll => exact lowerBoth_told .vehicle .orderly a
  | scrapeInhibit on =>
    change Told 0 a (setInhibit on a)
    unfold setInhibit
    split
    · exact .refl a
    · exact (modIce_aside _ a).told.trans (iceEvent_told .other _)
  | reportMark tag => exact (placeReport_aside _ a).told

theorem fire_told (source : Source) (action : Action) (trigger : Option Trigger) (a : Act) :
    Told 0 a (fire source action trigger a).1 := by
  have handed := (modPr_aside (fun r => { r with fired := r.fired + 1 }) a).told.trans (handOff_told source action (estimate a.s) _)
  unfold fire
  dsimp only
  split
  · exact handed.trans (placeReport_aside _ _).told
  · exact handed.trans (((placeReport_aside _ _).trans (modPr_aside _ _)).trans (placeReport_aside _ _)).told

theorem fireHead_told (trigger : Option Trigger) (action : Action) (a : Act) :
    Told 0 a (fire .queue action trigger (dropHead a)).1 := (modPr_aside _ a).told.trans (fire_told _ _ _ _)

theorem evaluateHead_told (fuel : Nat) (a : Act) : Told 0 a (evaluateHead fuel a) := by
  induction fuel generalizing a with
  | zero => exact .refl a
  | succ n ih =>
    unfold evaluateHead
    split
    · exact (modPr_aside _ a).told
    · rename_i e _ _
      split
      · exact (modPr_aside _ a).told
      · split
        · have fired := fireHead_told (some e.trigger) e.action a
          split <;> rename_i fires <;> rw [fires] at fired
          · exact fired.trans (ih _)
          · exact fired
        · exact (modPr_aside _ a).told

theorem evaluateQueue_told (a : Act) : Told 0 a (evaluateQueue a) := by
  unfold evaluateQueue
  split
  · exact evaluateHead_told _ a
  · exact .refl a

/-! ## The cascade -/

/-- A block that takes a note leaves no more than the note weighs. -/
theorem takeNote_told (n : Note) (a : Act) (order : PansInOrder a.s) : Told (n.weight - 1) a (takeNote n a) := by
  cases n with
  | lineJoin samples current => exact joinWindow_told samples current a
  | lineLost => exact lineLost_told a
  | panMb p => exact (testAwaitMb_lowered p false a (lowering_of_phase (order p) .awaitMb)).told
  | panHold p => exact (updateHold_lowered p a).told
  | panHeadLost p => exact (panHeadLost_lowered p a).told
  | panLowerBoth cause kind => exact lowerBoth_told cause kind a
  | tripRelease => exact (evaluateTrip_aside a).told
  | switchgearLost => exact switchgearLost_told a
  | mbOpenProtect => exact (requestMbOpen_still .protection a).told
  | coLine => exact testVerifying_told a
  | coSwitch => exact coSwitch_told a
  | coGaveUp d target => exact coGaveUp_told d target a
  | coPan p new cause => exact coPan_told p new cause a
  | coPosition => exact testAwaitRaise_told a
  | coStale => exact (modCo_aside (fun c => { c with raiseTimer := none }) a rfl).told
  | coRole role present => exact coRole_told role present a
  | coStandby => exact abortOnEvent_told .standby a
  | coLinkLost => exact abortOnEvent_told .linkLost a
  | iceEvaluate trigger => exact iceEvent_told trigger a
  | iceArc => exact arcAppended_told a
  | iceAllocate => exact (allocate_aside a).told
  | heaterLost => exact (heaterLost_aside a).told
  | climateLost => exact (climateLost_aside a).told
  | gateReview => exact reviewHolds_told a
  | gateRoleLost role => exact (dropHold_aside role .headLost _ a).told
  | routeRun => exact evaluateQueue_told a
  | routeStandby => exact (routeStandby_aside a).told

end Sys2Proof.Machine


namespace Sys2Proof.Machine

/-! SUPPORT. The notes of an act are all taken in STANDBY, and every command keeps the Pan Records (03, 11). -/

/-! ## The notes of an act -/

/-- One of the items that wait is taken, and the others go on waiting. -/
theorem pickOrder_one_perm {α : Type} (goesWith : α → α → Bool) (self : ∀ x, goesWith x x = true) (choices : List Nat) (first : α)
    (rest : List α) : ∃ next others cs, pickOrder goesWith 1 choices (first :: rest) = (next :: others, cs)
      ∧ (next :: others).Perm (first :: rest) := by
  cases choices with
  | nil => exact ⟨first, rest, [], rfl, .refl _⟩
  | cons c cs =>
    have index : c % (rest.length + 1) < (first :: rest).length := Nat.mod_lt _ (Nat.zero_lt_succ _)
    have found : (first :: rest).findIdx (fun x => goesWith x (first :: rest)[c % (rest.length + 1)]) < (first :: rest).length :=
      List.findIdx_lt_length_of_exists ⟨_, List.getElem_mem index, self _⟩
    refine ⟨_, _, cs, ?_, List.getElem_cons_eraseIdx_perm found⟩
    simp only [pickOrder, List.getElem?_eq_getElem index, Option.getD_some, List.getElem?_eq_getElem found]

/-- Any note that waits may be the next taken. -/
theorem takeNext_perm (a : Act) (h : a.notes ≠ []) : ∃ n others choices, (n :: others).Perm a.notes
    ∧ takeNext a = takeNote n { s := { a.s with choices }, notes := others } := by
  obtain ⟨first, rest, notes⟩ := List.exists_cons_of_ne_nil h
  obtain ⟨n, others, cs, picked, perm⟩ := pickOrder_one_perm inOrder inOrder_self a.s.choices first rest
  refine ⟨n, others, cs, notes ▸ perm, ?_⟩
  unfold takeNext
  rw [notes, picked]
  rfl

/-- No pantograph is raised, or a lowering of both waits. -/
def LoweringDue (a : Act) : Prop :=
  (∀ p, (panOf a.s p).raised = false) ∨ ∃ cause kind, .panLowerBoth cause kind ∈ a.notes

/-- A note taken keeps the Pan Records; in STANDBY it lessens what an act has still to do, and a lowering that is due stays so until
it has come about. -/
theorem takeNext_kept (a : Act) (h : a.notes ≠ []) (order : PansInOrder a.s) : PansKept a.s (takeNext a).s
    ∧ (a.s.vl.mode = .standby → (takeNext a).load + 1 ≤ a.load ∧ (LoweringDue a → LoweringDue (takeNext a))) := by
  obtain ⟨n, others, choices, perm, taken⟩ := takeNext_perm a h
  have told := takeNote_told n { s := { a.s with choices }, notes := others } order
  rw [taken]
  have chosen : PansKept a.s { a.s with choices } := .of_pans rfl rfl
  refine ⟨chosen.trans told.kept, fun standby => ⟨?_, ?_⟩⟩
  · have paid := told.paid standby order
    have weight := n.weight_pos
    have split : a.load = n.weight + ({ s := { a.s with choices }, notes := others } : Act).load := by
      simp only [Act.load, ← weights_perm perm]
      simp only [weights, List.map_cons, List.sum_cons]
      omega
    omega
  · rintro (down | ⟨cause, kind, waits⟩)
    · exact .inl fun p => Bool.eq_false_iff.2 fun up => by
        have before := told.kept.standby standby p up
        exact absurd ((down p).symm.trans before) Bool.false_ne_true
    · obtain rfl | waits := List.mem_cons.1 (perm.mem_iff.2 waits)
      · exact .inl (lowerBoth_lowers cause kind _).2
      · exact .inr ⟨cause, kind, told.waits cause kind waits⟩

theorem settle_kept (fuel : Nat) (a : Act) (order : PansInOrder a.s) : PansKept a.s (settle fuel a).s := by
  induction fuel generalizing a with
  | zero => exact .refl _
  | succ n ih =>
    unfold settle
    split
    · exact .refl _
    · rename_i waits
      obtain ⟨kept, -⟩ := takeNext_kept a (fun e => waits (by simp [e])) order
      exact kept.trans (ih _ (kept.order order))

/-- R65, R197: in STANDBY a lowering that is due comes about, where the notes of the act stay below the bound. -/
theorem settle_lowers (fuel : Nat) (a : Act) (order : PansInOrder a.s) (standby : a.s.vl.mode = .standby) (due : LoweringDue a)
    (bound : a.load ≤ fuel) (p : Pan) : (panOf (settle fuel a).s p).raised = false := by
  have quiet (empty : a.notes = []) : (panOf a.s p).raised = false := by
    obtain down | ⟨cause, kind, waits⟩ := due
    · exact down p
    · simp [empty] at waits
  induction fuel generalizing a with
  | zero =>
    refine quiet ?_
    cases notes : a.notes with
    | nil => rfl
    | cons n rest =>
      have weight := n.weight_pos
      have load : n.weight ≤ a.load := by
        simp only [Act.load, notes, weights, List.map_cons, List.sum_cons]
        omega
      omega
  | succ n ih =>
    unfold settle
    split
    · rename_i empty
      exact quiet (List.isEmpty_iff.1 empty)
    · rename_i waits
      obtain ⟨kept, lessens⟩ := takeNext_kept a (fun e => waits (by simp [e])) order
      obtain ⟨load, stays⟩ := lessens standby
      have standby' := kept.mode.trans standby
      refine ih _ (kept.order order) standby' (stays due) (by omega) fun empty => ?_
      obtain down | ⟨cause, kind, due⟩ := stays due
      · exact down p
      · simp [empty] at due

/-! ## The end of an act -/

/-- R45, R65: the Pan Records in order, one collector at most, and none raised in STANDBY. -/
structure PansSafe (s : State) : Prop where
  order : PansInOrder s
  collector : OneCollector s
  standby : StandbyLowered s

theorem PansKept.safe {s t : State} (h : PansKept s t) (safe : PansSafe s) : PansSafe t where
  order := h.order safe.order
  collector := h.collector safe.collector
  standby standby p := Bool.eq_false_iff.2 fun up => by
    have before := h.mode.symm.trans standby
    have down := safe.standby before p
    exact absurd (down.symm.trans (h.standby before p up)) Bool.false_ne_true

theorem modVl_kept (f : VehicleLink → VehicleLink) (a : Act) (mode : (f a.s.vl).mode = a.s.vl.mode) :
    PansKept a.s (a.modVl f).s := .of_pans rfl mode

theorem takeItem_kept (w : Waiting) (a : Act) : PansKept a.s (takeItem w a).s := by cases w <;> exact .of_pans rfl rfl

theorem restartLine_kept (a : Act) : PansKept a.s (restartLine a).s := .of_pans rfl rfl

/-- R67, R198: a RESTART brings STANDBY, and lowers both pantographs. -/
theorem restartEffects_safe (a : Act) (safe : PansSafe a.s) : PansSafe (restartEffects a).s := by
  unfold restartEffects
  extract_lets emptied stopped standby
  let lowered := restartPans (restartLine standby)
  obtain ⟨told, down⟩ := lowerBoth_lowers .protect .immediate (restartLine standby)
  have kept : PansKept standby.s lowered.s := (restartLine_kept standby).trans told.kept
  have pans : PansSafe lowered.s := ⟨kept.order safe.order, kept.collector safe.collector, fun _ => down⟩
  have opened := (requestMbOpen_still .protection lowered).told.kept
  have routed : PansKept (requestMbOpen .protection lowered).s (restartRoute (disarmLatches (requestMbOpen .protection lowered))).s :=
    .of_pans rfl rfl
  have iced (b : Act) : PansKept b.s (restartIce b).s :=
    (((modIce_aside _ b).trans (recomputeScore_aside _)).trans ((modIce_aside _ _).trans (allocate_aside _))).told.kept
  exact (opened.trans (routed.trans (iced _))).safe pans

/-- What follows the notes of an act keeps the pantographs safe. -/
theorem complete_safe (a : Act) (safe : PansSafe (settle noteBound a).s) : PansSafe (complete a).s := by
  have taken (w : Waiting) := (takeItem_kept w (settle noteBound a)).safe safe
  unfold complete
  dsimp only
  split
  · exact safe
  · rename_i w _
    split
    · have restarted := restartEffects_safe _ (taken w)
      have emptied (b : Act) : PansKept b.s (emptySlots b).s := .of_pans rfl rfl
      exact (emptied _).safe ((settle_kept noteBound _ restarted.order).safe restarted)
    · exact taken w

end Sys2Proof.Machine

namespace Sys2Proof.Machine

/-! ## Events of the other blocks (01, 04, 05, 06) -/

theorem notify_kept {s : State} {a : Act} (ns : List Note) (h : PansKept s a.s) : PansKept s (a.notify ns).s := h

theorem useCell_kept (samples : List Int) (current : Nat) (a : Act) : PansKept a.s (useCell samples current a).s := by
  have dead (b : Act) : PansKept b.s (deadCell b).s := by
    unfold deadCell
    dsimp only
    split
    · exact .of_pans rfl rfl
    · split
      · split
        · exact ((modLm_aside _ b).trans (modLm_aside _ _)).told.kept.trans (setConfirmed_told .dead .fastDead _).kept
        · exact .of_pans rfl rfl
      · exact .refl _
  have live (b : Act) : PansKept b.s (liveCell b).s := by
    unfold liveCell
    dsimp only
    split
    · exact .of_pans rfl rfl
    · split <;> exact .of_pans rfl rfl
  have first : PansKept a.s (fastDeadStage (peakOf (samples.map conditionSample)) a).s := by
    unfold fastDeadStage
    split
    · exact dead a
    · exact live a
  unfold useCell
  dsimp only
  split
  · exact first.trans (joinWindow_told _ _ _).kept
  · exact first

theorem takeCell_kept (sequence : Nat) (fault : Bool) (samples : List Int) (current : Nat) (a : Act) :
    PansKept a.s (takeCell sequence fault samples current a).s := by
  have next (c : Option Nat) : PansKept a.s (a.modLm fun l => { l with expected := c }).s := .of_pans rfl rfl
  have gap (c : Option Nat) : PansKept a.s ((a.modLm lineGap).modLm fun l => { l with expected := c }).s := .of_pans rfl rfl
  unfold takeCell
  dsimp only
  split <;> split
  · exact gap _
  · exact next _
  · exact (gap _).trans (useCell_kept _ _ _)
  · exact (next _).trans (useCell_kept _ _ _)

theorem systemTableGone_kept (a : Act) : PansKept a.s (systemTableGone a).s := by
  unfold systemTableGone
  dsimp only
  split
  · exact (modLm_aside _ a).told.kept.trans (setConfirmed_told .unknown .table _).kept
  · exact .of_pans rfl rfl

theorem lineSettingsChanged_kept (before : Settings) (a : Act) : PansKept a.s (lineSettingsChanged before a).s := by
  unfold lineSettingsChanged
  dsimp only
  split <;> split <;> exact .of_pans rfl rfl

theorem switchgearStatus_kept (payload : List Byte) (a : Act) : PansKept a.s (switchgearStatus payload a).s := by
  have taken (r : Report) : PansKept a.s (placeReport r (a.modSg (takePositions payload))).s := .of_pans rfl rfl
  have evaluated (b : Act) (due : Prop) [Decidable due] : PansKept b.s (if due then evaluateTrip b else b).s := by
    split
    · exact (evaluateTrip_aside b).told.kept
    · exact .refl _
  unfold switchgearStatus
  dsimp only
  split
  · exact .refl _
  · have told (marks : List (Dev × ChangeMark)) (due : Prop) [Decidable due] :=
      (taken (switchgearReport (a.modSg (takePositions payload)).s marks)).trans (evaluated _ due)
    split
    · exact (notify_kept _ (told _ _)).trans (requestMbOpen_still .protection _).told.kept
    · exact notify_kept _ (told _ _)

theorem giveUpMove_kept (d : Dev) (a : Act) : PansKept a.s (giveUpMove d a).s := by
  unfold giveUpMove
  dsimp only
  split
  · split <;> exact .of_pans rfl rfl
  · exact .refl _

theorem takeRaw_kept (line : Fin 12) (level : Level) (a : Act) : PansKept a.s (takeRaw line level a).s := by
  unfold takeRaw
  split <;> exact .of_pans rfl rfl

theorem markerEdge_kept (m : Fin 2) (a : Act) : PansKept a.s (markerEdge m a).s := by
  have unused : PansKept a.s (markerUnused m a).s := .of_pans rfl rfl
  have queued : PansKept a.s (markerToQueue m a).s := by
    unfold markerToQueue
    split
    · exact unused
    · rename_i e _ _
      split
      · have fired := fireHead_told (some e.trigger) e.action a
        split <;> rename_i fires <;> rw [fires] at fired
        · exact fired.kept.trans (evaluateQueue_told _).kept
        · exact fired.kept
      · exact unused
  unfold markerEdge
  split
  · split
    · exact ((modPr_aside _ a).told.trans (fire_told _ _ _ _)).kept
    · exact queued
  · exact unused

theorem takeEdge_kept (line : Fin 12) (e : Edge) (a : Act) : PansKept a.s (takeEdge line e a).s := by
  have latched : PansKept a.s (latchEdge line e a).s := by
    unfold latchEdge
    split <;> exact .of_pans rfl rfl
  unfold takeEdge
  dsimp only
  split
  · exact latched.trans (markerEdge_kept 0 _)
  · exact latched.trans (markerEdge_kept 1 _)
  · exact latched

theorem filterExpired_kept (line : Fin 12) (a : Act) : PansKept a.s (filterExpired line a).s := by
  unfold filterExpired
  extract_lets before settled after handed
  have settled_kept : PansKept a.s settled.s := .of_pans rfl rfl
  have handed_kept : PansKept a.s handed.s := by
    unfold handed
    split
    · split
      · exact settled_kept
      · exact settled_kept.trans (functionChange_kept _ _ _)
    · exact settled_kept
  split
  · split
    · exact handed_kept.trans (takeEdge_kept _ _ _)
    · exact handed_kept
  · exact handed_kept

theorem PansKept.foldl {β : Type} (f : Act → β → Act) (h : ∀ a x, PansKept a.s (f a x).s) (l : List β) (a : Act) :
    PansKept a.s (l.foldl f a).s := by
  induction l generalizing a with
  | nil => exact .refl _
  | cons x l ih => exact (h a x).trans (ih _)

theorem relevel_kept (before : State) (a : Act) : PansKept a.s (relevel before a).s := by
  have ordered (choices : List Nat) : PansKept a.s (a.setChoices choices).s := .of_pans rfl rfl
  exact (ordered _).trans (.foldl _ (fun b (c : InputFunction × Bool) => functionChange_kept c.1 c.2 b) _ _)

theorem armLine_kept (n : Nat) (a : Act) : PansKept a.s (armLine n a).1.s := by
  unfold armLine
  split
  · exact .refl _
  · split
    · exact .refl _
    · split
      · exact .refl _
      · split <;> exact .of_pans rfl rfl

theorem clearLine_kept (n : Nat) (a : Act) : PansKept a.s (clearLine n a).1.s := by
  unfold clearLine
  dsimp only
  split
  · exact .refl _
  · split <;> exact .of_pans rfl rfl

/-- R95: a command of the vehicle reaches no pantograph but through its head. -/
theorem vehicleCommand_kept (seq : Nat) (role : Role) (payload : List Byte) (a : Act) :
    PansKept a.s (vehicleCommand seq role payload a).s := by
  have sent (c : Command) : PansKept a.s (sendVehicle c a).s := by
    have delivered := deliver_aside c a
    unfold sendVehicle
    split <;> rename_i e <;> rw [e] at delivered
    · exact delivered.told.kept
    · split
      · exact delivered.told.kept.trans (.of_pans rfl rfl)
      all_goals exact delivered.told.kept
  have refused (c : Command) (f : Failed) := (refuse_aside c f a).told.kept
  have judged (c : Command) : PansKept a.s (judgeVehicle c seq a).s := by
    unfold judgeVehicle
    split
    · exact sent c
    · split
      · exact .of_pans rfl rfl
      · exact refused c _
  unfold vehicleCommand
  split
  · exact .of_pans rfl rfl
  · dsimp only
    split
    · exact refused _ _
    · split
      · exact refused _ _
      · split
        · exact refused _ _
        · split
          · unfold checkVehicleMove
            split
            · split
              · exact judged _
              · exact .refl _
              · exact refused _ _
            · exact refused _ _
          all_goals exact judged _

/-! ## Events of the heads (10) -/

theorem loseRole_kept (role : Role) (cause : HeadCause) (a : Act) : PansKept a.s (loseRole role cause a).s := by
  unfold loseRole
  split <;> exact .of_pans rfl rfl

theorem portLeaves_kept (port : Fin 8) (link : PortLink) (a : Act) : PansKept a.s (portLeaves port link a).s := by
  have left : PansKept a.s (a.modPort port fun r => r.unlocked link).s := .of_pans rfl rfl
  unfold portLeaves
  dsimp only
  split
  · exact left.trans (loseRole_kept _ _ _)
  · exact left

theorem portLight_kept (port : Fin 8) (a : Act) : PansKept a.s (portLight port a).s := by
  unfold portLight
  split <;> exact .of_pans rfl rfl

theorem portLock_kept (port : Fin 8) (a : Act) : PansKept a.s (portLock port a).s := by
  unfold portLock
  split <;> exact .of_pans rfl rfl

theorem portLockLost_kept (port : Fin 8) (a : Act) : PansKept a.s (portLockLost port a).s := by
  unfold portLockLost
  split
  · exact portLeaves_kept _ _ a
  · exact portLeaves_kept _ _ a
  · exact .refl _
  · exact .refl _

theorem portDark_kept (port : Fin 8) (a : Act) : PansKept a.s (portDark port a).s := by
  unfold portDark
  split
  · exact .refl _
  · exact portLeaves_kept _ _ a

theorem portBadFrame_kept (port : Fin 8) (a : Act) : PansKept a.s (portBadFrame port a).s := by
  unfold portBadFrame
  split
  · split
    · exact portLeaves_kept _ _ a
    · exact .of_pans rfl rfl
  · exact .refl _

theorem validFrame_kept (port : Fin 8) (a : Act) : PansKept a.s (validFrame port a).s := by
  unfold validFrame refreshSilence
  split
  · exact .of_pans rfl rfl
  · split
    · exact .of_pans rfl rfl
    · split <;> exact .of_pans rfl rfl

theorem checkKind_kept (port : Fin 8) (a : Act) : PansKept a.s (checkKind port a).s := by
  unfold checkKind
  split
  · split
    · exact .refl _
    · dsimp only
      split <;> exact .of_pans rfl rfl
  · exact .refl _

theorem takeAnnouncement_kept (port : Fin 8) (kind serial : Nat) (a : Act) :
    PansKept a.s (takeAnnouncement port kind serial a).s := by
  have announced : PansKept a.s (a.modPort port fun r => { r with kind := some kind, serial := some serial }).s := .of_pans rfl rfl
  exact announced.trans (checkKind_kept _ _)

theorem announce_kept (port : Fin 8) (kind serial : Nat) (a : Act) : PansKept a.s (announce port kind serial a).s := by
  have valid := validFrame_kept port a
  unfold announce
  dsimp only
  split
  · split
    · exact valid.trans (takeAnnouncement_kept _ _ _ _)
    · split
      · exact valid
      · refine valid.trans (.trans ?_ (takeAnnouncement_kept _ _ _ _))
        split
        · exact loseRole_kept _ _ _
        · exact .refl _
  · exact .refl _

theorem climateStatus_kept (payload : List Byte) (a : Act) : PansKept a.s (climateStatus payload a).s :=
  (((modIce_aside _ a).trans (recomputeScore_aside _)).told.trans (iceEvent_told .other _)).kept

theorem handStatus_kept (role : Role) (payload : List Byte) (a : Act) : PansKept a.s (handStatus role payload a).s := by
  cases role with
  | switchgear => exact switchgearStatus_kept payload a
  | panA => exact (panStatus_lowered .a payload a).told.kept
  | panB => exact (panStatus_lowered .b payload a).told.kept
  | heater =>
    change PansKept a.s (heaterStatus payload a).s
    unfold heaterStatus
    dsimp only
    split <;> exact .of_pans rfl rfl
  | climate => exact climateStatus_kept payload a
  | line => exact .refl _
  | aux1 => exact .refl _
  | aux2 => exact .refl _

theorem roleStatus_kept (d : DirectoryRecord) (role : Role) (payload : List Byte) (a : Act) :
    PansKept a.s (roleStatus d role payload a).s := by
  have present : PansKept a.s (becomePresent role d.silence a).s := by
    unfold becomePresent
    dsimp only
    split <;> exact .of_pans rfl rfl
  have forwarded (b : Act) : PansKept b.s (forward d role payload b).s := by
    unfold forward offerTelemetry
    split
    · split <;> rename_i e <;> split at e <;> cases e <;> exact .of_pans rfl rfl
    · exact .refl _
  exact (present.trans (handStatus_kept _ _ _)).trans (forwarded _)

theorem headStatusFrame_kept (port : Fin 8) (payload : List Byte) (a : Act) :
    PansKept a.s (headStatusFrame port payload a).s := by
  have valid := validFrame_kept port a
  unfold headStatusFrame
  dsimp only
  split
  · split
    · split
      · exact valid
      · split
        · split
          · exact valid.trans (roleStatus_kept _ _ _ _)
          · exact valid
        · exact valid
    · exact portBadFrame_kept _ a
  · exact .refl _

theorem cellFrame_kept (port : Fin 8) (sequence : Nat) (fault : Bool) (samples : List Int) (current : Nat) (a : Act) :
    PansKept a.s (cellFrame port sequence fault samples current a).s := by
  have valid := validFrame_kept port a
  unfold cellFrame
  dsimp only
  split
  · split
    · split
      · exact valid.trans (takeCell_kept _ _ _ _ _)
      · exact valid
    · exact portBadFrame_kept _ a
  · exact .refl _

theorem directoryGone_kept (a : Act) : PansKept a.s (directoryGone a).s := by
  have unmapped (b : Act) (role : Role) : PansKept b.s (unmapRole b role).s := by
    unfold unmapRole
    split <;> exact .of_pans rfl rfl
  have unbarred (b : Act) (f : Vector PortRecord 8 → Vector PortRecord 8) : PansKept b.s (b.modPorts f).s := .of_pans rfl rfl
  exact (PansKept.foldl unmapRole unmapped rolesInOrder a).trans (unbarred _ _)

theorem directoryValid_kept (a : Act) : PansKept a.s (directoryValid a).s := by
  refine .foldl _ (fun b port => ?_) _ a
  split
  · exact checkKind_kept _ b
  · exact .refl _

/-! ## Tables and position (07, 11) -/

theorem discarded_kept (id : Nat) (before : State) (a : Act) : PansKept a.s (discarded id before a).s := by
  have refused : PansKept a.s (refuseHeldForTable a).s :=
    .foldl _ (fun b role => (dropHold_aside role .table (fun _ => none) b).told.kept) _ a
  have disarmed (b : Act) : PansKept b.s (disarmLatches b).s := .of_pans rfl rfl
  unfold discarded
  dsimp only
  split
  · split
    · exact refused.trans (directoryGone_kept _)
    · exact refused
  · exact refused
  · split
    · exact systemTableGone_kept a
    · exact .refl _
  · split
    · exact (relevel_kept _ a).trans (disarmed _)
    · exact .refl _
  · exact .refl _

theorem becameValid_kept (id : Nat) (before : State) (a : Act) : PansKept a.s (becameValid id before a).s := by
  unfold becameValid
  split
  · exact directoryValid_kept a
  · exact .of_pans rfl rfl
  · exact relevel_kept _ a
  · exact .refl _

theorem partDone_kept (id : Nat) (before : State) (a : Act) : PansKept a.s (partDone id before a).s := by
  have changed := lineSettingsChanged_kept (settings before) a
  have allocated (b : Act) := (allocate_aside b).told.kept
  unfold partDone
  dsimp only
  split <;> split
  · exact changed.trans (allocated _)
  · exact changed
  · exact allocated a
  · exact .refl _

theorem setTables_kept (ts : Tables) (a : Act) : PansKept a.s (a.setTables ts).s := .of_pans rfl rfl

theorem discardPart_kept (id : Nat) (a : Act) : PansKept a.s (discardPart id a).s :=
  ((setTables_kept _ a).trans (discarded_kept _ _ _)).trans (partDone_kept _ _ _)

theorem appendPart_kept (id : Nat) (bytes : List Byte) (a : Act) : PansKept a.s (appendPart id bytes a).1.s := by
  have appended := (setTables_kept (appendIn bytes a.s.vl.tables id).1 a).trans (partDone_kept id a.s _)
  unfold appendPart
  dsimp only
  split
  · exact appended
  · exact appended

theorem lastPart_kept (id : Nat) (bytes : List Byte) (a : Act) : PansKept a.s (lastPart id bytes a).1.s := by
  have appended := appendPart_kept id bytes a
  unfold lastPart
  split
  rename_i b answer e
  rw [e] at appended
  have validated := appended.trans ((setTables_kept (validateIn b.s.vl.tables id).1 b).trans (partDone_kept id b.s _))
  split
  · dsimp only
    split
    · exact validated
    · exact validated.trans (becameValid_kept _ _ _)
  · exact appended

theorem guardLoad_kept (id : Nat) (body : Act → Act × Answered) (h : ∀ a, PansKept a.s (body a).1.s) (a : Act) :
    PansKept a.s (guardLoad id body a).1.s := by
  unfold guardLoad
  split
  · exact .refl _
  · exact h a

theorem whileLoading_kept (id : Nat) (body : Act → Act × Answered) (h : ∀ a, PansKept a.s (body a).1.s) (a : Act) :
    PansKept a.s (whileLoading id body a).1.s := by
  unfold whileLoading
  split
  · exact h a
  · exact .refl _

theorem takePosition_kept (p speed quality : Nat) (a : Act) : PansKept a.s (takePosition p speed quality a).s := by
  have jumped (b : Act) (est : Nat) : PansKept b.s (takeJump est p b).s := by
    unfold takeJump raiseJump
    dsimp only
    split <;> exact .of_pans rfl rfl
  unfold takePosition
  dsimp only
  refine .trans ?_ (evaluateQueue_told _).kept
  split
  · split
    · refine .trans ?_ (jumped _ _)
      exact .of_pans rfl rfl
    · exact .of_pans rfl rfl
  · exact .of_pans rfl rfl

theorem appendQueue_kept (entries : List QueueEntry) (a : Act) : PansKept a.s (appendQueue entries a).1.s := by
  unfold appendQueue
  dsimp only
  split
  · exact .refl _
  · split
    · exact .refl _
    · split
      · exact .refl _
      · split
        · refine .trans ?_ (evaluateQueue_told _).kept
          exact .of_pans rfl rfl
        · exact .of_pans rfl rfl

theorem loadMarker_kept (list : Nat) (actions : List Action) (a : Act) : PansKept a.s (loadMarker list actions a).1.s := by
  unfold loadMarker
  dsimp only
  split
  · exact .refl _
  · split
    · exact .refl _
    · split
      · exact .refl _
      · split <;> exact .of_pans rfl rfl

theorem flushMarkerRequest_kept (list : Nat) (a : Act) : PansKept a.s (flushMarkerRequest list a).1.s := by
  unfold flushMarkerRequest
  split <;> exact .of_pans rfl rfl

/-! ## Requests of the vehicle to the changeover and to Ice Control (08, 09) -/

theorem proceedChangeover_kept (a : Act) : PansKept a.s (proceedChangeover a).1.s := by
  unfold proceedChangeover
  split <;> rename_i step
  · exact (enterRaisingNew_told _ _ a fun _ => by rw [step]; decide).kept
  · exact (enterVerifying_told _ _ a fun _ => by rw [step]; decide).kept
  all_goals exact .refl _

theorem verifyTimedOut_kept (a : Act) : PansKept a.s (verifyTimedOut a).s := by
  unfold verifyTimedOut
  split <;> exact .of_pans rfl rfl

theorem abortChangeover_kept (a : Act) : PansKept a.s (abortChangeover a).1.s := by
  unfold abortChangeover
  split
  · exact .refl _
  · rename_i idle
    split
    · exact .refl _
    · rename_i aborting
      exact (abort_told .vehicle none _ [] a fun _ => rank_of_inProgress (by simp [inProgress, idle, aborting])).kept

theorem takeIceMode_kept (setting : Nat) (a : Act) : PansKept a.s (takeIceMode setting a).1.s := by
  unfold takeIceMode
  split
  · exact .refl _
  · exact ((modIce_aside _ a).told.trans (iceEvent_told .setting _)).kept

end Sys2Proof.Machine

namespace Sys2Proof.Machine

/-! ## Commands -/

/-- The first event of an act leaves the pantographs safe for its notes. -/
theorem perform_pansSafe (f : Act → Act) (s t : State) (safe : PansSafe s) (h : PansSafe (settle noteBound (f { s })).s)
    (e : perform f s = .next t) : PansSafe t := by
  unfold perform at e
  split at e <;> cases e
  · exact complete_safe _ h
  · exact safe

theorem perform_kept (f : Act → Act) (s t : State) (safe : PansSafe s) (h : PansKept s (f { s }).s)
    (e : perform f s = .next t) : PansSafe t :=
  perform_pansSafe f s t safe ((settle_kept noteBound _ (h.order safe.order)).safe (h.safe safe)) e

theorem atDeadline_kept (deadline : Option Nat) (effect : Act → Act) (s : State)
    (h : ∀ a : Act, (PansInOrder s → PansInOrder a.s) → PansKept a.s (effect a).s) :
    PansKept s (atDeadline deadline effect { s }).s := by
  cases deadline with
  | none => exact .refl _
  | some t =>
    have timed : PansKept s (({ s } : Act).setNow (max s.now t)).s := .of_pans rfl rfl
    exact timed.trans (h _ timed.order)

theorem onFrame_kept (f : Act → Act) (h : ∀ a, PansKept a.s (f a).s) (a : Act) : PansKept a.s (onFrame f a).s := by
  have framed : PansKept a.s (downFrame a).s := .of_pans rfl rfl
  unfold onFrame
  split
  · exact framed.trans (h _)
  · exact .refl _

/-- R191, R192: a request reaches its owner and is answered, or nothing of the pantographs changes. -/
theorem requestWith_cases (pending : Result) (seq code : Nat) (owner : Act → Act × Answered) (s : State) :
    PansKept s (requestWith pending seq code owner { s }).s
      ∨ requestWith pending seq code owner { s } =
          reply seq code (owner { s := framed s }).2 (owner { s := framed s }).1 := by
  by_cases locked : s.vl.link = .locked
  · rw [requestWith, onFrame_of_locked _ s locked]
    dsimp only
    split
    · exact .inl (.of_pans rfl rfl)
    · split
      · exact .inl (.of_pans rfl rfl)
      · exact .inr rfl
  · rw [requestWith, onFrame_of_unlocked _ _ locked]
    exact .inl (.refl s)

theorem requestWith_kept (pending : Result) (seq code : Nat) (owner : Act → Act × Answered) (s : State)
    (h : ∀ a, PansKept a.s (owner a).1.s) : PansKept s (requestWith pending seq code owner { s }).s := by
  have timed : PansKept s (framed s) := .of_pans rfl rfl
  have replied (r : Answered) (b : Act) : PansKept b.s (reply seq code r b).s := .of_pans rfl rfl
  obtain kept | answered := requestWith_cases pending seq code owner s
  · exact kept
  · rw [answered]
    exact timed.trans ((h { s := framed s }).trans (replied _ _))

theorem request_kept (seq code : Nat) (owner : Act → Act × Answered) (s : State) (h : ∀ a, PansKept a.s (owner a).1.s) :
    PansKept s (request seq code owner { s }).s := requestWith_kept .busy seq code owner s h

theorem rank_le_of_step (step : CoStep) : step.rank ≤ 9 := by cases step <;> decide

theorem PanRecord.rank_le (r : PanRecord) : r.rank ≤ 2 := by
  unfold PanRecord.rank
  split <;> [skip; split] <;> omega

/-- What the ranks of a state can pay for is few beside the bound of the notes. -/
theorem load_le (a : Act) : a.load ≤ weights a.notes + 80 := by
  have panA := a.s.pans.a.rank_le
  have panB := a.s.pans.b.rank_le
  have devices := a.s.sg.rank_le
  have step := rank_le_of_step a.s.co.step
  unfold Act.load
  omega

/-- R65, R197: SET_MODE STANDBY lowers both pantographs in its act, for its notes are few. -/
theorem setModeStandby_safe (seq : Nat) (s : State) (safe : PansSafe s) :
    PansSafe (settle noteBound (request seq 0x04 modeStandby { s })).s := by
  have settled (a : Act) (h : PansKept s a.s) : PansSafe (settle noteBound a).s :=
    (settle_kept noteBound a (h.order safe.order)).safe (h.safe safe)
  obtain kept | answered := requestWith_cases .busy seq 0x04 modeStandby s
  · exact settled _ kept
  · rw [request, answered]
    unfold modeStandby
    split
    · exact settled _ (.of_pans rfl rfl)
    · let standby : Act := reply seq 0x04 { result := .done } ((setMode .standby { s := framed s }).notify
        [.panLowerBoth .standby .orderly, .mbOpenProtect, .coStandby, .iceEvaluate .mode, .routeStandby, .gateReview])
      have order : PansInOrder standby.s := safe.order
      have weight : weights standby.notes = 6 := rfl
      have few : standby.load ≤ noteBound := (load_le standby).trans (by rw [weight]; decide)
      have kept := settle_kept noteBound standby order
      exact ⟨kept.order order, kept.collector safe.collector, fun _ =>
        settle_lowers noteBound standby order rfl (.inr ⟨.standby, .orderly, List.mem_cons_self⟩) few⟩

theorem modeRun_kept_or_run (a : Act) : PansKept a.s (modeRun a).1.s ∨ (modeRun a).1.s.vl.mode = .run
    ∧ (modeRun a).1.s.pans = a.s.pans := by
  unfold modeRun
  split
  · exact .inl (.refl _)
  · split
    · exact .inl (.refl _)
    · exact .inr ⟨rfl, rfl⟩

/-- R196: in RUN nothing is asked of STANDBY. -/
theorem setModeRun_safe (seq : Nat) (s : State) (safe : PansSafe s) :
    PansSafe (settle noteBound (request seq 0x04 modeRun { s })).s := by
  have settled (a : Act) (h : PansSafe a.s) : PansSafe (settle noteBound a).s := (settle_kept noteBound a h.order).safe h
  refine settled _ ?_
  obtain kept | answered := requestWith_cases .busy seq 0x04 modeRun s
  · exact kept.safe safe
  · rw [request, answered]
    obtain kept | ⟨run, pans⟩ := modeRun_kept_or_run { s := framed s }
    · have replied (r : Answered) (b : Act) : PansKept b.s (reply seq 0x04 r b).s := .of_pans rfl rfl
      have timed : PansKept s (framed s) := .of_pans rfl rfl
      exact (timed.trans (kept.trans (replied _ _))).safe safe
    · refine ⟨fun p => ?_, ?_, fun standby => ?_⟩
      · have order := safe.order p
        rwa [panOf, reply_state, State.replied, pans]
      · have collector := safe.collector
        rwa [OneCollector, reply_state, State.replied, pans]
      · exact absurd (run.symm.trans standby) (by decide)

/-- R200: after a power-on reset both pantographs are LOWERING. -/
theorem afterReset_pansSafe (levels : LineLevels) (s : State) : PansSafe (afterReset levels s) := by
  have record (p : Pan) : panOf (afterReset levels s) p = {} := by cases p <;> rfl
  refine ⟨fun p => ?_, ?_, fun _ p => ?_⟩
  · rw [record, PanRecord.inOrder_of_lowering rfl]
    simp
  · rw [oneCollector_iff _ .a, record]
    simp [PanRecord.raised]
  · rw [record]
    rfl

/-- Every command keeps the pantographs safe. -/
theorem exec_pansSafe (c : Instr) (s t : State) (safe : PansSafe s) (e : exec c s = .next t) : PansSafe t := by
  have kept (f : Act → Act) (h : ∀ a, PansKept a.s (f a).s) (e : perform f s = .next t) : PansSafe t :=
    perform_kept f s t safe (h { s }) e
  have timed (d : Option Nat) (f : Act → Act) (h : ∀ a, PansKept a.s (f a).s) (e : perform (atDeadline d f) s = .next t) :
      PansSafe t := perform_kept _ s t safe (atDeadline_kept d f s fun a _ => h a) e
  have asked (seq code : Nat) (owner : Act → Act × Answered) (h : ∀ a, PansKept a.s (owner a).1.s)
      (e : perform (request seq code owner) s = .next t) : PansSafe t := perform_kept _ s t safe (request_kept seq code owner s h) e
  cases c with
  | powerOnReset levels =>
    cases e
    exact afterReset_pansSafe levels s
  | powerLoss =>
    cases e
    exact (PansKept.of_pans rfl rfl : PansKept s { s with powered := false }).safe safe
  | headLinkLightAppears port => exact kept _ (portLight_kept port) e
  | headLinkLockAchieved port => exact kept _ (portLock_kept port) e
  | headLinkLockLost port => exact kept _ (portLockLost_kept port) e
  | headLinkLightLost port => exact kept _ (portDark_kept port) e
  | headBadFrame port => exact kept _ (portBadFrame_kept port) e
  | announce port kind serial => exact kept _ (announce_kept port kind serial) e
  | headStatus port payload => exact kept _ (headStatusFrame_kept port payload) e
  | cell port sequence fault samples current => exact kept _ (cellFrame_kept port sequence fault samples current) e
  | roleSilenceExpiry role => exact timed _ _ (loseRole_kept role .silence) e
  | panRaise seq pan role profile => exact asked _ _ _ (fun a => (raisePan_still pan role profile .pan a).told.kept) e
  | stageDeadlineExpiry pan => exact timed _ _ (fun a => (nextStage_lowered pan a).told.kept) e
  | raiseDeadlineExpiry pan => exact timed _ _ (fun a => (raiseTimeout_lowered pan a).told.kept) e
  | ventGuardExpiry pan =>
    exact perform_kept _ s t safe (atDeadline_kept _ _ s fun a order => (ventGuardOver_lowered pan a (order safe.order)).told.kept) e
  | lowerDeadlineExpiry pan => exact timed _ _ (fun a => (endAtDeadline_lowered pan a).told.kept) e
  | panLower seq pans =>
    refine asked _ _ (lowerReply pans) (fun a => ?_) e
    cases pans with
    | one p => exact (lowerPan_told p .vehicle .orderly false a).kept
    | both => exact (lowerBoth_told .vehicle .orderly a).kept
  | clearPanFault seq pan => exact asked _ _ _ (clearFault_kept pan) e
  | moveDeadlineExpiry dev => exact timed _ _ (giveUpMove_kept dev) e
  | inputRawChange line level => exact kept _ (takeRaw_kept line level) e
  | filterDeadlineExpiry line => exact timed _ _ (filterExpired_kept line) e
  | inputArm seq line => exact asked _ _ _ (armLine_kept line) e
  | inputClear seq line =>
    refine asked _ _ (clearReply line) (fun a => ?_) e
    have cleared := clearLine_kept line a
    unfold clearReply
    split <;> rename_i e <;> rw [e] at cleared <;> exact cleared
  | headCommand seq role payload =>
    refine kept (if payload.isEmpty then vlBad else onFrame (vehicleCommand seq role payload)) (fun a => ?_) e
    split
    · unfold vlBad
      split
      · refine modVl_kept _ _ ?_
        dsimp only
        split <;> rfl
      · exact .refl _
    · exact onFrame_kept _ (vehicleCommand_kept seq role payload) _
  | holdDeadlineExpiry role => exact timed _ _ (fun a => (dropHold_aside role .expired _ a).told.kept) e
  | position position speed quality => exact kept _ (onFrame_kept _ (takePosition_kept position speed quality)) e
  | staleDeadlineExpiry => exact timed _ becomeStale (fun a => .of_pans rfl rfl) e
  | queueAppend seq entries => exact asked _ _ _ (appendQueue_kept entries) e
  | triggerTimerExpiry =>
    exact timed _ _ (fun a => ((routeStandby_aside a).told.trans (evaluateQueue_told _)).kept) e
  | markerLoad seq list actions => exact asked _ _ _ (loadMarker_kept list actions) e
  | queueFlush seq => exact asked _ _ (routeReply flushQueueRequest) (fun a => .of_pans rfl rfl) e
  | markerFlush seq list => exact asked _ _ _ (flushMarkerRequest_kept list) e
  | changeoverStart seq target raisePosition =>
    exact asked _ _ _ (fun a => (startChangeover_told target raisePosition .vehicle a).kept) e
  | raiseTimerExpiry => exact timed _ _ (fun a => (testAwaitRaise_told a).kept) e
  | changeoverProceed seq => exact asked _ _ _ proceedChangeover_kept e
  | verifyDeadlineExpiry => exact timed _ _ verifyTimedOut_kept e
  | changeoverAbort seq => exact asked _ _ _ abortChangeover_kept e
  | iceMode seq setting =>
    refine asked _ _ (iceReply setting) (fun a => ?_) e
    have taken := takeIceMode_kept setting a
    unfold iceReply
    split <;> rename_i e <;> rw [e] at taken <;> exact taken
  | vlLightAppears =>
    refine kept vlLight (fun a => ?_) e
    unfold vlLight
    split <;> exact .of_pans rfl rfl
  | vlLockAchieved =>
    refine kept vlLock (fun a => ?_) e
    unfold vlLock
    split <;> exact .of_pans rfl rfl
  | vlLockLost =>
    refine kept vlUnlock (fun a => ?_) e
    unfold vlUnlock
    split <;> exact .of_pans rfl rfl
  | vlLightLost => exact kept vlDark (fun a => .of_pans rfl rfl) e
  | vlBadFrame =>
    refine kept vlBad (fun a => ?_) e
    unfold vlBad
    split
    · refine modVl_kept _ _ ?_
      dsimp only
      split <;> rfl
    · exact .refl _
  | vlSilenceExpiry =>
    refine timed _ vlSilent (fun a => ?_) e
    unfold vlSilent
    dsimp only
    split <;> exact .of_pans rfl rfl
  | mgmtRequestDiscarded =>
    refine kept (fun a => if repliesFull a.s then onFrame discardRequest a else a) (fun a => ?_) e
    split
    · exact onFrame_kept discardRequest (fun a => .of_pans rfl rfl) a
    · exact .refl _
  | loadTableFirst seq table records =>
    exact asked _ _ _ (guardLoad_kept table _ fun b => (discardPart_kept table b).trans (appendPart_kept table records _)) e
  | loadTableMiddle seq table records =>
    exact asked _ _ _ (guardLoad_kept table _ (whileLoading_kept table _ (appendPart_kept table records))) e
  | loadTableLast seq table records =>
    exact asked _ _ _ (guardLoad_kept table _ (whileLoading_kept table _ (lastPart_kept table records))) e
  | loadTableOnly seq table records =>
    exact asked _ _ _ (guardLoad_kept table _ fun b => (discardPart_kept table b).trans (lastPart_kept table records _)) e
  | readTable seq table start =>
    refine asked _ _ (readTableRequest table start) (fun a => ?_) e
    unfold readTableRequest
    split <;> exact .refl _
  | readRecord seq record =>
    refine asked _ _ (readRecordRequest record) (fun a => ?_) e
    unfold readRecordRequest
    split <;> exact .refl _
  | setModeRun seq => exact perform_pansSafe _ s t safe (setModeRun_safe seq s safe) e
  | setModeStandby seq => exact perform_pansSafe _ s t safe (setModeStandby_safe seq s safe) e
  | restart seq => exact perform_kept _ s t safe (requestWith_kept .already seq 0x05 beginRestart s fun a => .of_pans rfl rfl) e
  | clearCounters seq => exact asked _ _ clearCounts (fun a => .of_pans rfl rfl) e
  | statusTimerExpiry => exact timed _ statusExpired (fun a => .of_pans rfl rfl) e
  | transmitterFree => exact kept transmitterDone (fun a => .of_pans rfl rfl) e
  | unknownRequest seq code => exact asked _ _ unknown (fun a => .refl _) e

theorem step_pansSafe (s t : State) (safe : PansSafe s) (e : step s = .next t) : PansSafe t := by
  unfold step at e
  split at e
  · cases e
    unfold idle
    split
    · split <;> exact PansKept.safe (s := s) (.of_pans rfl rfl) safe
    · exact safe
  · rename_i rest _
    exact exec_pansSafe _ _ t ((PansKept.of_pans rfl rfl : PansKept s { s with pending := rest }).safe safe) e

/-- Settles O8: the operations of every block keep the Pan Records in order and one collector at most, none of them raises in STANDBY,
and in the one act that turns to STANDBY the lowering of both comes about, for the ranks bound the notes that may go before it. -/
theorem stepsKeepThePantographsInOrder : Obligations.StepsKeepThePantographsInOrder := fun s t order collector standby e =>
  have safe := step_pansSafe s t ⟨order, collector, standby⟩ e
  ⟨safe.order, safe.collector, safe.standby⟩

end Sys2Proof.Machine


namespace Sys2Proof.Machine

/-! SUPPORT. What an admitted command of a pantograph changes, with its head there and away, and what the DOWN contact, MB and the
settings are afterwards (03, 10). -/

/-! ## Commands that the gate admits (R183) -/

/-- R183: the state after a command whose head is away: it is counted and reported, and not sent. -/
def State.undeliveredOf (c : Command) (s : State) : State :=
  ({ s with roles := updAt s.roles (roleIndex c.role) fun r => { r with undelivered := bump16 r.undelivered } }).reported
    (headStateReport s c.role (roleOf s c.role).presence .undelivered none (some (c.content.kind, c.origin, c.seq)))

theorem deliver_of_absent (c : Command) (a : Act) (h : rolePresent a.s c.role = false) :
    deliver c a = ({ a with s := a.s.undeliveredOf c }, false) := by
  have presence : (roleOf (a.modRole c.role fun r => { r with undelivered := bump16 r.undelivered }).s c.role).presence
      = (roleOf a.s c.role).presence := by
    rw [roleOf, Act.modRole_roles, updAt_same]
    rfl
  simp only [deliver, h]
  simp only [headStateReport, presence]
  rfl

theorem presentVent_eq_deliver (p : Pan) (a : Act) : presentVent p a = (deliver (ventCommand p) a).1 := by
  have taken : (ventCommand p).content.taken (ventCommand p).role = true := by cases p <;> rfl
  rw [presentVent, present_of_admitted _ a taken (judge_vent a.s p)]
  split <;> rename_i e <;> rw [e]

theorem presentVent_of_present (p : Pan) (a : Act) (d : DirectoryRecord) (present : rolePresent a.s (panRole p) = true)
    (directory : directoryOfRole a.s (panRole p) = some d) :
    presentVent p a = { a with s := a.s.sentOn d.port (ventCommand p).payload } := by
  rw [presentVent_eq_deliver, deliver_of_present (ventCommand p) a d present directory]

theorem presentVent_of_absent (p : Pan) (a : Act) (absent : rolePresent a.s (panRole p) = false) :
    presentVent p a = { a with s := a.s.undeliveredOf (ventCommand p) } := by
  rw [presentVent_eq_deliver, deliver_of_absent (ventCommand p) a absent]

/-! ## What stands through a lowering's commands -/

theorem functionActive_of_outside {s t : State} (h : s.outside = t.outside) (f : InputFunction) :
    functionActive s f = functionActive t f := by
  have inputs : s.inputs = t.inputs := congrArg Outside.inputs h
  have vl : s.vl = t.vl := congrArg Outside.vl h
  unfold functionActive inputMapRecord lineActiveAt
  rw [inputs, vl]

theorem downActive_of_outside {s t : State} (h : s.outside = t.outside) (p : Pan) : downActive s p = downActive t p :=
  functionActive_of_outside h _

/-- R70: a move request sets no reported position. -/
theorem moveRequest_reported (d : Dev) (target : Pos) (o : Origin) (a : Act) :
    (devOf (moveRequest d target o a).1.s d).reported = (devOf a.s d).reported := by
  have presented (b : Act) (r : Answer) (e : present (moveCommand d target o) a = (b, r)) : b.s.sg.get = a.s.sg.get :=
    (present_eq_aside e).devs
  unfold moveRequest devOf
  split
  · split
    · rfl
    · rfl
    · split <;> rename_i e <;> have same := presented _ _ e
      · simp [beginMove, Act.tellSwitchgear, same]
      · rw [same]
      · rw [same]
  · rfl

theorem requestMbOpen_reported (o : Origin) (a : Act) : (requestMbOpen o a).s.sg.mb.reported = a.s.sg.mb.reported :=
  moveRequest_reported .mb .opened o a

/-! ## The end of AWAIT_MB and of a lowering at the DOWN contact (R54, R55, R57) -/

/-- R55: outside AWAIT_MB a DOWN contact that is active ends the lowering, and no VENT is due. -/
theorem testContact_of_vented (p : Pan) (quiet : Bool) (a : Act) (h : (panOf a.s p).phase ≠ some .awaitMb) :
    testContact p quiet a =
      if downActive a.s p then finishLowering p (latchOf (panOf a.s p).primary (panOf a.s p).causes) false quiet a else a := by
  simp only [testContact, endAtContact, if_neg h]

/-- R54: MB that is not reported OPEN leaves AWAIT_MB as it is. -/
theorem testAwaitMb_of_not_opened (p : Pan) (quiet : Bool) (a : Act) (h : a.s.sg.mb.reported ≠ .opened) :
    testAwaitMb p quiet a = a := by
  simp [testAwaitMb, mbSafelyOpen, h]

end Sys2Proof.Machine

namespace Sys2Proof.Machine

/-! O24: the first cause of a lowering (R52 to R55, R57, R61). -/

section Begins

variable (a : Act) (p : Pan) (cause : LowerCause) {presented : State → State}

/-- The Pan Record that a first cause leaves in VENTING stands through the commands that follow it. -/
theorem panOf_of_begun (vent : Bool) {x : Act}
    (pans : x.s.pans = (loweringBegun p cause .venting none vent false a).s.pans) :
    panOf x.s p = loweringRecord (panOf a.s p) cause (a.s.now + (settings a.s).lowerTimeout) .venting none vent := by
  rw [panOf, pans]
  simp [loweringBegun, State.reported]

/-- R55: what an immediate cause has begun ends at once where the DOWN contact is active. -/
theorem testContact_of_begun (vent : Bool) {x : Act}
    (pans : x.s.pans = (loweringBegun p cause .venting none vent false a).s.pans) (outside : x.s.outside = a.s.outside) :
    testContact p false x =
      if downActive a.s p then finishLowering p (latchOf (some cause) [cause]) false false x else x := by
  have record := panOf_of_begun a p cause vent pans
  rw [testContact_of_vented p false x (by rw [record]; simp [loweringRecord]), record, downActive_of_outside outside]
  rfl

/-- R53, R55: a first cause that does not wait for MB, with the VENT going its way as `presented` says. -/
theorem beginLowering_of_presented
    (vents : ∀ vent, presentVent p (loweringBegun p cause .venting none vent false a) =
      { loweringBegun p cause .venting none vent false a with
        s := presented (loweringBegun p cause .venting none vent false a).s }) :
    (let awaits : Prop := (panOf a.s p).role = some .collect ∧ mbEngaged a.s = true
     let vented (vent : Bool) : Act :=
      { loweringBegun p cause .venting none vent false a with
        s := presented (loweringBegun p cause .venting none vent false a).s }
     let immediate (x : Act) : Prop :=
      (downActive a.s p = false → beginLowering p cause .immediate false a = x)
        ∧ (downActive a.s p = true →
            beginLowering p cause .immediate false a = finishLowering p (latchOf (some cause) [cause]) false false x)
     (¬ awaits → beginLowering p cause .orderly false a = vented (panOf a.s p).vent)
      ∧ (¬ awaits → immediate (vented true)) ∧ (awaits → immediate (requestMbOpen .pan (vented true)))) := by
  intro awaits vented immediate
  have immediately (x : Act) (pans : x.s.pans = (loweringBegun p cause .venting none true false a).s.pans)
      (outside : x.s.outside = a.s.outside) (begun : beginLowering p cause .immediate false a = testContact p false x) :
      immediate x := by
    rw [testContact_of_begun a p cause true pans outside] at begun
    exact ⟨fun up => by rw [begun, up]; rfl, fun down => by rw [begun, down]; rfl⟩
  have pans : (vented true).s.pans = (loweringBegun p cause .venting none true false a).s.pans := by
    have kept := presentVent_pans p (loweringBegun p cause .venting none true false a)
    rwa [vents] at kept
  have outside : (vented true).s.outside = a.s.outside := by
    have kept := presentVent_outside p (loweringBegun p cause .venting none true false a)
    rwa [vents] at kept
  have begun := beginLowering_immediate p cause false a
  rw [vents] at begun
  refine ⟨fun free => ?_, fun free => ?_, fun waits => ?_⟩
  · rw [beginLowering_orderly p cause false a free, vents]
  · rw [if_neg free] at begun
    exact immediately _ pans outside begun
  · rw [if_pos waits] at begun
    exact immediately _ ((requestMbOpen_pans _ _).trans pans) ((requestMbOpen_outside _ _).trans outside) begun

end Begins

/-- Settles O24: the equations of the first cause (`beginLowering_awaiting`, `beginLowering_of_presented`), with the VENT sent or counted
as undelivered. -/
theorem loweringBegins : Obligations.LoweringBegins := by
  refine ⟨fun s => ?_, fun a p cause => ⟨?_, ?_, ?_, ?_, ?_⟩⟩
  · rw [mbEngaged_iff, Option.isSome_iff_ne_none]
  · intro awaits closed
    refine (beginLowering_awaiting p cause false a awaits).trans (testAwaitMb_of_not_opened p false _ ?_)
    rw [requestMbOpen_reported]
    exact closed
  · exact beginLowering_awaiting p cause false a
  · exact fun d present directory =>
      beginLowering_of_presented a p cause (presented := fun x => x.sentOn d.port (ventCommand p).payload) fun vent =>
        presentVent_of_present p (loweringBegun p cause .venting none vent false a) d present directory
  · exact fun absent => beginLowering_of_presented a p cause (presented := State.undeliveredOf (ventCommand p)) fun vent =>
      presentVent_of_absent p (loweringBegun p cause .venting none vent false a) absent
  · intro latch vent x
    rw [finishLowering_eq]
    simp [panOf, State.reported, endedRecord]

end Sys2Proof.Machine


namespace Sys2Proof.Machine

/-! O26: lowerings that begin at a deadline, end at one or at the DOWN contact, or take a later cause (R50, R52, R56 to R61). -/

/-! ## Deadlines -/

/-- A deadline that runs out is one act, at the time of the deadline or later (assumption log 2). -/
theorem perform_atDeadline (t : Nat) (effect : Act → Act) (s : State) (h : s.powered = true) :
    perform (atDeadline (some t) effect) s = .next (complete (effect { s := { s with now := max s.now t } })).s :=
  perform_of_powered _ s h

theorem execRaiseDeadlineExpiry_of_running (s : State) (p : Pan) (t : Nat) (powered : s.powered = true)
    (deadline : (panOf s p).raiseDeadline = some t) :
    exec (.raiseDeadlineExpiry p) s = .next (complete (raiseTimeout p { s := { s with now := max s.now t } })).s := by
  change perform (atDeadline (panOf s p).raiseDeadline (raiseTimeout p)) s = _
  rw [deadline, perform_atDeadline t _ s powered]

theorem execLowerDeadlineExpiry_of_running (s : State) (p : Pan) (t : Nat) (powered : s.powered = true)
    (deadline : (panOf s p).lowerDeadline = some t) :
    exec (.lowerDeadlineExpiry p) s = .next (complete (endAtDeadline p { s := { s with now := max s.now t } })).s := by
  change perform (atDeadline (panOf s p).lowerDeadline (endAtDeadline p)) s = _
  rw [deadline, perform_atDeadline t _ s powered]

/-! ## Lower causes (R52, R56) -/

theorem lowerPan_of_raised (p : Pan) (cause : LowerCause) (kind : CauseKind) (quiet : Bool) (a : Act)
    (h : (panOf a.s p).state = .raising ∨ (panOf a.s p).state = .up) :
    lowerPan p cause kind quiet a = (beginLowering p cause kind quiet a, true) := by
  obtain state | state := h <;> simp only [lowerPan, state]

theorem lowerPan_of_lowering (p : Pan) (cause : LowerCause) (kind : CauseKind) (quiet : Bool) (a : Act)
    (h : (panOf a.s p).state = .lowering) : lowerPan p cause kind quiet a = (joinLowering p cause kind quiet a, false) := by
  simp only [lowerPan, h]

theorem lowerPan_of_lowered (p : Pan) (cause : LowerCause) (kind : CauseKind) (quiet : Bool) (a : Act)
    (h : (panOf a.s p).state = .down ∨ (panOf a.s p).state = .fault) : lowerPan p cause kind quiet a = (a, false) := by
  obtain state | state := h <;> simp only [lowerPan, state]

/-- The Pan Record with a cause more in its set. -/
def joinedRecord (cause : LowerCause) (r : PanRecord) : PanRecord :=
  { r with causes := if cause ∈ r.causes then r.causes else r.causes ++ [cause] }

theorem joined_eq (p : Pan) (cause : LowerCause) (a : Act) :
    (a.modPan p fun r => { r with causes := if r.causes.contains cause then r.causes else r.causes ++ [cause] }) =
      a.modPan p (joinedRecord cause) := by
  congr
  funext r
  simp [joinedRecord]

/-- R56: an orderly cause joins the set and does no more. -/
theorem joinLowering_orderly (p : Pan) (cause : LowerCause) (quiet : Bool) (a : Act) :
    joinLowering p cause .orderly quiet a = a.modPan p (joinedRecord cause) := joined_eq p cause a

/-- R56: an immediate cause in VENTING asserts the vent output. -/
theorem joinLowering_venting (p : Pan) (cause : LowerCause) (quiet : Bool) (a : Act) (h : (panOf a.s p).phase ≠ some .awaitMb) :
    joinLowering p cause .immediate quiet a = a.modPan p fun r => { joinedRecord cause r with vent := true } := by
  have phase : (panOf (a.modPan p (joinedRecord cause)).s p).phase ≠ some .awaitMb := by simpa [panOf, joinedRecord] using h
  rw [joinLowering, joined_eq]
  dsimp only
  rw [if_neg phase]
  simp [Act.modPan, Act.modPans]

/-- R56: an immediate cause in AWAIT_MB escalates it: VENTING is entered, and the DOWN contact is tested. -/
theorem joinLowering_awaiting (p : Pan) (cause : LowerCause) (quiet : Bool) (a : Act) (h : (panOf a.s p).phase = some .awaitMb) :
    joinLowering p cause .immediate quiet a = testContact p quiet (presentVent p
      (a.modPan p fun r => { joinedRecord cause r with phase := some .venting, ventGuard := none, vent := true })) := by
  have phase : (panOf (a.modPan p (joinedRecord cause)).s p).phase = some .awaitMb := by simpa [panOf, joinedRecord] using h
  rw [joinLowering, joined_eq]
  dsimp only
  rw [if_pos phase]
  simp [leaveAwaitMb, enterVenting, Act.modPan, Act.modPans]

/-! ## The end of a lowering (R57, R58) -/

/-- R57, R58: the end of a lowering whose primary cause is known, after commands that leave the Pan Records alone. -/
theorem finishLowering_of_lowering (p : Pan) (latch : Option FaultLatch) (vent : Bool) {a x : Act} {primary : LowerCause}
    (pans : x.s.pans = a.s.pans) (state : (panOf a.s p).state = .lowering) (cause : (panOf a.s p).primary = some primary) :
    finishLowering p latch vent false x =
      { s := latchReported p latch (panOf a.s p)
          (({ x.s with pans := x.s.pans.set p (endedRecord (panOf a.s p) latch vent) }).reported
            (.panState p (if latch.isSome then .fault else .down) .lowering (panOf a.s p).role
              (some (primary, (panOf a.s p).causes)) latch))
        notes := x.notes ++ panNotes p (if latch.isSome then .fault else .down) none false } := by
  have record : panOf x.s p = panOf a.s p := congrArg (Pans.get · p) pans
  rw [finishLowering_eq, record, state, cause]
  rfl

/-- R58: the lower deadline ends a lowering, with the VENT first in AWAIT_MB. -/
theorem endAtDeadline_of_awaiting (p : Pan) (a : Act) (h : (panOf a.s p).state = .lowering)
    (phase : (panOf a.s p).phase = some .awaitMb) :
    endAtDeadline p a = finishLowering p (some .lowerTimeout) true false (presentVent p a) := by
  simp only [endAtDeadline, if_pos h, if_pos phase]

theorem endAtDeadline_of_vented (p : Pan) (a : Act) (h : (panOf a.s p).state = .lowering)
    (phase : (panOf a.s p).phase ≠ some .awaitMb) :
    endAtDeadline p a = finishLowering p (some .lowerTimeout) true false a := by
  simp only [endAtDeadline, if_pos h, if_neg phase]

/-- R57: the DOWN contact ends a lowering, with the VENT first in AWAIT_MB. -/
theorem downContactOn_of_lowering (p : Pan) (a : Act) (h : (panOf a.s p).state = .lowering) :
    downContactOn p a = finishLowering p (latchOf (panOf a.s p).primary (panOf a.s p).causes) false false
      (if (panOf a.s p).phase = some .awaitMb then presentVent p a else a) := by
  simp only [downContactOn, if_pos h, endAtContact]

theorem downContactOn_of_not_lowering (p : Pan) (a : Act) (h : (panOf a.s p).state ≠ .lowering) : downContactOn p a = a := if_neg h

theorem panOf_finishLowering (p : Pan) (latch : Option FaultLatch) (vent quiet : Bool) (a : Act) :
    panOf (finishLowering p latch vent quiet a).s p = endedRecord (panOf a.s p) latch vent := by
  simp [finishLowering_eq, panOf, State.reported]

/-- R57: the Pan Record after the DOWN contact has ended a lowering. -/
theorem panOf_downContactOn (p : Pan) (a : Act) (h : (panOf a.s p).state = .lowering) : panOf (downContactOn p a).s p =
    endedRecord (panOf a.s p) (latchOf (panOf a.s p).primary (panOf a.s p).causes) false := by
  rw [downContactOn_of_lowering p a h, panOf_finishLowering]
  split
  · rw [panOf, presentVent_pans]
    rfl
  · rfl

/-! ## The fault latch of a lowering (R57) -/

/-- R57: STRIP, DROP and RAISE_TIMEOUT latch as the primary cause, whatever the set holds. -/
theorem latchOf_primary (causes : List LowerCause) : latchOf (some .strip) causes = some .strip
    ∧ latchOf (some .drop) causes = some .drop ∧ latchOf (some .raiseTimeout) causes = some .raiseTimeout := ⟨rfl, rfl, rfl⟩

/-- R57: under any other primary cause the set latches, STRIP before DROP before RAISE_TIMEOUT. -/
theorem latchOf_of_other {c : LowerCause} (causes : List LowerCause) (strip : c ≠ .strip) (drop : c ≠ .drop)
    (timeout : c ≠ .raiseTimeout) : latchOf (some c) causes =
      if .strip ∈ causes then some .strip
      else if .drop ∈ causes then some .drop
      else if .raiseTimeout ∈ causes then some .raiseTimeout
      else none := by
  cases c <;> simp_all [latchOf]

end Sys2Proof.Machine

namespace Sys2Proof.Machine

/-! ## The clauses of O26 -/

/-- R58: the lower deadline in AWAIT_MB, with the VENT gone its way. -/
theorem lowerDeadline_of_awaiting (s : State) (p : Pan) (t : Nat) (primary : LowerCause) (vented : State) (powered : s.powered = true)
    (deadline : (panOf s p).lowerDeadline = some t) (state : (panOf s p).state = .lowering)
    (phase : (panOf s p).phase = some .awaitMb) (cause : (panOf s p).primary = some primary)
    (vents : presentVent p { s := { s with now := max s.now t } } = { s := vented }) :
    exec (.lowerDeadlineExpiry p) s = .next (complete
      { s := (({ vented with pans := s.pans.set p (endedRecord (panOf s p) (some .lowerTimeout) true) }).reported
          (.panState p .fault .lowering (panOf s p).role (some (primary, (panOf s p).causes)) (some .lowerTimeout))).reported
          (.panFault p .lowerTimeout (panOf s p).causes (panOf s p).measured)
        notes := panNotes p .fault none false }).s := by
  have pans : vented.pans = s.pans := by
    have kept := presentVent_pans p { s := { s with now := max s.now t } }
    rwa [vents] at kept
  rw [execLowerDeadlineExpiry_of_running s p t powered deadline, endAtDeadline_of_awaiting p _ state phase, vents,
    finishLowering_of_lowering p (some .lowerTimeout) true (a := { s }) pans state cause, pans]
  rfl

/-- R57: the DOWN contact, with the VENT gone its way where one is due. -/
theorem downContactOn_of_vented (a x : Act) (p : Pan) (primary : LowerCause) (state : (panOf a.s p).state = .lowering)
    (cause : (panOf a.s p).primary = some primary)
    (vents : (if (panOf a.s p).phase = some .awaitMb then presentVent p a else a) = x) :
    downContactOn p a =
      (let latch := latchOf (panOf a.s p).primary (panOf a.s p).causes
       { s := latchReported p latch (panOf a.s p)
          (({ x.s with pans := x.s.pans.set p (endedRecord (panOf a.s p) latch false) }).reported
            (.panState p (if latch.isSome then .fault else .down) .lowering (panOf a.s p).role
              (some (primary, (panOf a.s p).causes)) latch))
         notes := x.notes ++ panNotes p (if latch.isSome then .fault else .down) none false }) := by
  have pans : x.s.pans = a.s.pans := by
    rw [← vents]
    split <;> simp
  rw [downContactOn_of_lowering p a state, vents, finishLowering_of_lowering p _ false pans state cause]

/-- R56: an immediate cause in AWAIT_MB, with the VENT gone its way. -/
theorem lowerPan_escalates (a x : Act) (p : Pan) (cause : LowerCause) (state : (panOf a.s p).state = .lowering)
    (phase : (panOf a.s p).phase = some .awaitMb)
    (vents : presentVent p
      (a.modPan p fun r => { joinedRecord cause r with phase := some .venting, ventGuard := none, vent := true }) = x) :
    (downActive a.s p = false → lowerPan p cause .immediate false a = (x, false))
      ∧ (downActive a.s p = true → lowerPan p cause .immediate false a =
          (finishLowering p (latchOf (panOf a.s p).primary (joinedRecord cause (panOf a.s p)).causes) false false x, false)) := by
  have record : panOf x.s p =
      { joinedRecord cause (panOf a.s p) with phase := some .venting, ventGuard := none, vent := true } := by
    simp [← vents, panOf]
  have outside : x.s.outside = a.s.outside := by simp [← vents]
  rw [lowerPan_of_lowering p cause .immediate false a state, joinLowering_awaiting p cause false a phase, vents,
    testContact_of_vented p false x (by simp [record]), record, downActive_of_outside outside]
  exact ⟨fun up => by rw [up]; rfl, fun down => by rw [down]; rfl⟩

/-- R60: a STATUS of the pantograph's head writes the measured pressure and the head fault, and PROTECT follows a fault that is new. -/
theorem panStatus_eq (p : Pan) (payload : List Byte) (a : Act) :
    panStatus p payload a =
      if statusFault payload = true ∧ (panOf a.s p).headFault = false then
        (lowerPan p .protect .immediate false
          (a.modPan p fun r => { r with measured := some (statusPressure payload), headFault := statusFault payload })).1
      else a.modPan p fun r => { r with measured := some (statusPressure payload), headFault := statusFault payload } := by
  simp [panStatus]

theorem upContactOff_of_up (p : Pan) (a : Act) (h : (panOf a.s p).state = .up) :
    upContactOff p a = (lowerPan p .drop .immediate false a).1 := if_pos h

/-- Settles O26: the deadlines by the act at their time, the end of a lowering by `finishLowering_of_lowering`, a cause that joins by
the phase it finds, and the VENT of AWAIT_MB sent or counted as undelivered. -/
theorem loweringsBeginAtDeadlinesAndEnd : Obligations.LoweringsBeginAtDeadlinesAndEnd := by
  refine ⟨fun s p t powered => ⟨fun deadline state => ?_, fun primary deadline state phase cause => ?_⟩,
    ⟨fun s p t primary powered deadline state phase cause vented vents => ?_, fun a p primary state cause => ⟨fun phase => ?_,
      fun d phase present directory => ?_, fun phase absent => ?_⟩⟩,
    fun a p => ⟨?_, ?_, ?_, fun c primary strip drop timeout => ⟨?_, ?_, ?_, ?_⟩, panOf_downContactOn p a,
      downContactOn_of_not_lowering p a⟩,
    fun a p cause payload => ⟨fun raised kind => lowerPan_of_raised p cause kind false a raised,
      fun lowered kind => lowerPan_of_lowered p cause kind false a lowered, fun state => ?_, fun state phase => ?_,
      fun d state phase present directory => ?_, fun state phase absent => ?_, fun fault was => ?_, fun fault => ?_, rfl,
      upContactOff_of_up p a, fun state => if_neg state⟩⟩
  · rw [execRaiseDeadlineExpiry_of_running s p t powered deadline]
    have timedOut : raiseTimeout p { s := { s with now := max s.now t } } =
        (lowerPan p .raiseTimeout .immediate false { s := { s with now := max s.now t } }).1 := if_pos state
    rw [timedOut, lowerPan_of_raised p .raiseTimeout .immediate false _ (.inl state)]
  · have venting : (panOf s p).phase ≠ some .awaitMb := by simp [phase]
    rw [execLowerDeadlineExpiry_of_running s p t powered deadline, endAtDeadline_of_vented p _ state venting,
      finishLowering_of_lowering p (some .lowerTimeout) true (a := { s }) (x := { s := { s with now := max s.now t } }) rfl state
        cause]
    rfl
  · refine lowerDeadline_of_awaiting s p t primary vented powered deadline state phase cause ?_
    obtain ⟨d, present, directory, rfl⟩ | ⟨absent, rfl⟩ := vents
    · exact presentVent_of_present p _ d present directory
    · rw [presentVent_eq_deliver, deliver_of_absent (ventCommand p) _ absent]
  · rw [downContactOn_of_vented a a p primary state cause (if_neg phase)]
    cases latchOf (panOf a.s p).primary (panOf a.s p).causes <;> rfl
  · rw [downContactOn_of_vented a _ p primary state cause
      ((if_pos phase).trans (presentVent_of_present p a d present directory))]
    cases latchOf (panOf a.s p).primary (panOf a.s p).causes <;> rfl
  · rw [downContactOn_of_vented a _ p primary state cause ((if_pos phase).trans (presentVent_eq_deliver p a))]
    cases latchOf (panOf a.s p).primary (panOf a.s p).causes <;> rfl
  · exact fun primary => primary ▸ (latchOf_primary _).1
  · exact fun primary => primary ▸ (latchOf_primary _).2.1
  · exact fun primary => primary ▸ (latchOf_primary _).2.2
  · intro stripped
    rw [primary, latchOf_of_other _ strip drop timeout, if_pos stripped]
  · intro unstripped dropped
    rw [primary, latchOf_of_other _ strip drop timeout, if_neg unstripped, if_pos dropped]
  · intro unstripped undropped timedOut
    rw [primary, latchOf_of_other _ strip drop timeout, if_neg unstripped, if_neg undropped, if_pos timedOut]
  · intro unstripped undropped inTime
    rw [primary, latchOf_of_other _ strip drop timeout, if_neg unstripped, if_neg undropped, if_neg inTime]
  · rw [lowerPan_of_lowering p cause .orderly false a state, joinLowering_orderly]
    rfl
  · rw [lowerPan_of_lowering p cause .immediate false a state, joinLowering_venting p cause false a phase]
    rfl
  · exact lowerPan_escalates a _ p cause state phase (presentVent_of_present p _ d present directory)
  · exact lowerPan_escalates a _ p cause state phase (presentVent_eq_deliver p _)
  · exact (panStatus_eq p payload a).trans (if_pos ⟨fault, was⟩)
  · refine (panStatus_eq p payload a).trans (if_neg ?_)
    rintro ⟨new, was⟩
    obtain none | old := fault
    · exact absurd (new.symm.trans none) (by decide)
    · exact absurd (old.symm.trans was) (by decide)

end Sys2Proof.Machine


namespace Sys2Proof.Machine

/-! O25: PAN_LOWER and CLEAR_PAN_FAULT (R52, R56, R63, R64). -/

/-! ## Requests -/

/-- R192: a request that finds the part ready is one act of its owner, with the reply at its end. -/
theorem perform_request (seq code : Nat) (owner : Act → Act × Answered) {s : State} (h : Ready s) {a : Act} {r : Answered}
    (owned : owner { s := framed s } = (a, r)) : perform (request seq code owner) s = .next (complete (reply seq code r a)).s := by
  rw [perform_of_powered _ s h.1, request, requestWith_of_ready _ seq code owner s h, owned]

/-- A request that tells no block, at a busy transmitter, leaves its reply and what its owner has written. -/
theorem perform_request_of_quiet (seq code : Nat) (owner : Act → Act × Answered) {s t : State} (h : Ready s) (sending : Sending t)
    {r : Answered} (owned : owner { s := framed s } = ({ s := t }, r)) :
    perform (request seq code owner) s = .next (t.replied seq code r.result r.data r.clamped) := by
  rw [perform_request seq code owner h owned, complete_of_quiet _ rfl (by rwa [reply_state]), reply_state]

/-! ## Lower causes -/

/-- R52: a lower cause is ACCEPTED where it finds the pantograph raised. -/
theorem lowerPan_answer (p : Pan) (cause : LowerCause) (kind : CauseKind) (quiet : Bool) (a : Act) :
    (lowerPan p cause kind quiet a).2 = (panOf a.s p).raised := by
  cases state : (panOf a.s p).state <;> simp [lowerPan, PanRecord.raised, state]

/-- R52: a cause that names both is ACCEPTED where it finds either raised. -/
theorem lowerBoth_eq (cause : LowerCause) (kind : CauseKind) (a : Act) :
    lowerBoth cause kind a = ((lowerPan .b cause kind false (lowerPan .a cause kind false a).1).1,
      (panOf a.s .a).raised || (panOf a.s .b).raised) := by
  have first := lowerPan_answer .a cause kind false a
  have second := lowerPan_answer .b cause kind false (lowerPan .a cause kind false a).1
  have other : panOf (lowerPan .a cause kind false a).1.s .b = panOf a.s .b := (lowerPan_lowered .a cause kind false a).other
  rw [other] at second
  rw [← first, ← second]
  rfl

/-- R63: the reply of a PAN_LOWER of one pantograph. -/
theorem lowerReply_one (p : Pan) (a : Act) {b : Act} {began : Bool} (lowered : lowerPan p .vehicle .orderly false a = (b, began)) :
    lowerReply (.one p) a = (b, { result := if began then .accepted else .already }) := by
  simp only [lowerReply, lowerChoice, lowered]

theorem lowerReply_both (a : Act) :
    lowerReply .both a = ((lowerPan .b .vehicle .orderly false (lowerPan .a .vehicle .orderly false a).1).1,
      { result := if (panOf a.s .a).raised || (panOf a.s .b).raised then .accepted else .already }) := by
  simp only [lowerReply, lowerChoice, lowerBoth_eq]

/-! ## CLEAR_PAN_FAULT (R64) -/

theorem clearFault_of_not_fault (p : Pan) (a : Act) (h : (panOf a.s p).state ≠ .fault) : clearFault p a = (a, .notActive) := if_neg h

theorem clearFault_of_not_down (p : Pan) (a : Act) (h : (panOf a.s p).state = .fault) (up : downActive a.s p = false) :
    clearFault p a = (a, .fault) := by
  simp [clearFault, h, up]

/-- R64: a fault is cleared at the DOWN contact. -/
theorem clearFault_of_down (p : Pan) (a : Act) (h : (panOf a.s p).state = .fault) (down : downActive a.s p = true) :
    clearFault p a =
      ({ s := ({ a.s with
            pans := a.s.pans.set p { panOf a.s p with state := .down, latch := none, vent := false } }).reported
            (.panState p .down .fault (panOf a.s p).role none none)
         notes := a.notes ++ panNotes p .down none false }, .done) := by
  simp only [clearFault, if_pos h, if_pos down]
  rw [changedPan_eq]
  cases p <;> rfl

theorem plain_eq (f : Act → Act × Result) (a : Act) {b : Act} {r : Result} (h : f a = (b, r)) : plain f a = (b, { result := r }) := by
  simp only [plain, h]

/-- Settles O25: PAN_LOWER by the state it finds, for one pantograph and for both; CLEAR_PAN_FAULT by FAULT and the DOWN contact. -/
theorem panLowerAndClearFaultRequests : Obligations.PanLowerAndClearFaultRequests := by
  refine ⟨fun s seq p ready => ⟨fun raised => ?_, fun state sending => ?_, fun lowered sending => ?_,
      ⟨_, rfl, fun raised => ?_, fun lowA lowB => ?_⟩⟩,
    fun s seq p ready => ⟨fun state sending => ?_, fun state up sending => ?_, fun state down => ?_⟩⟩
  · exact perform_request seq 0x11 _ ready
      (lowerReply_one p _ (lowerPan_of_raised p .vehicle .orderly false { s := framed s } raised))
  · have joined := lowerPan_of_lowering p .vehicle .orderly false { s := framed s } state
    rw [joinLowering_orderly] at joined
    exact perform_request_of_quiet seq 0x11 (lowerReply (.one p)) ready (t := (Act.modPan p _ { s := framed s }).s) sending
      (lowerReply_one p _ joined)
  · exact perform_request_of_quiet seq 0x11 (lowerReply (.one p)) ready (t := framed s) sending
      (lowerReply_one p _ (lowerPan_of_lowered p .vehicle .orderly false { s := framed s } lowered))
  · have either : ((panOf (framed s) .a).raised || (panOf (framed s) .b).raised) = true := by
      rw [Bool.or_eq_true, PanRecord.raised_iff, PanRecord.raised_iff]
      exact raised
    have owned := lowerReply_both { s := framed s }
    rw [if_pos either] at owned
    exact perform_request seq 0x11 _ ready owned
  · have neither : ¬ ((panOf (framed s) .a).raised || (panOf (framed s) .b).raised) = true := by
      rw [Bool.or_eq_true, PanRecord.raised_iff, PanRecord.raised_iff]
      exact not_or.2 ⟨lowA, lowB⟩
    have owned := lowerReply_both { s := framed s }
    rw [if_neg neither] at owned
    exact perform_request seq 0x11 _ ready owned
  · exact perform_request_of_quiet seq 0x12 (plain (clearFault p)) ready (t := framed s) sending
      (plain_eq _ _ (clearFault_of_not_fault p { s := framed s } state))
  · exact perform_request_of_quiet seq 0x12 (plain (clearFault p)) ready (t := framed s) sending
      (plain_eq _ _ (clearFault_of_not_down p { s := framed s } state up))
  · have owned := plain_eq (clearFault p) _ (clearFault_of_down p { s := framed s } state down)
    refine (perform_request seq 0x12 (plain (clearFault p)) ready owned).trans ?_
    rw [reply]
    rfl

end Sys2Proof.Machine


namespace Sys2Proof.Machine

/-! O22: PAN_RAISE (R44 to R47). -/

/-! ## The checks in their order (R44, R45) -/

section Checks

variable {s : State} {p : Pan} {role : PanRole} {profile : Nat}

theorem raiseRefusal_of_standby (mode : s.vl.mode = .standby) : raiseRefusal s p role profile = some .mode := by
  simp [raiseRefusal, mode]

theorem raiseRefusal_of_no_profile (mode : s.vl.mode = .run) (record : profileRecord s profile = none) :
    raiseRefusal s p role profile = some .range := by
  simp [raiseRefusal, mode, record]

theorem raiseRefusal_of_absent {pr : ProfileRecord} (mode : s.vl.mode = .run) (record : profileRecord s profile = some pr)
    (absent : rolePresent s (panRole p) = false) : raiseRefusal s p role profile = some .headAbsent := by
  simp [raiseRefusal, mode, record, absent]

/-! R44 check 4: what the state of the Pan Record answers. -/

theorem raiseRefusal_of_fault {pr : ProfileRecord} (mode : s.vl.mode = .run) (record : profileRecord s profile = some pr)
    (present : rolePresent s (panRole p) = true) (state : (panOf s p).state = .fault) :
    raiseRefusal s p role profile = some .fault := by
  simp [raiseRefusal, mode, record, present, state]

theorem raiseRefusal_of_lowering {pr : ProfileRecord} (mode : s.vl.mode = .run) (record : profileRecord s profile = some pr)
    (present : rolePresent s (panRole p) = true) (state : (panOf s p).state = .lowering) :
    raiseRefusal s p role profile = some .busy := by
  simp [raiseRefusal, mode, record, present, state]

theorem raiseRefusal_of_raised {pr : ProfileRecord} (mode : s.vl.mode = .run) (record : profileRecord s profile = some pr)
    (present : rolePresent s (panRole p) = true) (raised : (panOf s p).state = .raising ∨ (panOf s p).state = .up) :
    raiseRefusal s p role profile = some (if (panOf s p).role = some role then .already else .busy) := by
  obtain state | state := raised <;> simp [raiseRefusal, mode, record, present, state, apply_ite some]

/-! R45: the raise interlock that fails first. -/

theorem firstFailed_of_roofAccess (access : functionActive s .roofAccess = true) :
    firstFailed (raiseClauses s p role) = some .raiseRoofAccess := by
  simp [raiseClauses, firstFailed, access]

theorem firstFailed_of_es (access : functionActive s .roofAccess = false) (es : s.sg.es.reported ≠ .opened) :
    firstFailed (raiseClauses s p role) = some .raiseEs := by
  simp [raiseClauses, firstFailed, access, es]

theorem firstFailed_of_other (access : functionActive s .roofAccess = false) (es : s.sg.es.reported = .opened)
    (collect : role = .collect) (other : otherCollects s p) : firstFailed (raiseClauses s p role) = some .raiseOther := by
  obtain ⟨raised, collects⟩ := other
  simp [raiseClauses, firstFailed, access, es, collect, raised, collects]

theorem firstFailed_of_iso (access : functionActive s .roofAccess = false) (es : s.sg.es.reported = .opened)
    (single : ¬ (role = .collect ∧ otherCollects s p))
    (iso : (devOf s (isoOf p)).reported ≠ (if role = .collect then .closed else .opened)) :
    firstFailed (raiseClauses s p role) = some .raiseIso := by
  have alone : (role == .scrape || !((panOf s (otherPan p)).raised && (panOf s (otherPan p)).role == some .collect)) = true := by
    cases role with
    | scrape => rfl
    | collect => simpa [otherCollects, ← Bool.not_eq_true, imp_iff_not_or] using single
  simp only [raiseClauses, firstFailed, access, es, alone]
  simp [iso]

/-- R45: the other pantograph is raised and collects. -/
theorem otherCollects_iff : otherCollects s p ↔
    ((panOf s (otherPan p)).state = .raising ∨ (panOf s (otherPan p)).state = .up)
      ∧ (panOf s (otherPan p)).role = some .collect := by
  rw [otherCollects, PanRecord.raised_iff]

end Checks

/-! ## What the raise answers -/

section Raise

variable {p : Pan} {role : PanRole} {profile : Nat} {o : Origin} {a : Act}

theorem raisePan_of_refusal {r : Result} (h : raiseRefusal a.s p role profile = some r) :
    raisePan p role profile o a = (a, { result := r }) := by
  simp only [raisePan, h]

theorem raisePan_of_interlock {f : Failed} (checked : raiseRefusal a.s p role profile = none)
    (failed : firstFailed (raiseClauses a.s p role) = some f) :
    raisePan p role profile o a = (a, { result := .interlock, failed := some f }) := by
  simp only [raisePan, checked, failed]

theorem rampCommand_taken (p : Pan) (target rate : Nat) (o : Origin) :
    (rampCommand p target rate o).content.taken (rampCommand p target rate o).role = true := by cases p <;> rfl

variable {pr : ProfileRecord} {first : Stage} (checked : raiseRefusal a.s p role profile = none)
  (passed : firstFailed (raiseClauses a.s p role) = none) (record : profileRecord a.s profile = some pr)
  (stage : pr.stages.head? = some first)

include checked passed record stage

/-- R46: a first RAMP that the gate refuses refuses the raise. -/
theorem raisePan_of_gate {f : Failed} (refused : judge a.s (rampCommand p first.target first.rate o) = some f) :
    raisePan p role profile o a =
      (refuse (rampCommand p first.target first.rate o) f a, { result := .interlock, failed := some f }) := by
  have head : pr.stages.headD { target := 0, rate := 10 } = first := by simp [List.headD_eq_head?_getD, stage]
  simp only [raisePan, checked, passed, record, head,
    present_of_refused _ a f (rampCommand_taken p first.target first.rate o) refused]

/-- R46: a first RAMP that is sent takes the raise. -/
theorem raisePan_of_sent {d : DirectoryRecord} (admitted : judge a.s (rampCommand p first.target first.rate o) = none)
    (present : rolePresent a.s (panRole p) = true) (directory : directoryOfRole a.s (panRole p) = some d) :
    raisePan p role profile o a =
      (takeRaise p role pr first o { a with s := a.s.sentOn d.port (rampCommand p first.target first.rate o).payload },
        { result := .accepted }) := by
  have head : pr.stages.headD { target := 0, rate := 10 } = first := by simp [List.headD_eq_head?_getD, stage]
  simp only [raisePan, checked, passed, record, head,
    present_of_sent _ a d (rampCommand_taken p first.target first.rate o) admitted present directory]

end Raise

/-! ## The command -/

theorem raiseReply_eq (f : Act → Act × RaiseAnswer) (a : Act) {b : Act} {r : RaiseAnswer} (h : f a = (b, r)) :
    raiseReply f a = (b, { result := r.result, data := (r.failed.map putFailed).getD [] }) := by
  simp only [raiseReply, h]

/-- A raise that is refused is answered, and leaves what it has reported. -/
theorem execPanRaise_of_refused {s t : State} {seq profile : Nat} {p : Pan} {role : PanRole} {r : RaiseAnswer} (ready : Ready s)
    (sending : Sending t) (h : raisePan p role profile .pan { s := framed s } = ({ s := t }, r)) :
    exec (.panRaise seq p role profile) s =
      .next (t.replied seq 0x10 r.result ((r.failed.map putFailed).getD [])) :=
  perform_request_of_quiet seq 0x10 (raiseReply (raisePan p role profile .pan)) ready sending (raiseReply_eq _ _ h)

end Sys2Proof.Machine

namespace Sys2Proof.Machine

/-- Settles O22: the checks and the raise interlocks one by one, the gate's refusal, and the raise that is taken, with the strip switch
read after it. -/
theorem raiseIsRefusedOrTaken : Obligations.RaiseIsRefusedOrTaken := by
  refine ⟨fun s p role profile => ⟨raiseRefusal_none_iff s p role profile, ?_, ?_⟩,
    fun s seq profile p role ready sending => ?_, fun s seq p role pr first d ready raise => ?_⟩
  · rw [raiseClauses_none_iff, otherCollects_iff]
  · cases p <;> rfl
  · have refused {r : Result} (h : raiseRefusal s p role profile = some r) :
        exec (.panRaise seq p role profile) s = .next ((framed s).replied seq 0x10 r []) :=
      execPanRaise_of_refused ready (t := framed s) sending (raisePan_of_refusal (a := { s := framed s }) h)
    refine ⟨fun mode => refused (raiseRefusal_of_standby mode),
      fun mode record => refused (raiseRefusal_of_no_profile mode record), fun pr mode record => ⟨fun absent =>
        refused (raiseRefusal_of_absent mode record absent), fun present => ⟨fun state =>
        refused (raiseRefusal_of_fault mode record present state), fun state =>
        refused (raiseRefusal_of_lowering mode record present state), fun raised =>
        refused (raiseRefusal_of_raised mode record present raised), fun down => ?_⟩, fun first rest f stages checked passed gate => ?_⟩⟩
    · have checked : raiseRefusal s p role profile = none :=
        (raiseRefusal_none_iff s p role profile).2 ⟨mode, by simp [record], present, down⟩
      have interlocked {f : Failed} (h : firstFailed (raiseClauses s p role) = some f) :
          exec (.panRaise seq p role profile) s = .next ((framed s).replied seq 0x10 .interlock (putFailed f)) :=
        execPanRaise_of_refused ready (t := framed s) sending (raisePan_of_interlock (a := { s := framed s }) checked h)
      refine ⟨fun access => interlocked (firstFailed_of_roofAccess access), fun closed => ⟨fun es =>
        interlocked (firstFailed_of_es closed es), fun es => ⟨fun collect raised collects =>
        interlocked (firstFailed_of_other closed es collect (otherCollects_iff.2 ⟨raised, collects⟩)), fun single iso =>
        interlocked (firstFailed_of_iso closed es (by rwa [otherCollects_iff]) iso)⟩⟩⟩
    · have stage : pr.stages.head? = some first := by rw [stages, List.head?_cons]
      exact execPanRaise_of_refused ready (t := (refuse (rampCommand p first.target first.rate .pan) f { s := framed s }).s) sending
        (raisePan_of_gate (a := { s := framed s }) checked passed record stage gate)
  · obtain ⟨mode, record, stage, present, directory, down, access, es, single, iso, admitted⟩ := raise
    have checked : raiseRefusal s p role pr.number = none :=
      (raiseRefusal_none_iff s p role pr.number).2 ⟨mode, by simp [record], present, down⟩
    have passed : firstFailed (raiseClauses s p role) = none :=
      (raiseClauses_none_iff s p role).2 ⟨access, es, fun collects => single collects.1 collects.2, iso⟩
    have taken := raisePan_of_sent (a := { s := framed s }) checked passed record stage admitted present directory
    rw [takeRaise_eq] at taken
    have strip : stripActive ((framed s).sentOn d.port (rampCommand p first.target first.rate .pan).payload) p = stripActive s p :=
      rfl
    rw [strip] at taken
    refine ⟨fun off => ?_, fun on => ?_⟩
    · rw [if_neg (by simp [off])] at taken
      exact perform_request seq 0x10 (raiseReply (raisePan p role pr.number .pan)) ready (raiseReply_eq _ _ taken)
    · rw [if_pos on, lowerPan_of_raised p .strip .immediate false _ (.inl (by simp [raiseTaken, panOf, State.reported, raisedRecord]))]
        at taken
      exact perform_request seq 0x10 (raiseReply (raisePan p role pr.number .pan)) ready (raiseReply_eq _ _ taken)

end Sys2Proof.Machine


namespace Sys2Proof.Machine

/-! O23: ramp stages, the vent guard, AWAIT_MB and the hold pressure (R47 to R49, R51, R54). -/

/-! ## Numbers and bytes -/

/-- A quotient rounded up is the least multiple that reaches the number. -/
theorem ceilDiv_bounds (n r : Nat) (h : 0 < r) : n ≤ ceilDiv n r * r ∧ ceilDiv n r * r < n + r := by
  have below := Nat.div_mul_le_self (n + r - 1) r
  have above := Nat.lt_div_mul_add (a := n + r - 1) h
  unfold ceilDiv
  omega

/-- R47: the way of a stage, from below or from above. -/
theorem stageDuration_eq (start : Nat) (st : Stage) : stageDuration start st =
    ceilDiv ((if st.target < start then start - st.target else st.target - start) * 1000) st.rate := by
  have way : ((st.target : Int) - start).natAbs = if st.target < start then start - st.target else st.target - start := by
    split <;> omega
  rw [stageDuration, way]

/-- R51: a HOLD is due at a difference of 20 mbar or more. -/
theorem holdDue_some_iff (last pressure : Nat) : holdDue (some last) pressure = true ↔ last + 20 ≤ pressure ∨ pressure + 20 ≤ last := by
  rw [holdDue, decide_eq_true_iff]
  omega

/-! ## A busy transmitter -/

theorem sending_of_outside {s t : State} (h : s.outside = t.outside) (sending : Sending t) : Sending s := by
  have same : s.ru.sending = t.ru.sending := congrArg Outside.sending h
  rwa [Sending, same]

/-! ## RAMP and HOLD at the gate -/

/-- R101, R102: neither the clock nor the Pan Records count in the judgement of a RAMP. -/
theorem judge_ramp_of_pans (s : State) (now : Nat) (ps : Pans) (p : Pan) (target rate : Nat) (o : Origin) :
    judge { s with now, pans := ps } (rampCommand p target rate o) = judge s (rampCommand p target rate o) := rfl

/-- R102: neither the Pan Records nor a report count in the judgement of a HOLD. -/
theorem judge_hold_of_pans (s : State) (ps : Pans) (r : Report) (p : Pan) (pressure : Nat) :
    judge ({ s with pans := ps }.reported r) (holdCommand p pressure) = judge s (holdCommand p pressure) := rfl

/-- R102: a HOLD without a GATE record is admitted. -/
theorem judge_hold_of_no_record (s : State) (p : Pan) (pressure : Nat) (h : gateRecord s (panRole p) .hold = none) :
    judge s (holdCommand p pressure) = none := by
  change interlockOrTable s (panRole p) .hold .pan = none
  rw [interlockOrTable, h]
  rfl

theorem holdCommand_taken (p : Pan) (pressure : Nat) :
    (holdCommand p pressure).content.taken (holdCommand p pressure).role = true := by cases p <;> rfl

/-! ## Stages (R47, R48) -/

section Stages

variable {p : Pan} {a : Act} {k n : Nat} {pr : ProfileRecord} (state : (panOf a.s p).state = .raising)
  (stage : (panOf a.s p).stage = some k) (profile : (panOf a.s p).profile = some n) (record : profileRecord a.s n = some pr)

include state stage profile record

/-- R47: after the last stage none is played. -/
theorem nextStage_of_last (last : pr.stages[k + 1]? = none) :
    nextStage p a = a.modPan p fun r => { r with stage := some (k + 1), stageDeadline := none } := by
  simp only [nextStage, state, stage, profile, Option.bind_some, record, last]

variable {st : Stage} {o : Origin} (next : pr.stages[k + 1]? = some st) (origin : (panOf a.s p).raiseOrigin = some o)

include next origin

/-- R48: a RAMP that the gate refuses lowers the pantograph. -/
theorem nextStage_of_refused {f : Failed} (refused : judge a.s (rampCommand p st.target st.rate o) = some f) :
    nextStage p a = (lowerPan p .protect .immediate false (refuse (rampCommand p st.target st.rate o) f
      (a.modPan p fun r => { r with stage := some (k + 1), stageDeadline := none }))).1 := by
  have presented := present_of_refused (rampCommand p st.target st.rate o)
    (a.modPan p fun r => { r with stage := some (k + 1), stageDeadline := none }) f
    (rampCommand_taken p st.target st.rate o) ((judge_ramp_of_pans a.s a.s.now _ p st.target st.rate o).trans refused)
  simp only [nextStage, state, stage, profile, Option.bind_some, record, next, origin, Option.getD_some, presented]

/-- R47: a RAMP that the gate admits plays the next stage, with the head there or away (assumption log 33). -/
theorem nextStage_of_admitted {was : Stage} (left : pr.stages[k]? = some was)
    (admitted : judge a.s (rampCommand p st.target st.rate o) = none) :
    nextStage p a = (deliver (rampCommand p st.target st.rate o)
      (a.modPan p fun r => { r with stage := some (k + 1), stageDeadline := none })).1.modPan p fun r =>
        { r with stageDeadline := some (a.s.now + stageDuration was.target st) } := by
  have presented := present_of_admitted (rampCommand p st.target st.rate o)
    (a.modPan p fun r => { r with stage := some (k + 1), stageDeadline := none })
    (rampCommand_taken p st.target st.rate o) ((judge_ramp_of_pans a.s a.s.now _ p st.target st.rate o).trans admitted)
  simp only [nextStage, state, stage, profile, Option.bind_some, record, next, origin, Option.getD_some, presented, left,
    Option.map_some]
  split <;> rename_i e <;> split at e <;> rename_i delivered <;> cases e <;> rw [delivered]

end Stages

/-! ## Hold pressure (R51) -/

theorem presentHold_of_refused {p : Pan} {pressure : Nat} {a : Act} {f : Failed}
    (refused : judge a.s (holdCommand p pressure) = some f) : presentHold p pressure a = refuse (holdCommand p pressure) f a := by
  simp only [presentHold, present_of_refused _ a f (holdCommand_taken p pressure) refused]

/-- R51: a HOLD that the gate admits becomes the last hold pressure, with the head there or away (assumption log 33). -/
theorem presentHold_of_admitted {p : Pan} {pressure : Nat} {a : Act} (admitted : judge a.s (holdCommand p pressure) = none) :
    presentHold p pressure a = (deliver (holdCommand p pressure) a).1.modPan p fun r => { r with lastHold := some pressure } := by
  rw [presentHold, present_of_admitted _ a (holdCommand_taken p pressure) admitted]
  split <;> rename_i e <;> split at e <;> rename_i delivered <;> cases e <;> rw [delivered]

/-- The last hold pressure is written over the Pan Record that the HOLD found. -/
theorem deliver_modPan (c : Command) (p : Pan) (f : PanRecord → PanRecord) (a : Act) :
    (deliver c a).1.modPan p f =
      { (deliver c a).1 with s := { (deliver c a).1.s with pans := a.s.pans.set p (f (panOf a.s p)) } } := by
  rw [panOf, ← (deliver_aside c a).pans]
  rfl

end Sys2Proof.Machine

namespace Sys2Proof.Machine

/-! ## The clauses of O23 -/

section StageClauses

variable {s : State} {p : Pan} {t k n : Nat} {pr : ProfileRecord} (powered : s.powered = true)
  (deadline : (panOf s p).stageDeadline = some t) (state : (panOf s p).state = .raising)
  (stage : (panOf s p).stage = some k) (profile : (panOf s p).profile = some n) (record : profileRecord s n = some pr)

include powered deadline

theorem execStageDeadlineExpiry_of_running :
    exec (.stageDeadlineExpiry p) s = .next (complete (nextStage p { s := { s with now := max s.now t } })).s := by
  change perform (atDeadline (panOf s p).stageDeadline (nextStage p)) s = _
  rw [deadline, perform_atDeadline t _ s powered]

theorem execStageDeadlineExpiry_of_quiet {x : State} (sending : Sending x)
    (acts : nextStage p { s := { s with now := max s.now t } } = { s := x }) : exec (.stageDeadlineExpiry p) s = .next x := by
  rw [execStageDeadlineExpiry_of_running powered deadline, acts, complete_of_quiet _ rfl sending]

include state stage profile record

theorem stageDeadline_of_refused {st : Stage} {o : Origin} {f : Failed} (next : pr.stages[k + 1]? = some st)
    (origin : (panOf s p).raiseOrigin = some o) (refused : judge s (rampCommand p st.target st.rate o) = some f) :
    exec (.stageDeadlineExpiry p) s = .next (complete (beginLowering p .protect .immediate false
      (refuse (rampCommand p st.target st.rate o) f (({ s := { s with now := max s.now t } } : Act).modPan p fun r =>
        { r with stage := some (k + 1), stageDeadline := none })))).s := by
  have plays := nextStage_of_refused (a := { s := { s with now := max s.now t } }) state stage profile record next origin refused
  rw [lowerPan_of_raised p .protect .immediate false _ (.inl ?_)] at plays
  · rw [execStageDeadlineExpiry_of_running powered deadline, plays]
  · simpa [panOf, refuse, reportGate, State.reported] using state

/-- R47: a RAMP that is sent leaves the record and the frame. -/
theorem stageDeadline_of_sent (sending : Sending s) {was st : Stage} {o : Origin} {d : DirectoryRecord}
    (left : pr.stages[k]? = some was) (next : pr.stages[k + 1]? = some st)
    (origin : (panOf s p).raiseOrigin = some o) (admitted : judge s (rampCommand p st.target st.rate o) = none)
    (present : rolePresent s (panRole p) = true) (directory : directoryOfRole s (panRole p) = some d) :
    exec (.stageDeadlineExpiry p) s = .next
      (({ s with
          now := max s.now t
          pans := s.pans.set p { panOf s p with
            stage := some (k + 1), stageDeadline := some (max s.now t + stageDuration was.target st) } }).sentOn d.port
        (rampCommand p st.target st.rate o).payload) := by
  refine execStageDeadlineExpiry_of_quiet powered deadline (by exact sending)
    ((nextStage_of_admitted state stage profile record next origin left admitted).trans ?_)
  rw [deliver_modPan, deliver_of_present (rampCommand p st.target st.rate o) _ d present directory]
  cases p <;> rfl

/-- R47, R183: a RAMP for a head that is away sets the stage deadline too (assumption log 33). -/
theorem stageDeadline_of_absent (sending : Sending s) {was st : Stage} {o : Origin}
    (left : pr.stages[k]? = some was) (next : pr.stages[k + 1]? = some st)
    (origin : (panOf s p).raiseOrigin = some o) (admitted : judge s (rampCommand p st.target st.rate o) = none)
    (absent : rolePresent s (panRole p) = false) :
    exec (.stageDeadlineExpiry p) s = .next (deliver (rampCommand p st.target st.rate o)
      { s := { s with
          now := max s.now t
          pans := s.pans.set p { panOf s p with
            stage := some (k + 1), stageDeadline := some (max s.now t + stageDuration was.target st) } } }).1.s := by
  rw [deliver_of_absent (rampCommand p st.target st.rate o) _ absent]
  refine execStageDeadlineExpiry_of_quiet powered deadline (by exact sending)
    ((nextStage_of_admitted state stage profile record next origin left admitted).trans ?_)
  rw [deliver_modPan, deliver_of_absent (rampCommand p st.target st.rate o) _ absent]
  cases p <;> rfl

end StageClauses

/-! ## The end of AWAIT_MB (R54) -/

/-- R54, R55: AWAIT_MB ends in VENTING, and the DOWN contact is tested. -/
theorem leaveAwaitMb_of_vented {p : Pan} {a x : Act}
    (vents : presentVent p
      { a with s := { a.s with pans := a.s.pans.set p { panOf a.s p with phase := some .venting, ventGuard := none } } } = x) :
    leaveAwaitMb p false false a = if downActive a.s p
      then finishLowering p (latchOf (panOf a.s p).primary (panOf a.s p).causes) false false x else x := by
  have venting : enterVenting p false a = x := by
    rw [enterVenting, ← vents]
    simp only [Bool.or_false]
    rfl
  have record : panOf x.s p = { panOf a.s p with phase := some .venting, ventGuard := none } := by simp [← vents, panOf]
  have outside : x.s.outside = a.s.outside := by rw [← venting, enterVenting_outside]
  rw [leaveAwaitMb, venting, testContact_of_vented p false x (by simp [record]), record, downActive_of_outside outside]

/-- R54: MB is reported OPEN and is not engaged. -/
theorem mbSafelyOpen_iff (s : State) : mbSafelyOpen s = true ↔
    s.sg.mb.reported = .opened ∧ (s.sg.mb.move = none ∨ s.sg.mb.target ≠ some .closed) := by
  have engaged := mbEngaged_iff s
  rw [mbSafelyOpen, Bool.and_eq_true, beq_iff_eq, Bool.not_eq_true', ← Bool.not_eq_true, engaged]
  cases e : s.sg.mb.move <;> simp +contextual

theorem testAwaitMb_of_opened {p : Pan} {a : Act} (phase : (panOf a.s p).phase = some .awaitMb)
    (opened : a.s.sg.mb.reported = .opened ∧ (a.s.sg.mb.move = none ∨ a.s.sg.mb.target ≠ some .closed)) :
    testAwaitMb p false a = leaveAwaitMb p false false a := if_pos ⟨phase, (mbSafelyOpen_iff a.s).2 opened⟩

/-- R54: AWAIT_MB ends where MB is safely open, with the VENT gone its way. -/
theorem testAwaitMb_ends {p : Pan} {a x : Act}
    (vents : presentVent p
      { a with s := { a.s with pans := a.s.pans.set p { panOf a.s p with phase := some .venting, ventGuard := none } } } = x) :
    ((panOf a.s p).phase = some .awaitMb →
        a.s.sg.mb.reported = .opened ∧ (a.s.sg.mb.move = none ∨ a.s.sg.mb.target ≠ some .closed) →
        downActive a.s p = false → testAwaitMb p false a = x)
      ∧ ((panOf a.s p).phase = some .awaitMb →
        a.s.sg.mb.reported = .opened ∧ (a.s.sg.mb.move = none ∨ a.s.sg.mb.target ≠ some .closed) →
        downActive a.s p = true → testAwaitMb p false a =
          finishLowering p (latchOf (panOf a.s p).primary (panOf a.s p).causes) false false x) := by
  have leaves := leaveAwaitMb_of_vented vents
  refine ⟨fun phase opened up => ?_, fun phase opened down => ?_⟩
  · rw [testAwaitMb_of_opened phase opened, leaves, up]
    rfl
  · rw [testAwaitMb_of_opened phase opened, leaves, down]
    rfl

/-- R54: the vent guard ends AWAIT_MB, with the VENT gone its way. -/
theorem ventGuard_ends {s vented : State} {p : Pan} {t : Nat} (powered : s.powered = true) (sending : Sending s)
    (guard : (panOf s p).ventGuard = some t) (phase : (panOf s p).phase = some .awaitMb)
    (vents : presentVent p
      { s := { s with
          now := max s.now t
          pans := s.pans.set p { panOf s p with phase := some .venting, ventGuard := none } } } = { s := vented }) :
    (downActive s p = false → exec (.ventGuardExpiry p) s = .next vented)
      ∧ (downActive s p = true → exec (.ventGuardExpiry p) s = .next
          (complete (finishLowering p (latchOf (panOf s p).primary (panOf s p).causes) false false { s := vented })).s) := by
  have runs : exec (.ventGuardExpiry p) s =
      .next (complete (leaveAwaitMb p false false { s := { s with now := max s.now t } })).s := by
    change perform (atDeadline (panOf s p).ventGuard (ventGuardOver p)) s = _
    have expired : ventGuardOver p { s := { s with now := max s.now t } } =
        leaveAwaitMb p false false { s := { s with now := max s.now t } } := if_pos phase
    rw [guard, perform_atDeadline t _ s powered, expired]
  have leaves := leaveAwaitMb_of_vented (a := { s := { s with now := max s.now t } }) vents
  have sent : Sending vented := by
    have outside := presentVent_outside p { s := { s with
        now := max s.now t
        pans := s.pans.set p { panOf s p with phase := some .venting, ventGuard := none } } }
    rw [vents] at outside
    exact sending_of_outside outside sending
  refine ⟨fun up => ?_, fun down => ?_⟩
  · rw [runs, leaves.trans (if_neg (ne_of_eq_of_ne up Bool.false_ne_true)), complete_of_quiet _ rfl sent]
  · rw [runs, leaves.trans (if_pos down)]
    rfl

end Sys2Proof.Machine

namespace Sys2Proof.Machine

/-! ## The UP contact and the hold pressure (R49, R51) -/

/-- R49: the Pan Record that the UP contact makes UP. -/
def upRecord (r : PanRecord) : PanRecord := { r with state := .up, stage := none, stageDeadline := none, raiseDeadline := none }

/-- R49: the UP contact has made the pantograph UP, and no HOLD has been presented yet. -/
def madeUp (p : Pan) (a : Act) : Act :=
  { s := ({ a.s with pans := a.s.pans.set p (upRecord (panOf a.s p)) }).reported
      (.panState p .up .raising (panOf a.s p).role none (panOf a.s p).latch)
    notes := a.notes ++ panNotes p .up none false }

/-- R49, R51: the UP contact makes a RAISING pantograph UP and presents its hold pressure. -/
theorem upContactOn_of_raising {p : Pan} {a : Act} {n : Nat} {pr : ProfileRecord} (state : (panOf a.s p).state = .raising)
    (profile : (panOf a.s p).profile = some n) (record : profileRecord a.s n = some pr) :
    upContactOn p a = presentHold p (holdPressure pr (speed a.s)) (madeUp p a) := by
  have made : changedPan p .raising none false
      (a.modPan p fun r => { r with state := .up, stage := none, stageDeadline := none, raiseDeadline := none }) = madeUp p a := by
    rw [changedPan_eq]
    cases p <;> rfl
  have found : profileRecord (madeUp p a).s n = some pr := record
  simp only [upContactOn, if_pos state, made, profile, Option.bind_some, found]
  rfl

/-- R51: a HOLD at the UP contact that is admitted, over the Pan Record that is UP. -/
theorem presentHold_of_madeUp {p : Pan} {a : Act} {pressure : Nat} (admitted : judge a.s (holdCommand p pressure) = none) :
    presentHold p pressure (madeUp p a) =
      { (deliver (holdCommand p pressure) (madeUp p a)).1 with
        s := { (deliver (holdCommand p pressure) (madeUp p a)).1.s with
          pans := a.s.pans.set p { upRecord (panOf a.s p) with lastHold := some pressure } } } := by
  have pans : (madeUp p a).s.pans = a.s.pans.set p (upRecord (panOf a.s p)) := rfl
  rw [presentHold_of_admitted (a := madeUp p a) ((judge_hold_of_pans a.s _ _ p pressure).trans admitted), deliver_modPan, panOf, pans, Pans.get_set_same, Pans.set_set]

/-! ## Position frames (R51) -/

theorem updateHold_of_not_up {p : Pan} {a : Act} (h : (panOf a.s p).state ≠ .up) : updateHold p a = a := by
  unfold updateHold
  dsimp only
  split
  · rename_i up _
    exact absurd up h
  · rfl

/-- R51: a pantograph that is UP presents its hold pressure where it is due. -/
theorem updateHold_of_up {p : Pan} {a : Act} {n : Nat} {pr : ProfileRecord} (state : (panOf a.s p).state = .up)
    (profile : (panOf a.s p).profile = some n) (record : profileRecord a.s n = some pr) :
    updateHold p a = if holdDue (panOf a.s p).lastHold (holdPressure pr (speed a.s))
      then presentHold p (holdPressure pr (speed a.s)) a else a := by
  simp only [updateHold, state, profile, Option.bind_some, record]

/-- R51: a HOLD is not due within 20 mbar of the last one. -/
theorem holdDue_false_iff (last : Option Nat) (pressure : Nat) :
    holdDue last pressure = false ↔ ∃ l, last = some l ∧ pressure < l + 20 ∧ l < pressure + 20 := by
  cases last with
  | none => simp [holdDue]
  | some l =>
    rw [← Bool.not_eq_true, holdDue_some_iff]
    simp only [Option.some.injEq, exists_eq_left']
    omega

/-- R51: a HOLD that differs by 20 mbar or more from the last one is presented. -/
theorem updateHold_of_due {p : Pan} {a : Act} {n : Nat} {pr : ProfileRecord} (state : (panOf a.s p).state = .up)
    (profile : (panOf a.s p).profile = some n) (record : profileRecord a.s n = some pr)
    (due : ¬ ∃ l, (panOf a.s p).lastHold = some l ∧ holdPressure pr (speed a.s) < l + 20 ∧ l < holdPressure pr (speed a.s) + 20) :
    updateHold p a = presentHold p (holdPressure pr (speed a.s)) a := by
  have sends := mt (holdDue_false_iff (panOf a.s p).lastHold (holdPressure pr (speed a.s))).1 due
  rw [updateHold_of_up state profile record, if_pos (by simpa using sends)]

/-- Settles O23: the stage deadline by the gate and the head, the end of AWAIT_MB by `leaveAwaitMb_of_vented`, the HOLD at the UP
contact and at a position frame by the gate and the head. -/
theorem stagesVentGuardAndHold : Obligations.StagesVentGuardAndHold := by
  refine ⟨⟨fun start st rate => ?_, fun s => ⟨rfl, rfl⟩, fun p target rate pressure o => ?_⟩,
    fun s p t powered sending => ⟨fun n k pr deadline state stage profile record => ⟨fun last => ?_,
      fun st o f next origin refused => ?_, fun was st o d left next origin admitted present directory => ?_⟩,
      fun n k pr was st o deadline state stage profile record left next origin admitted absent => ?_,
      fun guard phase => ⟨fun d present directory => ?_, fun absent => ?_⟩⟩,
    fun a p => ⟨fun stays => ?_, fun d present directory => ?_, fun absent => ?_, rfl⟩,
    ⟨fun a p n pr d state profile record present directory ungated => ?_, fun a p => ⟨fun state => if_neg state,
      fun n pr state profile record => ⟨fun f refused => ?_, fun d admitted present directory => ?_, fun admitted absent => ?_⟩⟩,
      fun last pressure => ⟨rfl, holdDue_some_iff last pressure⟩⟩,
    fun a p => ⟨updateHold_of_not_up, fun n pr state profile record => ⟨fun near => ?_, fun f due refused => ?_,
      fun d due admitted present directory => ?_, fun due admitted absent => ?_⟩⟩⟩
  · rw [stageDuration_eq]
    exact ceilDiv_bounds _ st.rate rate
  · cases p <;> exact ⟨rfl, rfl, rfl⟩
  · exact execStageDeadlineExpiry_of_quiet powered deadline (by exact sending)
      (nextStage_of_last (a := { s := { s with now := max s.now t } }) state stage profile record last)
  · exact stageDeadline_of_refused powered deadline state stage profile record next origin refused
  · exact stageDeadline_of_sent powered deadline state stage profile record sending left next origin admitted present directory
  · exact stageDeadline_of_absent powered deadline state stage profile record sending left next origin admitted absent
  · exact ventGuard_ends powered sending guard phase (presentVent_of_present p _ d present directory)
  · refine ventGuard_ends powered sending guard phase ?_
    rw [presentVent_eq_deliver, deliver_of_absent (ventCommand p) _ absent]
  · refine if_neg fun ends => ?_
    obtain awaits | unopened := stays
    · exact awaits ends.1
    · exact unopened ((mbSafelyOpen_iff a.s).1 ends.2)
  · exact testAwaitMb_ends (presentVent_of_present p _ d present directory)
  · exact testAwaitMb_ends (presentVent_eq_deliver p _)
  · have admitted := judge_hold_of_no_record a.s p (holdPressure pr (speed a.s)) ungated
    refine (upContactOn_of_raising state profile record).trans ((presentHold_of_madeUp admitted).trans ?_)
    rw [deliver_of_present (holdCommand p _) (madeUp p a) d present directory]
    rfl
  · exact (upContactOn_of_raising state profile record).trans (presentHold_of_refused (a := madeUp p a)
      ((judge_hold_of_pans a.s _ _ p _).trans refused))
  · refine (upContactOn_of_raising state profile record).trans ((presentHold_of_madeUp admitted).trans ?_)
    rw [deliver_of_present (holdCommand p _) (madeUp p a) d present directory]
    rfl
  · exact (upContactOn_of_raising state profile record).trans (presentHold_of_madeUp admitted)
  · have kept : holdDue (panOf a.s p).lastHold (holdPressure pr (speed a.s)) = false := (holdDue_false_iff _ _).2 near
    exact (updateHold_of_up state profile record).trans (if_neg (by simp [kept]))
  · exact (updateHold_of_due state profile record due).trans (presentHold_of_refused refused)
  · refine (updateHold_of_due state profile record due).trans ((presentHold_of_admitted admitted).trans ?_)
    rw [deliver_modPan, deliver_of_present (holdCommand p _) a d present directory]
  · exact (updateHold_of_due state profile record due).trans
      ((presentHold_of_admitted admitted).trans (deliver_modPan _ p _ a))

end Sys2Proof.Machine

namespace Sys2Proof.Machine

/-! SUPPORT. The Switchgear Tracker (04): the checks of a move request in their order, what a STATUS makes of each device, a move that
is given up, and the loss of the head. -/

/-! ## Move requests (R70 to R72) -/

theorem idle_iff (e : Device) : e.idle = true ↔ e.move = none := Option.isNone_iff_eq_none

theorem idle_of_moving {e : Device} (moving : e.move.isSome) : e.idle = false := by
  rw [← Bool.not_eq_true, idle_iff]
  exact Option.isSome_iff_ne_none.1 moving

/-- R71: a request goes on to the gate where the device is IDLE, or where it reverses an MB close. -/
theorem moveCheck_free_iff (s : State) (d : Dev) (target : Pos) : moveCheck s d target = .free ↔
    (devOf s d).move = none
      ∨ (devOf s d).target ≠ some target ∧ d = .mb ∧ (devOf s d).target = some .closed ∧ target = .opened := by
  unfold moveCheck
  dsimp only
  split
  · rename_i idle
    simpa using .inl ((idle_iff _).1 idle)
  · rename_i busy
    rw [idle_iff] at busy
    split
    · rename_i join
      simp [busy, join]
    · rename_i other
      split
      · rename_i reversal
        exact iff_of_true rfl (.inr ⟨other, reversal⟩)
      · rename_i forward
        simp [busy, forward]

/-- R71: a request for the target of the move in flight joins it. -/
theorem moveCheck_of_join {s : State} {d : Dev} {target : Pos} (moving : (devOf s d).move.isSome)
    (join : (devOf s d).target = some target) : moveCheck s d target = .join := by
  simp [moveCheck, idle_of_moving moving, join]

/-- R71: a move in flight to another target forbids a request that is no reversal of an MB close. -/
theorem moveCheck_of_busy {s : State} {d : Dev} {target : Pos} (moving : (devOf s d).move.isSome)
    (other : (devOf s d).target ≠ some target) (forward : ¬ (d = .mb ∧ (devOf s d).target = some .closed ∧ target = .opened)) :
    moveCheck s d target = .busy := by
  simp only [moveCheck, idle_of_moving moving, if_neg other, if_neg forward, Bool.false_eq_true, if_false]

/-- R70: a request that its target and the move state let pass is presented to the gate. -/
theorem moveRequest_of_free {d : Dev} {target : Pos} {a : Act} (o : Origin) (commandable : target ∈ devTargets d)
    (free : moveCheck a.s d target = .free) : moveRequest d target o a =
      match present (moveCommand d target o) a with
      | (b, .sent) => (beginMove d target o b, .accepted)
      | (b, .absent) => (b, .headAbsent)
      | (b, .refused f) => (b, .interlock f) := by
  simp only [moveRequest, List.contains_iff_mem.2 commandable, free]
  rfl

theorem moveRequest_of_refused {d : Dev} {target : Pos} {o : Origin} {a : Act} {f : Failed} (commandable : target ∈ devTargets d)
    (free : moveCheck a.s d target = .free) (refused : judge a.s (moveCommand d target o) = some f) :
    moveRequest d target o a = (refuse (moveCommand d target o) f a, .interlock f) := by
  rw [moveRequest_of_free o commandable free, present_of_refused _ a f rfl refused]

theorem moveRequest_of_absent {d : Dev} {target : Pos} {o : Origin} {a : Act} (commandable : target ∈ devTargets d)
    (free : moveCheck a.s d target = .free) (admitted : judge a.s (moveCommand d target o) = none)
    (absent : rolePresent a.s .switchgear = false) :
    moveRequest d target o a = ((deliver (moveCommand d target o) a).1, .headAbsent) := by
  rw [moveRequest_of_free o commandable free, present_of_admitted _ a rfl admitted, deliver_of_absent _ a absent]

theorem moveRequest_of_sent {d : Dev} {target : Pos} {o : Origin} {a : Act} {r : DirectoryRecord}
    (commandable : target ∈ devTargets d) (free : moveCheck a.s d target = .free)
    (admitted : judge a.s (moveCommand d target o) = none) (head : rolePresent a.s .switchgear = true)
    (directory : directoryOfRole a.s .switchgear = some r) : moveRequest d target o a =
      (beginMove d target o { a with s := a.s.sentOn r.port (moveCommand d target o).payload }, .accepted) := by
  rw [moveRequest_of_free o commandable free, present_of_sent _ a r rfl admitted head directory]

/-- R72: the first two positions of a device's list are its targets. -/
theorem mem_devTargets_iff (d : Dev) (target : Pos) : target ∈ devTargets d ↔ target ∈ (devPositions d).take 2 := by
  cases d <;> rfl

/-- Settles O27: the two targets and the bytes device by device, the checks by the state of the device (`moveCheck_free_iff`), the
gate's answer and the presence of the head. -/
theorem moveRequestIsCheckedInOrder : Obligations.MoveRequestIsCheckedInOrder := by
  refine ⟨fun st d target o => ⟨?_, rfl, ?_⟩, fun a d target o => ⟨fun foreign => ?_, fun commandable moving join => ?_,
    fun commandable moving other forward => ?_, fun f commandable free refused => ?_,
    fun commandable free admitted absent => ?_, fun r commandable free admitted head directory => ?_⟩, fun c a absent => ?_⟩
  · refine (mem_devTargets_iff d target).trans ?_
    cases d <;> rfl
  · cases d <;> rfl
  · exact if_neg (by simpa using foreign)
  · simp only [moveRequest, List.contains_iff_mem.2 commandable, moveCheck_of_join moving join, if_true]
  · simp only [moveRequest, List.contains_iff_mem.2 commandable, moveCheck_of_busy moving other forward, if_true]
  · rw [moveRequest_of_refused commandable ((moveCheck_free_iff _ _ _).2 free) refused]
    exact ⟨rfl, rfl⟩
  · rw [moveRequest_of_absent commandable ((moveCheck_free_iff _ _ _).2 free) admitted absent,
      deliver_of_absent (moveCommand d target o) a absent]
    exact ⟨rfl, rfl⟩
  · rw [moveRequest_of_sent commandable ((moveCheck_free_iff _ _ _).2 free) admitted head directory]
    rfl
  · rw [deliver_of_absent c a absent]
    rfl

/-! ## STATUS of the switchgear head (R68, R69) -/

/-- R68: each device is judged by its own byte. -/
theorem takePositions_get (payload : List Byte) (g : Switchgear) (d : Dev) :
    (takePositions payload g).get d = (judgeDevice (g.get d) (statusPosition payload d)).1 := by
  cases d <;> rfl

/-- R69: a move ends where it reports its target. -/
theorem judgeDevice_of_ended {e : Device} {value : Pos} (moving : e.move.isSome) (reached : e.target = some value) :
    judgeDevice e value = ({ reported := value, target := some value, move := none, mark := none }, some .ended) := by
  simp [judgeDevice, idle_of_moving moving, reached]

/-- R68, R69: where no move ends, a report changes the position alone. -/
theorem judgeDevice_of_going {e : Device} {value : Pos} (going : e.move = none ∨ e.target ≠ some value) :
    judgeDevice e value = ({ e with reported := value },
      if e.reported = value then none else if e.move.isSome then some .during else some .uncommanded) := by
  unfold judgeDevice Device.idle
  cases move : e.move with
  | none => by_cases same : e.reported = value <;> simp [same]
  | some m =>
    have far : e.target ≠ some value := going.resolve_left (by simp [move])
    by_cases same : e.reported = value <;> simp [same, far]

/-! ## Deadlines (R73) -/

/-- R73: a move is given up at its device, and a breaker open that is given up asserts MB_TRIP. -/
theorem giveUpMove_of_moving {d : Dev} {m : Move} {target : Pos} {a : Act} (move : (devOf a.s d).move = some m)
    (aim : (devOf a.s d).target = some target) : giveUpMove d a =
      { s := ({ a.s with
                sg := { a.s.sg.set d { devOf a.s d with move := none, mark := some target } with
                  mbTrip := if d = Dev.mb ∧ target = Pos.opened then true else a.s.sg.mbTrip } }).reported
              (.switchgearFault d target m.origin (devOf a.s d).reported m.timeout)
        notes := a.notes ++ [.coGaveUp d target, .panMb .a, .panMb .b, .coSwitch, .iceEvaluate .other, .gateReview] } := by
  conv_lhs => simp only [giveUpMove, move, aim, Act.tellSwitchgear, Act.notify, List.append_assoc]
  by_cases opens : d = .mb ∧ target = .opened
  · obtain ⟨rfl, rfl⟩ := opens
    rfl
  · rw [if_neg opens, if_neg opens]
    cases d <;> rfl

/-- Settles O28: a STATUS device by device, by whether the move in flight reports its target; the deadline by the act that gives the
move up at its time. -/
theorem movesEndOrAreGivenUp : Obligations.MovesEndOrAreGivenUp := by
  refine ⟨fun payload g d => ⟨fun moving reached => ?_, fun going => ?_, ?_, ?_⟩, fun s d m target powered move aim => ?_⟩
  · rw [takePositions_get]
    exact congrArg Prod.fst (judgeDevice_of_ended moving reached)
  · rw [takePositions_get]
    exact congrArg Prod.fst (judgeDevice_of_going going)
  · rfl
  · by_cases ended : (g.get d).move.isSome ∧ (g.get d).target = some (statusPosition payload d)
    · exact (congrArg Prod.snd (judgeDevice_of_ended ended.1 ended.2)).trans (if_pos ended).symm
    · have going : (g.get d).move = none ∨ (g.get d).target ≠ some (statusPosition payload d) := by
        rw [← Option.not_isSome_iff_eq_none]
        exact not_and_or.1 ended
      exact (congrArg Prod.snd (judgeDevice_of_going going)).trans (if_neg ended).symm
  · change perform (atDeadline ((devOf s d).move.map (·.deadline)) (giveUpMove d)) s = _
    rw [move, Option.map_some, perform_atDeadline m.deadline _ s powered]
    rw [giveUpMove_of_moving (a := { s := { s with now := max s.now m.deadline } }) move aim]
    rfl

/-! ## A STATUS as a whole (R68, R74, R76) -/

@[simp] theorem judgeDevice_reported (e : Device) (value : Pos) : (judgeDevice e value).1.reported = value := by
  unfold judgeDevice
  dsimp only
  split <;> [rfl; split <;> rfl]

/-- R68: a device whose position changes has its mark. -/
theorem judgeDevice_mark_ne_none {e : Device} {value : Pos} (changed : e.reported ≠ value) : (judgeDevice e value).2 ≠ none := by
  have differs : (e.reported != value) = true := by simpa using changed
  unfold judgeDevice
  simp only [differs, if_true]
  split <;> [simp; split <;> simp]

/-- R68: a frame that moves MB changes something. -/
theorem statusMarks_ne_nil {payload : List Byte} {s : State} (moved : s.sg.mb.reported ≠ (takePositions payload s.sg).mb.reported) :
    statusMarks s payload ≠ [] := by
  have value : (takePositions payload s.sg).mb.reported = statusPosition payload .mb := judgeDevice_reported _ _
  obtain ⟨mark, marked⟩ := Option.ne_none_iff_exists'.1 (judgeDevice_mark_ne_none (value ▸ moved))
  have found : (Dev.mb, mark) ∈ statusMarks s payload :=
    List.mem_filterMap.2 ⟨.mb, List.mem_cons_self, by rw [devOf]; exact congrArg (Option.map _) marked⟩
  exact List.ne_nil_of_mem found

/-- R68: the positions of a frame are taken, and reported. -/
def positionsTaken (payload : List Byte) (a : Act) : Act :=
  placeReport (switchgearReport { a.s with sg := takePositions payload a.s.sg } (statusMarks a.s payload))
    (a.modSg (takePositions payload))

/-- R76: the release of MB_TRIP is evaluated where MB moved or its fault mark was cleared. -/
def tripEvaluated (before : Device) (a : Act) : Act :=
  if before.reported != a.s.sg.mb.reported || (before.mark.isSome && a.s.sg.mb.mark.isNone) then evaluateTrip a else a

/-- R74: MB became CLOSED, IDLE, with the fault mark CLOSED. -/
def closedLate (before after : Device) : Bool :=
  before.reported != after.reported && after.reported == .closed && before.idle && after.mark == some .closed

/-- R68, R74, R76: what follows from a frame that changes something. -/
theorem switchgearStatus_of_changed {payload : List Byte} {a : Act} (changed : statusMarks a.s payload ≠ []) :
    switchgearStatus payload a =
      (if closedLate a.s.sg.mb (takePositions payload a.s.sg).mb then requestMbOpen .protection else id)
        ((tripEvaluated a.s.sg.mb (positionsTaken payload a)).tellSwitchgear
          (a.s.sg.mb.reported != (takePositions payload a.s.sg).mb.reported)) := by
  have marked : (statusMarks a.s payload).isEmpty = false := by simpa using changed
  simp only [switchgearStatus, marked]
  by_cases late : closedLate a.s.sg.mb (takePositions payload a.s.sg).mb = true
  · rw [if_pos late]
    exact if_pos late
  · rw [if_neg late]
    exact if_neg late

theorem closedLate_iff (before after : Device) : closedLate before after = true ↔
    before.reported ≠ after.reported ∧ after.reported = .closed ∧ before.move = none ∧ after.mark = some .closed := by
  simp only [closedLate, Bool.and_eq_true, bne_iff_ne, beq_iff_eq, idle_iff, and_assoc]

theorem tripEvaluated_of_due {before : Device} {a : Act}
    (due : before.reported ≠ a.s.sg.mb.reported ∨ before.mark ≠ none ∧ a.s.sg.mb.mark = none) :
    tripEvaluated before a = evaluateTrip a :=
  if_pos (by simpa [← Option.ne_none_iff_isSome] using due)

theorem tripEvaluated_of_not_due {before : Device} {a : Act} (stands : before.reported = a.s.sg.mb.reported)
    (kept : ¬ (before.mark ≠ none ∧ a.s.sg.mb.mark = none)) : tripEvaluated before a = a :=
  if_neg (by simpa [stands, ← Option.ne_none_iff_isSome] using kept)

/-- R76: the release of MB_TRIP. -/
theorem tripMayRelease_iff (s : State) :
    tripMayRelease s = true ↔ s.sg.mb.reported = .opened ∧ s.lm.confirmed ≠ .over ∧ s.sg.mb.mark = none := by
  simp only [tripMayRelease, Bool.and_eq_true, beq_iff_eq, bne_iff_ne, Option.isNone_iff_eq_none, and_assoc]

/-- R77: MB's position is lost where it was not UNKNOWN already. -/
theorem switchgearLost_notes (a : Act) : (switchgearLost a).notes = a.notes ++ ([.panMb .a, .panMb .b, .coSwitch, .iceEvaluate .other]
    ++ (if a.s.sg.mb.reported = .unknown then [] else [.iceAllocate]) ++ [.gateReview]) := by
  by_cases unknown : a.s.sg.mb.reported = .unknown <;>
    simp [switchgearLost, Act.tellSwitchgear, Act.notify, unknown]

/-- R77: the mark of a device that is lost (assumption log 36). -/
theorem lossMark_eq (e : Device) :
    lossMark e = if e.reported = .unknown then none else if e.move.isSome then some .during else some .uncommanded := by
  unfold lossMark Device.idle
  cases e.move <;> rfl

/-- Settles O29: a frame by whether it changes something, moves MB, clears its fault mark or closes it late; the release of MB_TRIP by
its three conditions; the loss of the head device by device. -/
theorem statusReleasesTheTripAndLossClearsTheRecord : Obligations.StatusReleasesTheTripAndLossClearsTheRecord := by
  refine ⟨fun payload a => ⟨fun still => ?_, fun changed stands cleared => ?_, fun changed stands kept => ?_,
    fun changed moved timely => ?_, fun late => ?_⟩, fun a => ⟨fun release => ?_, fun stands => ?_, rfl, rfl⟩,
    fun a => ⟨fun d => ?_, rfl, ?_, ?_⟩⟩
  · exact if_pos (List.isEmpty_iff.2 still)
  · have timely : ¬ closedLate a.s.sg.mb (takePositions payload a.s.sg).mb := fun late => stands ((closedLate_iff _ _).1 late).1
    rw [switchgearStatus_of_changed changed, if_neg timely, tripEvaluated_of_due (.inr cleared)]
    simp only [not_not.1 stands, bne_self_eq_false]
    rfl
  · have timely : ¬ closedLate a.s.sg.mb (takePositions payload a.s.sg).mb := fun late => stands ((closedLate_iff _ _).1 late).1
    rw [switchgearStatus_of_changed changed, if_neg timely, tripEvaluated_of_not_due (not_not.1 stands) kept]
    simp only [not_not.1 stands, bne_self_eq_false]
    rfl
  · rw [switchgearStatus_of_changed changed, if_neg (mt (closedLate_iff _ _).1 fun late => timely late),
      tripEvaluated_of_due (.inl moved), bne_iff_ne.2 moved]
    rfl
  · rw [switchgearStatus_of_changed (statusMarks_ne_nil late.1), if_pos ((closedLate_iff _ _).2 late),
      tripEvaluated_of_due (.inl late.1), bne_iff_ne.2 late.1]
    rfl
  · exact if_pos ((tripMayRelease_iff a.s).2 release)
  · exact if_neg (mt (tripMayRelease_iff a.s).1 stands)
  · cases d <;> rfl
  · simp only [← lossMark_eq]
    rfl
  · rw [switchgearLost_notes]
    simp only [List.append_assoc]

end Sys2Proof.Machine
namespace Sys2Proof.Machine

/-! SUPPORT. What keeps the Switchgear Record, the hold slots, the Position Record, the Changeover Record and the Ice Record in order
(04, 06, 07, 08, 09): one relation between the states of two acts for the order of the records, and one between the acts that adds
their notes. SET_MODE STANDBY leaves the trigger timer running until the route unit takes its note (R128), so the notes of an act in
STANDBY have to be few; here they are counted without asking the Pan Records to be in order (03). -/

/-! ## The records in order -/

/-- 07, The Position Record: the fields of the last frame are present together, and a stale deadline runs while FRESH. -/
def PositionRecord.InOrder (r : PositionRecord) : Prop :=
  (r.last.isSome ↔ r.frameTime.isSome) ∧ (r.last.isSome ↔ r.frameStale.isSome) ∧ (r.staleDeadline.isSome ↔ r.fresh)

/-- R121, R128: the trigger timer runs in RUN alone, and while the Position Record is FRESH. -/
def TimerInOrder (s : State) : Prop := s.pr.triggerTimer.isSome → s.vl.mode = .run ∧ s.pr.position.fresh

/-- R133: a step in which a changeover is in progress. -/
def CoStep.progress (step : CoStep) : Bool := step != .idle && step != .aborting

/-- 08, The Changeover Record: what is present in which step. -/
def Changeover.InOrder (c : Changeover) : Prop :=
  (c.verifyDeadline.isSome → c.step = .verifying) ∧ (c.raiseTimer.isSome → c.step = .awaitRaise)
    ∧ (c.usable.isSome ↔ c.step.progress) ∧ (c.step = .idle → c.requested = [] ∧ c.awaited = [])

/-- 09, The Ice Record: scrape pan and phase are present in SCRAPE. -/
def Ice.InOrder (i : Ice) : Prop := (i.scrapePan.isSome ↔ i.state = .scrape) ∧ (i.phase.isSome ↔ i.state = .scrape)

theorem changeoverInOrder_iff (s : State) : ChangeoverInOrder s ↔ s.co.InOrder := Iff.rfl

theorem iceInOrder_iff (s : State) : IceInOrder s ↔ s.ice.InOrder := Iff.rfl

theorem positionInOrder_iff (s : State) : PositionInOrder s ↔ s.pr.position.InOrder ∧ TimerInOrder s := by
  simp only [PositionInOrder, PositionRecord.InOrder, TimerInOrder, and_assoc]

/-- The records of two states that are the same. -/
structure SameRecords (s t : State) : Prop where
  devices : t.sg.get = s.sg.get
  holds : t.holds = s.holds
  route : t.pr = s.pr
  changeover : t.co = s.co
  ice : t.ice = s.ice
  mode : t.vl.mode = s.vl.mode

/-- Each record that is in order in a state is in order in a later one of the same mode. -/
structure RecordsKept (s t : State) : Prop where
  mode : t.vl.mode = s.vl.mode
  devices : DevicesInOrder s → DevicesInOrder t
  holds : HoldsInOrder s → HoldsInOrder t
  position : s.pr.position.InOrder → t.pr.position.InOrder
  timer : TimerInOrder s → TimerInOrder t
  changeover : s.co.InOrder → t.co.InOrder
  ice : s.ice.InOrder → t.ice.InOrder

theorem RecordsKept.refl (s : State) : RecordsKept s s := ⟨rfl, id, id, id, id, id, id⟩

theorem RecordsKept.trans {s t u : State} (h : RecordsKept s t) (g : RecordsKept t u) : RecordsKept s u where
  mode := g.mode.trans h.mode
  devices := g.devices ∘ h.devices
  holds := g.holds ∘ h.holds
  position := g.position ∘ h.position
  timer := g.timer ∘ h.timer
  changeover := g.changeover ∘ h.changeover
  ice := g.ice ∘ h.ice

theorem SameRecords.refl (s : State) : SameRecords s s := ⟨rfl, rfl, rfl, rfl, rfl, rfl⟩

theorem devicesInOrder_of_get {s t : State} (devices : t.sg.get = s.sg.get) : DevicesInOrder s → DevicesInOrder t := by
  unfold DevicesInOrder devOf
  rw [devices]
  exact id

theorem holdsInOrder_of_eq {s t : State} (holds : t.holds = s.holds) : HoldsInOrder s → HoldsInOrder t := by
  unfold HoldsInOrder holdOf
  rw [holds]
  exact id

theorem timerInOrder_of_eq {s t : State} (route : t.pr = s.pr) (mode : t.vl.mode = s.vl.mode) : TimerInOrder s → TimerInOrder t := by
  unfold TimerInOrder
  rw [route, mode]
  exact id

theorem SameRecords.kept {s t : State} (h : SameRecords s t) : RecordsKept s t where
  mode := h.mode
  devices := devicesInOrder_of_get h.devices
  holds := holdsInOrder_of_eq h.holds
  position := h.route ▸ id
  timer := timerInOrder_of_eq h.route h.mode
  changeover := h.changeover ▸ id
  ice := h.ice ▸ id

/-! ## What an act has still to do -/

/-- The changes of state that a pantograph has left while none is raised: from raised to LOWERING, and from there, or from a phase
that stands where it should not, to DOWN or FAULT. -/
def PanRecord.unrest (r : PanRecord) : Nat := if r.raised then 2 else if r.state = .lowering ∨ r.phase.isSome then 1 else 0

/-- A bound of the notes that an act has still to take, each rank at the number of notes that a step down leaves. -/
def Act.effort (a : Act) : Nat :=
  weights a.notes + 3 * (a.s.pans.a.unrest + a.s.pans.b.unrest) + 5 * a.s.sg.rank + 2 * a.s.co.step.rank

/-- An act that follows another within one event: the records are kept, the route unit's note of STANDBY waits on, and in STANDBY no
more than `k` notes have joined that no rank has paid for. -/
structure Follows (k : Nat) (a b : Act) : Prop where
  kept : RecordsKept a.s b.s
  waits : .routeStandby ∈ a.notes → .routeStandby ∈ b.notes
  paid : a.s.vl.mode = .standby → b.effort ≤ a.effort + k

/-- An act that follows another in which the pantographs, the switchgear and the commands to the heads alone may have changed. -/
structure Actuates (a b : Act) : Prop where
  holds : b.s.holds = a.s.holds
  route : b.s.pr = a.s.pr
  changeover : b.s.co = a.s.co
  ice : b.s.ice = a.s.ice
  mode : b.s.vl.mode = a.s.vl.mode
  devices : DevicesInOrder a.s → DevicesInOrder b.s
  waits : .routeStandby ∈ a.notes → .routeStandby ∈ b.notes
  paid : a.s.vl.mode = .standby → b.effort ≤ a.effort

theorem Follows.refl (a : Act) : Follows 0 a a := ⟨.refl _, id, fun _ => le_rfl⟩

theorem Follows.trans {j k : Nat} {a b c : Act} (h : Follows j a b) (g : Follows k b c) : Follows (j + k) a c where
  kept := h.kept.trans g.kept
  waits := g.waits ∘ h.waits
  paid standby := by
    have first := h.paid standby
    have second := g.paid (h.kept.mode.trans standby)
    omega

theorem Follows.slack {j k : Nat} {a b : Act} (h : Follows j a b) (le : j ≤ k) : Follows k a b :=
  ⟨h.kept, h.waits, fun standby => (h.paid standby).trans (Nat.add_le_add_left le _)⟩

theorem Actuates.refl (a : Act) : Actuates a a := ⟨rfl, rfl, rfl, rfl, rfl, id, id, fun _ => le_rfl⟩

theorem Actuates.trans {a b c : Act} (h : Actuates a b) (g : Actuates b c) : Actuates a c where
  holds := g.holds.trans h.holds
  route := g.route.trans h.route
  changeover := g.changeover.trans h.changeover
  ice := g.ice.trans h.ice
  mode := g.mode.trans h.mode
  devices := g.devices ∘ h.devices
  waits := g.waits ∘ h.waits
  paid standby := (g.paid (h.mode.trans standby)).trans (h.paid standby)

theorem Actuates.follows {a b : Act} (h : Actuates a b) : Follows 0 a b where
  kept :=
    { mode := h.mode, devices := h.devices, holds := holdsInOrder_of_eq h.holds, position := h.route ▸ id
      timer := timerInOrder_of_eq h.route h.mode, changeover := h.changeover ▸ id, ice := h.ice ▸ id }
  waits := h.waits
  paid := h.paid

theorem Actuates.foldl {β : Type} (f : Act → β → Act) (h : ∀ a x, Actuates a (f a x)) (l : List β) (a : Act) :
    Actuates a (l.foldl f a) := by
  induction l generalizing a with
  | nil => exact .refl a
  | cons x l ih => exact (h a x).trans (ih _)

theorem Follows.foldl {β : Type} (f : Act → β → Act) (h : ∀ a x, Follows 0 a (f a x)) (l : List β) (a : Act) :
    Follows 0 a (l.foldl f a) := by
  induction l generalizing a with
  | nil => exact .refl a
  | cons x l ih => exact (h a x).trans (ih _)

/-- The records, the Pan Records and the notes are as they were. -/
theorem Actuates.of_same {a b : Act} (h : SameRecords a.s b.s) (pans : b.s.pans = a.s.pans) (notes : b.notes = a.notes) :
    Actuates a b where
  holds := h.holds
  route := h.route
  changeover := h.changeover
  ice := h.ice
  mode := h.mode
  devices := devicesInOrder_of_get h.devices
  waits := notes ▸ id
  paid _ := by simp [Act.effort, Switchgear.rank, h.devices, h.changeover, pans, notes]

/-- Notes join those that wait. -/
theorem Follows.notify (ns : List Note) (a : Act) : Follows (weights ns) a (a.notify ns) where
  kept := .refl _
  waits := List.mem_append_left _
  paid _ := by simp [Act.effort]; omega

theorem unrest_pans (s : State) (p : Pan) :
    s.pans.a.unrest + s.pans.b.unrest = (panOf s p).unrest + (panOf s (otherPan p)).unrest := by
  cases p
  · rfl
  · exact Nat.add_comm _ _

/-- One Pan Record is written and notes are left: its rank pays for them. -/
theorem Actuates.of_set {a b : Act} (p : Pan) (r : PanRecord) (ns : List Note) (h : SameRecords a.s b.s)
    (pans : b.s.pans = a.s.pans.set p r) (notes : b.notes = a.notes ++ ns)
    (paid : weights ns + 3 * r.unrest ≤ 3 * (panOf a.s p).unrest) : Actuates a b where
  holds := h.holds
  route := h.route
  changeover := h.changeover
  ice := h.ice
  mode := h.mode
  devices := devicesInOrder_of_get h.devices
  waits := notes ▸ List.mem_append_left _
  paid _ := by
    have one : panOf b.s p = r := by simp [panOf, pans]
    have other : panOf b.s (otherPan p) = panOf a.s (otherPan p) := by simp [panOf, pans]
    simp only [Act.effort, unrest_pans b.s p, unrest_pans a.s p, one, other, Switchgear.rank, h.devices, h.changeover, notes,
      weights_append]
    omega

/-- In RUN no rank has to pay. -/
theorem Actuates.of_run {a b : Act} (ns : List Note) (h : SameRecords a.s b.s) (notes : b.notes = a.notes ++ ns)
    (run : a.s.vl.mode = .run) : Actuates a b where
  holds := h.holds
  route := h.route
  changeover := h.changeover
  ice := h.ice
  mode := h.mode
  devices := devicesInOrder_of_get h.devices
  waits := notes ▸ List.mem_append_left _
  paid standby := absurd (run.symm.trans standby) (by simp)

/-! ## Commands toward the heads (05, 06, 10) -/

theorem placeReport_actuates (r : Report) (a : Act) : Actuates a (placeReport r a) := .of_same ⟨rfl, rfl, rfl, rfl, rfl, rfl⟩ rfl rfl

theorem deliver_actuates (c : Command) (a : Act) : Actuates a (deliver c a).1 := by
  unfold deliver
  split <;> exact .of_same ⟨rfl, rfl, rfl, rfl, rfl, rfl⟩ rfl rfl

theorem present_actuates (c : Command) (a : Act) : Actuates a (present c a).1 := by
  have delivered := deliver_actuates c a
  unfold present
  split
  · split
    · exact placeReport_actuates _ a
    · split <;> rename_i e <;> rw [e] at delivered <;> exact delivered
  · exact placeReport_actuates _ a

theorem present_eq_actuates {c : Command} {a b : Act} {r : Answer} (e : present c a = (b, r)) : Actuates a b := by
  have presented := present_actuates c a
  rwa [e] at presented

theorem presentVent_actuates (p : Pan) (a : Act) : Actuates a (presentVent p a) := present_actuates _ a

/-! ## Switchgear (04) -/

/-- R70: a device that begins a move has its target. -/
theorem beginMove_devices (d : Dev) (target : Pos) (o : Origin) (a : Act) (h : DevicesInOrder a.s) :
    DevicesInOrder (beginMove d target o a).s := by
  intro other
  by_cases same : d = other
  · subst same
    simp [beginMove, Act.tellSwitchgear, devOf]
  · simpa [beginMove, Act.tellSwitchgear, devOf, Switchgear.get_set_other _ _ _ _ same] using h other

/-- R70, R71: the move that begins pays for what it tells. -/
theorem beginMove_actuates (d : Dev) (target : Pos) (o : Origin) (a : Act) (h : moveCheck a.s d target = .free) :
    Actuates a (beginMove d target o a) where
  holds := rfl
  route := rfl
  changeover := rfl
  ice := rfl
  mode := rfl
  devices := beginMove_devices d target o a
  waits := List.mem_append_left _
  paid _ := by
    let move : Move := { origin := o, deadline := a.s.now + moveTimeout (settings a.s) d target
                         timeout := moveTimeout (settings a.s) d target }
    have free := moveRank_of_free a.s d target move h
    have set := a.s.sg.rank_set d { devOf a.s d with target := some target, move := some move }
    have told : weights (beginMove d target o a).notes = weights a.notes + 5 := weights_append _ _
    change weights (beginMove d target o a).notes + 3 * (a.s.pans.a.unrest + a.s.pans.b.unrest)
      + 5 * (a.s.sg.set d { devOf a.s d with target := some target, move := some move }).rank + 2 * a.s.co.step.rank ≤ _
    simp only [Act.effort, devOf] at *
    omega

theorem moveRequest_actuates (d : Dev) (target : Pos) (o : Origin) (a : Act) : Actuates a (moveRequest d target o a).1 := by
  unfold moveRequest
  split
  · split
    · exact .refl a
    · exact .refl a
    · rename_i free
      split <;> rename_i e <;> have presented := present_eq_actuates e
      · exact presented.trans (beginMove_actuates d target o _ ((moveCheck_of_aside (present_eq_aside e) d target).trans free))
      · exact presented
      · exact presented
  · exact .refl a

theorem requestMbOpen_actuates (o : Origin) (a : Act) : Actuates a (requestMbOpen o a) := moveRequest_actuates _ _ _ a

theorem assertTrip_actuates (a : Act) : Actuates a (assertTrip a) :=
  .of_same ⟨funext fun d => by cases d <;> rfl, rfl, rfl, rfl, rfl, rfl⟩ rfl rfl

theorem evaluateTrip_actuates (a : Act) : Actuates a (evaluateTrip a) := by
  unfold evaluateTrip
  split
  · exact .of_same ⟨funext fun d => by cases d <;> rfl, rfl, rfl, rfl, rfl, rfl⟩ rfl rfl
  · exact .refl a

/-! ## Lowering a pantograph (R52 to R58) -/

theorem unrest_of_lowering {r : PanRecord} (h : r.state = .lowering) : r.unrest = 1 := by simp [PanRecord.unrest, PanRecord.raised, h]

theorem unrest_pos_of_phase {r : PanRecord} (h : r.phase.isSome) : 0 < r.unrest := by
  unfold PanRecord.unrest
  split <;> simp [h]

/-- A Pan Record whose state and phase tell no more of it than before. -/
theorem modPan_actuates (p : Pan) (f : PanRecord → PanRecord) (a : Act) (h : (f (panOf a.s p)).unrest ≤ (panOf a.s p).unrest) :
    Actuates a (a.modPan p f) :=
  .of_set p (f (panOf a.s p)) [] ⟨rfl, rfl, rfl, rfl, rfl, rfl⟩ rfl (List.append_nil _).symm (by simpa [weights] using h)

/-- R57, R58: a pantograph that is not at rest ends its lowering. -/
theorem finishLowering_actuates (p : Pan) (latch : Option FaultLatch) (vent quiet : Bool) (a : Act)
    (h : 0 < (panOf a.s p).unrest) : Actuates a (finishLowering p latch vent quiet a) := by
  have ended : (endedRecord (panOf a.s p) latch vent).unrest = 0 := by cases latch <;> rfl
  have notes := weights_panNotes p (if latch.isSome then .fault else .down) none quiet
  refine .of_set p (endedRecord (panOf a.s p) latch vent) (panNotes p (if latch.isSome then .fault else .down) none quiet)
    ⟨?_, ?_, ?_, ?_, ?_, ?_⟩ ?_ ?_ (by omega) <;> rw [finishLowering_eq] <;> cases latch <;> rfl

theorem endAtContact_actuates (p : Pan) (quiet : Bool) (a : Act) (h : 0 < (panOf a.s p).unrest) :
    Actuates a (endAtContact p quiet a) := by
  unfold endAtContact
  dsimp only
  split
  · refine (presentVent_actuates p a).trans (finishLowering_actuates p _ _ quiet _ ?_)
    rwa [panOf, presentVent_pans]
  · exact finishLowering_actuates p _ _ quiet a h

theorem testContact_actuates (p : Pan) (quiet : Bool) (a : Act) (h : 0 < (panOf a.s p).unrest) :
    Actuates a (testContact p quiet a) := by
  unfold testContact
  split
  · exact endAtContact_actuates p quiet a h
  · exact .refl a

/-- A Pan Record that is not at rest may enter a phase. -/
theorem unrest_of_phase {r r' : PanRecord} (state : r'.state = r.state) (h : 0 < r.unrest) : r'.unrest ≤ r.unrest := by
  have same : r'.raised = r.raised := by simp [PanRecord.raised, state]
  by_cases up : r.raised = true
  · simp [PanRecord.unrest, same, up]
  · have small : r'.unrest ≤ 1 := by
      rw [PanRecord.unrest, if_neg (same ▸ up)]
      split <;> omega
    omega

theorem enterVenting_phase (p : Pan) (immediate : Bool) (a : Act) :
    (panOf (enterVenting p immediate a).s p).phase = some .venting := by simp [enterVenting, panOf]

theorem leaveAwaitMb_actuates (p : Pan) (immediate quiet : Bool) (a : Act) (h : 0 < (panOf a.s p).unrest) :
    Actuates a (leaveAwaitMb p immediate quiet a) := by
  have vented : Actuates a (enterVenting p immediate a) :=
    (modPan_actuates p _ a (unrest_of_phase rfl h)).trans (presentVent_actuates p _)
  have phase : 0 < (panOf (enterVenting p immediate a).s p).unrest :=
    unrest_pos_of_phase (Option.isSome_of_eq_some (enterVenting_phase p immediate a))
  exact vented.trans (testContact_actuates p quiet _ phase)

theorem testAwaitMb_actuates (p : Pan) (quiet : Bool) (a : Act) : Actuates a (testAwaitMb p quiet a) := by
  unfold testAwaitMb
  split
  · rename_i awaiting
    exact leaveAwaitMb_actuates p false quiet a (unrest_pos_of_phase (Option.isSome_of_eq_some awaiting.1))
  · exact .refl a

/-- R53: the first cause of a raised pantograph begins a lowering. -/
theorem loweringBegun_actuates (p : Pan) (cause : LowerCause) (phase : LowerPhase) (guard : Option Nat) (vent quiet : Bool) (a : Act)
    (h : (panOf a.s p).raised = true) : Actuates a (loweringBegun p cause phase guard vent quiet a) := by
  refine .of_set p _ (panNotes p .lowering (some cause) quiet) ⟨rfl, rfl, rfl, rfl, rfl, rfl⟩ rfl rfl ?_
  have notes := weights_panNotes p .lowering (some cause) quiet
  have before : (panOf a.s p).unrest = 2 := by simp [PanRecord.unrest, h]
  have after : (loweringRecord (panOf a.s p) cause (a.s.now + (settings a.s).lowerTimeout) phase guard vent).unrest = 1 := rfl
  omega

theorem beginLowering_actuates (p : Pan) (cause : LowerCause) (kind : CauseKind) (quiet : Bool) (a : Act)
    (h : (panOf a.s p).raised = true) : Actuates a (beginLowering p cause kind quiet a) := by
  cases kind with
  | orderly =>
    by_cases awaits : (panOf a.s p).role = some .collect ∧ mbEngaged a.s = true
    · rw [beginLowering_awaiting p cause quiet a awaits]
      exact ((loweringBegun_actuates p cause .awaitMb _ _ quiet a h).trans (requestMbOpen_actuates .pan _)).trans
        (testAwaitMb_actuates p quiet _)
    · rw [beginLowering_orderly p cause quiet a awaits]
      exact (loweringBegun_actuates p cause .venting none _ quiet a h).trans (presentVent_actuates p _)
  | immediate =>
    rw [beginLowering_immediate]
    have begun := (loweringBegun_actuates p cause .venting none true quiet a h).trans (presentVent_actuates p _)
    have state := loweringBegun_state p cause .venting none true quiet a
    split
    · refine (begun.trans (requestMbOpen_actuates .pan _)).trans (testContact_actuates p quiet _ ?_)
      rw [panOf, requestMbOpen_pans, presentVent_pans, ← panOf, unrest_of_lowering state]
      exact Nat.one_pos
    · refine begun.trans (testContact_actuates p quiet _ ?_)
      rw [panOf, presentVent_pans, ← panOf, unrest_of_lowering state]
      exact Nat.one_pos

theorem joinLowering_actuates (p : Pan) (cause : LowerCause) (kind : CauseKind) (quiet : Bool) (a : Act) :
    Actuates a (joinLowering p cause kind quiet a) := by
  have joined := modPan_actuates p
    (fun r => { r with causes := if r.causes.contains cause then r.causes else r.causes ++ [cause] }) a le_rfl
  unfold joinLowering
  dsimp only
  split
  · exact joined
  · split
    · rename_i awaiting
      exact joined.trans (leaveAwaitMb_actuates p true quiet _ (unrest_pos_of_phase (Option.isSome_of_eq_some awaiting)))
    · exact joined.trans (modPan_actuates p _ _ le_rfl)

theorem lowerPan_actuates (p : Pan) (cause : LowerCause) (kind : CauseKind) (quiet : Bool) (a : Act) :
    Actuates a (lowerPan p cause kind quiet a).1 := by
  unfold lowerPan
  split <;> rename_i state
  · exact beginLowering_actuates p cause kind quiet a (by simp [PanRecord.raised, state])
  · exact beginLowering_actuates p cause kind quiet a (by simp [PanRecord.raised, state])
  · exact joinLowering_actuates p cause kind quiet a
  · exact .refl a
  · exact .refl a

theorem lowerBoth_actuates (cause : LowerCause) (kind : CauseKind) (a : Act) : Actuates a (lowerBoth cause kind a).1 :=
  (lowerPan_actuates .a cause kind false a).trans (lowerPan_actuates .b cause kind false _)

end Sys2Proof.Machine
namespace Sys2Proof.Machine

theorem Actuates.kept {a b : Act} (h : Actuates a b) : RecordsKept a.s b.s := h.follows.kept

/-! ## Raising a pantograph and its hold pressure (R44 to R51, R61) -/

theorem takeRaise_actuates (p : Pan) (role : PanRole) (pr : ProfileRecord) (first : Stage) (o : Origin) (a : Act)
    (run : a.s.vl.mode = .run) : Actuates a (takeRaise p role pr first o a) := by
  have taken : Actuates a (raiseTaken p role pr first o a) :=
    .of_run (panNotes p .raising none false) ⟨rfl, rfl, rfl, rfl, rfl, rfl⟩ rfl run
  rw [takeRaise_eq]
  split
  · exact taken.trans (lowerPan_actuates p .strip .immediate false _)
  · exact taken

theorem raisePan_actuates (p : Pan) (role : PanRole) (profile : Nat) (o : Origin) (a : Act) :
    Actuates a (raisePan p role profile o a).1 := by
  unfold raisePan
  split
  · exact .refl a
  · rename_i checked
    obtain ⟨run, -, -, -⟩ := (raiseRefusal_none_iff _ _ _ _).1 checked
    split
    · exact .refl a
    · split
      · exact .refl a
      · dsimp only
        split <;> rename_i e <;> have presented := present_eq_actuates e
        · exact presented
        · exact presented.trans (takeRaise_actuates p role _ _ o _ (presented.mode.trans run))
        · exact presented.trans (takeRaise_actuates p role _ _ o _ (presented.mode.trans run))

theorem presentHold_actuates (p : Pan) (pressure : Nat) (a : Act) : Actuates a (presentHold p pressure a) := by
  have held (b : Act) : Actuates b (b.modPan p fun r => { r with lastHold := some pressure }) := modPan_actuates p _ b le_rfl
  unfold presentHold
  split <;> rename_i e <;> have presented := present_eq_actuates e
  · exact presented
  · exact presented.trans (held _)
  · exact presented.trans (held _)

theorem updateHold_actuates (p : Pan) (a : Act) : Actuates a (updateHold p a) := by
  unfold updateHold
  dsimp only
  split
  · split
    · exact presentHold_actuates p _ a
    · exact .refl a
  · exact .refl a

theorem panHeadLost_actuates (p : Pan) (a : Act) : Actuates a (panHeadLost p a) :=
  (modPan_actuates p _ a le_rfl).trans (lowerPan_actuates p .headLost .immediate false _)

/-! ## Losing the switchgear head (R77) -/

/-- R77: a device that is lost has no move. -/
theorem switchgearLost_devices (a : Act) : DevicesInOrder (switchgearLost a).s := fun d => by cases d <;> nofun

theorem switchgearLost_follows (a : Act) : Follows 56 a (switchgearLost a) where
  kept := { RecordsKept.refl a.s with devices := fun _ => switchgearLost_devices a }
  waits := List.mem_append_left _
  paid _ := by
    have told : weights (switchgearLost a).notes ≤ weights a.notes + 6 := by
      rw [switchgearLost_notes, weights_append]
      split <;> exact Nat.add_le_add_left (by decide) _
    have devices := (switchgearLost a).s.sg.rank_le
    change weights (switchgearLost a).notes + 3 * (a.s.pans.a.unrest + a.s.pans.b.unrest) + 5 * (switchgearLost a).s.sg.rank
      + 2 * a.s.co.step.rank ≤ _
    simp only [Act.effort]
    omega

/-! ## Hold slots (06) -/

/-- R98, R105: what a slot of a role may hold. -/
def Held.Fits (role : Role) (h : Held) : Prop :=
  h.command.role = role ∧ h.command.origin = .vehicle ∧ h.command.content.alwaysAdmitted = false

/-- R105: a slot is written with what may stand there. -/
theorem setHold_holds (role : Role) (held : Option Held) (a : Act)
    (fits : HoldsInOrder a.s → ∀ h ∈ held, h.Fits role ∧ role ≠ .line ∧ role ≠ .climate) (order : HoldsInOrder a.s) :
    HoldsInOrder (a.setHold role held).s := by
  have same : holdOf (a.setHold role held).s role = held := updAt_same _ _ _
  have other (r : Role) (differs : role ≠ r) : holdOf (a.setHold role held).s r = holdOf a.s r :=
    updAt_other _ _ _ _ fun e => differs (roleIndex_injective e)
  obtain ⟨line, climate, heldFits⟩ := id order
  have empty (r : Role) (slotless : r = .line ∨ r = .climate) (none : holdOf a.s r = none) :
      holdOf (a.setHold role held).s r = .none := by
    by_cases e : role = r
    · subst e
      refine same.trans (Option.eq_none_iff_forall_ne_some.2 fun h found => ?_)
      obtain ⟨-, notLine, notClimate⟩ := fits order h found
      exact slotless.elim notLine notClimate
    · exact (other r e).trans none
  have fit (r : Role) : ∀ h ∈ holdOf (a.setHold role held).s r, h.Fits r := by
    by_cases e : role = r
    · subst e
      rw [same]
      exact fun h found => (fits order h found).1
    · rw [other r e]
      exact heldFits r
  exact ⟨empty .line (.inl rfl) line, empty .climate (.inr rfl) climate, fit⟩

theorem setHold_follows (role : Role) (held : Option Held) (a : Act)
    (fits : HoldsInOrder a.s → ∀ h ∈ held, h.Fits role ∧ role ≠ .line ∧ role ≠ .climate) : Follows 0 a (a.setHold role held) where
  kept := { RecordsKept.refl a.s with holds := setHold_holds role held a fits }
  waits := id
  paid _ := le_rfl

/-- R105: a slot is emptied. -/
theorem emptyHold_follows (role : Role) (a : Act) : Follows 0 a (a.setHold role none) := setHold_follows role none a fun _ _ found => by simp at found

theorem sendVehicle_actuates (c : Command) (a : Act) (h : ∀ d target, c.content = .move d target → moveCheck a.s d target = .free) :
    Actuates a (sendVehicle c a) := by
  have delivered := deliver_actuates c a
  have aside := deliver_aside c a
  unfold sendVehicle
  split <;> rename_i e <;> rw [e] at delivered aside
  · exact delivered
  · split
    · rename_i d target content
      exact delivered.trans (beginMove_actuates d target .vehicle _ ((moveCheck_of_aside aside d target).trans (h d target content)))
    all_goals exact delivered

theorem admitHeld_actuates (c : Command) (a : Act) : Actuates a (admitHeld c a) := by
  have sent (h : ∀ d target, c.content = .move d target → moveCheck a.s d target = .free) :
      Actuates a (sendVehicle c (reportGate c .admitted none none false a)) :=
    (placeReport_actuates _ a).trans (sendVehicle_actuates c _ h)
  unfold admitHeld
  split
  case h_1 d target content =>
    split
    · rename_i free
      refine sent fun d' target' content' => ?_
      obtain ⟨rfl, rfl⟩ := Content.move.inj (content.symm.trans content')
      exact free
    · exact placeReport_actuates _ a
    · exact placeReport_actuates _ a
  all_goals
    rename_i content
    exact sent fun d target other => by simp [content] at other

/-- A role whose slot holds something has one. -/
theorem slot_of_held {s : State} (order : HoldsInOrder s) {role : Role} {h : Held} (held : holdOf s role = some h) :
    h.Fits role ∧ role ≠ .line ∧ role ≠ .climate := by
  obtain ⟨line, climate, fits⟩ := order
  refine ⟨fits role h held, ?_, ?_⟩ <;> rintro rfl
  · simp [line] at held
  · simp [climate] at held

theorem reviewSlot_follows (a : Act) (role : Role) : Follows 0 a (reviewSlot a role) := by
  unfold reviewSlot
  split
  · exact .refl a
  · rename_i h held
    split
    · split
      · refine setHold_follows role _ a fun order _ found => ?_
        cases found
        have slot := slot_of_held order held
        exact slot
      · exact (emptyHold_follows role a).trans (admitHeld_actuates _ _).follows
    · exact .refl a

theorem reviewHolds_follows (a : Act) : Follows 0 a (reviewHolds a) := .foldl reviewSlot reviewSlot_follows _ a

theorem dropHold_follows (role : Role) (f : Failed) (l : Held → Option Failed) (a : Act) : Follows 0 a (dropHold role f l a) := by
  unfold dropHold
  split
  · exact .refl a
  · exact (emptyHold_follows role a).trans (placeReport_actuates _ _).follows

/-! ## Line Monitor (02) -/

theorem modLm_actuates (f : LineMonitor → LineMonitor) (a : Act) : Actuates a (a.modLm f) :=
  .of_same ⟨rfl, rfl, rfl, rfl, rfl, rfl⟩ rfl rfl

theorem raiseDemand_actuates (c : TripCause) (a : Act) : Actuates a (raiseDemand c a) := by
  unfold raiseDemand
  dsimp only
  split
  · exact ((placeReport_actuates _ a).trans (assertTrip_actuates _)).trans (requestMbOpen_actuates .protection _)
  · exact (placeReport_actuates _ a).trans (requestMbOpen_actuates .protection _)

theorem tellLine_follows (a : Act) : Follows 5 a a.tellLine :=
  Follows.notify [.tripRelease, .coLine, .iceEvaluate .other, .iceAllocate, .gateReview] a

theorem setConfirmed_follows (new : LineState) (cause : LineCause) (a : Act) : Follows 5 a (setConfirmed new cause a) := by
  unfold setConfirmed
  extract_lets previous since confirmed reported told
  split
  · exact (Follows.refl a).slack (Nat.zero_le _)
  · have first : Follows 5 a told := ((modLm_actuates _ a).trans (placeReport_actuates _ _)).follows.trans (tellLine_follows _)
    split
    · exact first.trans (raiseDemand_actuates _ _).follows
    · exact first

theorem persist_follows (w : WindowClass) (a : Act) : Follows 5 a (persist w a) := by
  unfold persist
  split
  · exact (modLm_actuates _ a).follows.slack (Nat.zero_le _)
  · split
    · exact (modLm_actuates _ a).follows.trans (setConfirmed_follows _ _ _)
    · exact (modLm_actuates _ a).follows.slack (Nat.zero_le _)

theorem closeWindow_follows (a : Act) : Follows 6 a (closeWindow a) :=
  have told (b : Act) : Follows 1 b (b.notify [.iceAllocate]) := Follows.notify [.iceAllocate] b
  ((((modLm_actuates _ a).follows.trans (persist_follows _ _)).trans (modLm_actuates _ _).follows).trans
    (modLm_actuates _ _).follows).trans (told _)

theorem joinWindow_follows (samples : List Int) (current : Nat) (a : Act) : Follows 6 a (joinWindow samples current a) := by
  unfold joinWindow
  dsimp only
  split
  · exact (modLm_actuates _ a).follows.trans (closeWindow_follows _)
  · exact (modLm_actuates _ a).follows.slack (Nat.zero_le _)

theorem lineLost_follows (a : Act) : Follows 5 a (lineLost a) := (modLm_actuates _ a).follows.trans (setConfirmed_follows _ _ _)

end Sys2Proof.Machine

namespace Sys2Proof.Machine

/-! ## Changeover (08) -/

/-- The Changeover Record changes within its step, and what is present in it fits the step. -/
theorem modCo_follows (f : Changeover → Changeover) (a : Act) (order : a.s.co.InOrder → (f a.s.co).InOrder)
    (step : (f a.s.co).step = a.s.co.step) : Follows 0 a (a.modCo f) where
  kept := { RecordsKept.refl a.s with changeover := order }
  waits := id
  paid _ := by simp [Act.effort, step]

/-- R137: what belongs to a step that is left is over, and the mark of the raise position's use fits the step reached. -/
theorem toStep_modCo_records (step : CoStep) (f : Changeover → Changeover) (a : Act)
    (usable : a.s.co.InOrder → ((f a.s.co).usable.isSome ↔ step.progress)) : RecordsKept a.s (toStep step (a.modCo f)).s :=
  { RecordsKept.refl a.s with changeover := fun order => ⟨nofun, nofun, usable order, fun _ => ⟨rfl, rfl⟩⟩ }

/-- R137: a step that lies below the one left pays for what its change tells. -/
theorem toStep_modCo_follows (step : CoStep) (f : Changeover → Changeover) (a : Act)
    (usable : a.s.co.InOrder → ((f a.s.co).usable.isSome ↔ step.progress))
    (below : a.s.vl.mode = .standby → step.rank < a.s.co.step.rank) : Follows 0 a (toStep step (a.modCo f)) where
  kept := toStep_modCo_records step f a usable
  waits := List.mem_append_left _
  paid standby := by
    have below := below standby
    have told : weights (toStep step (a.modCo f)).notes = weights a.notes + 2 := by
      unfold toStep Act.tellStep
      rw [Act.notify_notes, weights_append]
      rfl
    change weights (toStep step (a.modCo f)).notes + 3 * (a.s.pans.a.unrest + a.s.pans.b.unrest) + 5 * a.s.sg.rank
      + 2 * step.rank ≤ _
    simp only [Act.effort]
    omega

/-- R137: a change between two steps of a changeover in progress. -/
theorem toStep_follows (step : CoStep) (a : Act) (progress : a.s.co.step.progress = step.progress)
    (below : a.s.vl.mode = .standby → step.rank < a.s.co.step.rank) : Follows 0 a (toStep step a) :=
  toStep_modCo_follows step id a (fun ⟨_, _, usable, _⟩ => progress ▸ usable) below

theorem endChangeover_follows (result : CoResult) (reason : Option AbortReason) (left : CoStep) (passed : List CoStep) (a : Act)
    (h : a.s.vl.mode = .standby → 0 < a.s.co.step.rank) : Follows 0 a (endChangeover result reason left passed a) :=
  (toStep_modCo_follows .idle _ a (fun _ => by simp [CoStep.progress]) h).trans
    ((placeReport_actuates _ _).trans (placeReport_actuates _ _)).follows

theorem finishAbort_follows (left : CoStep) (passed : List CoStep) (a : Act)
    (h : a.s.vl.mode = .standby → 0 < a.s.co.step.rank) : Follows 0 a (finishAbort left passed a) :=
  endChangeover_follows _ _ left passed a h

theorem reportStep_follows (left : CoStep) (passed : List CoStep) (a : Act) : Follows 0 a (reportStep left passed a) :=
  (placeReport_actuates _ a).follows

end Sys2Proof.Machine
namespace Sys2Proof.Machine

/-- Outside IDLE moves may be requested and pantographs awaited. -/
theorem Changeover.InOrder.asking {c : Changeover} (order : c.InOrder) (busy : c.step ≠ .idle) (requested : List (Dev × Pos))
    (awaited : List Pan) : ({ c with requested, awaited } : Changeover).InOrder :=
  have ⟨verify, raise, usable, _⟩ := order
  ⟨verify, raise, usable, fun idle => absurd idle busy⟩

/-! ## Aborting (R150, R151) -/

theorem abortRaise_follows (a : Act) (p : Pan) (busy : a.s.co.step ≠ .idle) : Follows 0 a (abortRaise a p) := by
  unfold abortRaise
  split
  · have lowered := lowerPan_actuates p .changeover .orderly true a
    exact lowered.follows.trans (modCo_follows _ _ (fun order => order.asking (lowered.changeover ▸ busy) _ _) rfl)
  · exact .refl a

theorem abortOpen_follows (a : Act) (busy : a.s.co.step ≠ .idle) : Follows 0 a (abortOpen a) := by
  unfold abortOpen
  split
  · exact .refl a
  · have opened := requestMbOpen_actuates .sequencer a
    exact opened.follows.trans (modCo_follows _ _ (fun order => order.asking (opened.changeover ▸ busy) _ _) rfl)

theorem abortWrongPan_actuates (reason : AbortReason) (a : Act) : Actuates a (abortWrongPan reason a) := by
  unfold abortWrongPan
  split
  · exact lowerPan_actuates _ .changeover .orderly true a
  · exact .refl a

/-- R150: what an abort asks for, once the step is ABORTING. -/
theorem abortAsks_follows (reason : AbortReason) (a : Act) (busy : a.s.co.step ≠ .idle) :
    Follows 0 a (pansInOrder.foldl abortRaise (abortOpen (abortWrongPan reason a)))
      ∧ (pansInOrder.foldl abortRaise (abortOpen (abortWrongPan reason a))).s.co.step = a.s.co.step := by
  have wrong := (abortWrongPan_still reason a).step
  have opened := (abortOpen_still (abortWrongPan reason a)).step.trans wrong
  have first := (abortRaise_still (abortOpen (abortWrongPan reason a)) .a).step.trans opened
  refine ⟨?_, (abortRaise_still _ .b).step.trans first⟩
  exact (((abortWrongPan_actuates reason a).follows.trans (abortOpen_follows _ (wrong ▸ busy))).trans
    (abortRaise_follows _ .a (opened ▸ busy))).trans (abortRaise_follows _ .b (first ▸ busy))

/-- R150: an abort may be taken in any step that lies above ABORTING. -/
theorem abort_follows (reason : AbortReason) (detail : Option AbortDetail) (left : CoStep) (passed : List CoStep) (a : Act)
    (h : a.s.vl.mode = .standby → CoStep.rank .aborting < a.s.co.step.rank) :
    Follows 0 a (abort reason detail left passed a) := by
  unfold abort
  extract_lets at' begun acted
  have entered : Follows 0 a begun := toStep_modCo_follows .aborting _ a (fun _ => by simp [CoStep.progress]) h
  have aborting : begun.s.co.step = .aborting := rfl
  obtain ⟨asked, step⟩ := abortAsks_follows reason begun (by simp [aborting])
  have done : Follows 0 a acted := entered.trans asked
  split
  · exact done.trans (finishAbort_follows _ _ _ fun _ => by rw [step, aborting]; exact Nat.one_pos)
  · exact done.trans (reportStep_follows _ _ _)

theorem abortOnEvent_follows (reason : AbortReason) (a : Act) : Follows 0 a (abortOnEvent reason a) := by
  unfold abortOnEvent
  split
  · rename_i progress
    exact abort_follows reason none _ [] a fun _ => rank_of_inProgress progress
  · exact .refl a

/-! ## The steps, last first (R137 to R147) -/

theorem seqMove_follows (d : Dev) (target : Pos) (a : Act) (busy : a.s.co.step ≠ .idle) : Follows 0 a (seqMove d target a).1 := by
  have requested := moveRequest_actuates d target .sequencer a
  unfold seqMove
  split
  rename_i e
  rw [e] at requested
  split
  · exact requested.follows
  · exact requested.follows.trans (modCo_follows (fun c => { c with requested := c.requested ++ [(d, target)] }) _
      (fun order => order.asking (requested.changeover ▸ busy) _ _) rfl)

/-- R147. -/
theorem enterClosing_follows (left : CoStep) (passed : List CoStep) (a : Act) (progress : a.s.co.step.progress = true)
    (h : a.s.vl.mode = .standby → CoStep.rank .closing < a.s.co.step.rank) : Follows 0 a (enterClosing left passed a) := by
  have entered := toStep_follows .closing a progress h
  have moved := seqMove_follows .mb .closed (toStep .closing a) (by simp)
  have step := (seqMove_still .mb .closed (toStep .closing a)).step
  unfold enterClosing
  split <;> rename_i e <;> rw [e] at moved step <;> have done := entered.trans moved
  · exact done.trans (abort_follows _ _ _ _ _ fun _ => by rw [step, toStep_step]; decide)
  · split
    · exact done.trans (endChangeover_follows _ _ _ _ _ fun _ => by rw [step, toStep_step]; decide)
    · exact done.trans (reportStep_follows _ _ _)

/-- R146. -/
theorem enterVerifying_follows (left : CoStep) (passed : List CoStep) (a : Act) (progress : a.s.co.step.progress = true)
    (h : a.s.vl.mode = .standby → CoStep.rank .verifying < a.s.co.step.rank) : Follows 0 a (enterVerifying left passed a) := by
  unfold enterVerifying
  extract_lets deadline entered
  have done : Follows 0 a entered := (toStep_follows .verifying a progress h).trans
    (modCo_follows _ _ (fun ⟨_, raise, usable, empty⟩ => ⟨fun _ => rfl, raise, usable, empty⟩) rfl)
  split
  · exact done.trans (reportStep_follows _ _ _)
  · exact done.trans (enterClosing_follows _ _ _ rfl fun _ => Nat.lt_add_one _)
  · exact done.trans (abort_follows _ _ _ _ _ fun _ => Nat.lt_add_of_pos_right Nat.two_pos)

theorem testVerifying_follows (a : Act) : Follows 0 a (testVerifying a) := by
  unfold testVerifying
  split
  · rename_i step
    split
    · exact .refl a
    · exact enterClosing_follows _ _ a (by rw [step]; rfl) fun _ => by rw [step]; decide
    · exact abort_follows _ _ _ _ a fun _ => by rw [step]; decide
  · exact .refl a

/-- R146: the verify deadline halts a changeover that goes on. -/
theorem verifyTimedOut_records (a : Act) : RecordsKept a.s (verifyTimedOut a).s := by
  unfold verifyTimedOut
  split
  · rename_i step
    have halted := toStep_modCo_records .halted id a fun order => by
      obtain ⟨-, -, usable, -⟩ := order
      exact usable.trans (by rw [step]; decide)
    exact halted.trans (placeReport_actuates _ _).kept
  · exact .refl _

/-- R145. -/
theorem enterRaisingNew_follows (left : CoStep) (passed : List CoStep) (a : Act) (progress : a.s.co.step.progress = true)
    (h : a.s.vl.mode = .standby → CoStep.rank .raisingNew < a.s.co.step.rank) : Follows 0 a (enterRaisingNew left passed a) := by
  have entered := toStep_follows .raisingNew a progress h
  unfold enterRaisingNew
  dsimp only
  split
  · rename_i r p _ _
    have raised := raisePan_actuates p .collect r.raiseProfile .sequencer (toStep .raisingNew a)
    have step : (raisePan p .collect r.raiseProfile .sequencer (toStep .raisingNew a)).1.s.co.step = .raisingNew :=
      congrArg Changeover.step raised.changeover
    have done := entered.trans raised.follows
    split
    · exact done.trans (abort_follows _ _ _ _ _ fun _ => by rw [step]; decide)
    · split
      · exact done.trans (enterVerifying_follows _ _ _ (by rw [step]; rfl) fun _ => by rw [step]; decide)
      · exact done.trans (reportStep_follows _ _ _)
  · exact entered.trans (abort_follows _ _ _ _ _ fun _ => by rw [toStep_step]; decide)

/-- R142. -/
theorem enterAwaitRaise_follows (left : CoStep) (passed : List CoStep) (a : Act) (progress : a.s.co.step.progress = true)
    (h : a.s.vl.mode = .standby → CoStep.rank .awaitRaise < a.s.co.step.rank) : Follows 0 a (enterAwaitRaise left passed a) := by
  have entered := toStep_follows .awaitRaise a progress h
  unfold enterAwaitRaise
  dsimp only
  split
  · exact entered.trans (enterRaisingNew_follows _ _ _ rfl fun _ => Nat.lt_add_one _)
  · exact entered.trans ((modCo_follows _ _ (fun ⟨verify, _, usable, empty⟩ => ⟨verify, fun _ => rfl, usable, empty⟩) rfl).trans
      (reportStep_follows _ _ _))

theorem testAwaitRaise_follows (a : Act) : Follows 0 a (testAwaitRaise a) := by
  unfold testAwaitRaise
  split
  · rename_i step
    split
    · exact enterRaisingNew_follows _ _ a (by rw [step]; rfl) fun _ => by rw [step]; decide
    · exact modCo_follows _ a (fun ⟨verify, _, usable, empty⟩ => ⟨verify, fun _ => step, usable, empty⟩) rfl
  · exact .refl a

theorem raiseStale_follows (a : Act) : Follows 0 a (raiseStale a) :=
  modCo_follows _ a (fun ⟨verify, _, usable, empty⟩ => ⟨verify, nofun, usable, empty⟩) rfl

/-- R143: a jump leaves a changeover in progress. -/
theorem raiseJump_follows (a : Act) : Follows 0 a (raiseJump a) := by
  unfold raiseJump
  split
  · rename_i progress
    exact modCo_follows _ a (fun ⟨verify, _, _, empty⟩ => ⟨verify, nofun, iff_of_true rfl progress, empty⟩) rfl
  · exact .refl a

/-- R141. -/
theorem leaveSelecting_follows (left : CoStep) (passed : List CoStep) (a : Act) (progress : a.s.co.step.progress = true)
    (h : a.s.vl.mode = .standby → CoStep.rank .awaitRaise < a.s.co.step.rank) : Follows 0 a (leaveSelecting left passed a) := by
  unfold leaveSelecting
  split
  · exact enterVerifying_follows _ _ a progress fun standby => lt_trans (by decide) (h standby)
  · exact enterAwaitRaise_follows _ _ a progress h

theorem askMoves_follows (moves : List (Dev × Pos)) (a : Act) (busy : a.s.co.step ≠ .idle) : Follows 0 a (askMoves moves a).1 := by
  induction moves generalizing a with
  | nil => exact .refl a
  | cons m rest ih =>
    obtain ⟨d, target⟩ := m
    have asked := seqMove_follows d target a busy
    have step := (seqMove_still d target a).step
    unfold askMoves
    split
    · exact ih a busy
    · split <;> rename_i e <;> rw [e] at asked step
      · exact asked
      · exact asked.trans (ih _ (step ▸ busy))

theorem enterSelecting_follows (left : CoStep) (passed : List CoStep) (a : Act) (progress : a.s.co.step.progress = true)
    (h : a.s.vl.mode = .standby → CoStep.rank .selecting < a.s.co.step.rank) : Follows 0 a (enterSelecting left passed a) := by
  have entered := toStep_follows .selecting a progress h
  unfold enterSelecting
  dsimp only
  split
  · exact entered.trans (abort_follows _ _ _ _ _ fun _ => by rw [toStep_step]; decide)
  · rename_i r _
    have asked := askMoves_follows (selectingGoals (toStep .selecting a).s r) (toStep .selecting a) (by simp)
    have step := (askMoves_still (selectingGoals (toStep .selecting a).s r) (toStep .selecting a)).step
    split <;> rename_i e <;> rw [e] at asked step <;> have done := entered.trans asked
    · exact done.trans (abort_follows _ _ _ _ _ fun _ => by rw [step, toStep_step]; decide)
    · split
      · exact done.trans (leaveSelecting_follows _ _ _ (by rw [step]; rfl) fun _ => by rw [step, toStep_step]; decide)
      · exact done.trans (reportStep_follows _ _ _)

theorem lowerOld_actuates (kept : Option Pan) (a : Act) (p : Pan) : Actuates a (lowerOld kept a p) := by
  unfold lowerOld
  split
  · exact lowerPan_actuates p .changeover .orderly true a
  · exact .refl a

/-- R140. -/
theorem enterLoweringOld_follows (left : CoStep) (passed : List CoStep) (a : Act) (progress : a.s.co.step.progress = true)
    (h : a.s.vl.mode = .standby → CoStep.rank .loweringOld < a.s.co.step.rank) : Follows 0 a (enterLoweringOld left passed a) := by
  have entered := toStep_follows .loweringOld a progress h
  unfold enterLoweringOld
  extract_lets old
  split
  · exact entered.trans (abort_follows _ _ _ _ _ fun _ => by rw [toStep_step]; decide)
  · rename_i r _
    extract_lets kept new named lowered awaited waiting
    have asked : Actuates named lowered := .foldl _ (lowerOld_actuates kept) pansInOrder named
    have step : lowered.s.co.step = .loweringOld := congrArg Changeover.step asked.changeover
    have waits : Follows 0 lowered waiting := modCo_follows _ _ (fun order => order.asking (by simp [step]) _ _) rfl
    have done : Follows 0 old waiting := ((modCo_follows _ old id rfl).trans asked.follows).trans waits
    split
    · exact entered.trans (done.trans (enterSelecting_follows _ _ waiting (show lowered.s.co.step.progress = true by rw [step]; rfl)
        fun _ => show _ < lowered.s.co.step.rank by rw [step]; decide))
    · exact entered.trans (done.trans (reportStep_follows _ _ _))

/-- R139: a changeover that has entered OPENING goes on in order. -/
theorem enterOpening_follows (left : CoStep) (passed : List CoStep) (a : Act) :
    Follows 0 (toStep .opening a) (enterOpening left passed a) := by
  have moved := seqMove_follows .mb .opened (toStep .opening a) (by simp)
  have step := (seqMove_still .mb .opened (toStep .opening a)).step
  unfold enterOpening
  dsimp only
  split
  · exact enterLoweringOld_follows _ _ _ rfl fun _ => Nat.lt_add_one _
  · split <;> rename_i e <;> rw [e] at moved step
    · exact moved.trans (abort_follows _ _ _ _ _ fun _ => by rw [step, toStep_step]; decide)
    · split
      · exact moved.trans (enterLoweringOld_follows _ _ _ (by rw [step]; rfl) fun _ => by rw [step, toStep_step]; decide)
      · exact moved.trans (reportStep_follows _ _ _)

/-! ## Events in a step -/

/-- R139, R141, R147, R148, R151: each step at a change of the Switchgear Record. -/
theorem coSwitch_follows (a : Act) : Follows 0 a (coSwitch a) := by
  have closed (step : CoStep) (h : CoStep.rank .aborting < a.s.co.step.rank) :
      Follows 0 a (if mbEngaged a.s then abort .mbClosed none step [] a else a) := by
    split
    · exact abort_follows _ _ _ _ a fun _ => h
    · exact .refl a
  unfold coSwitch
  split <;> rename_i step
  case h_1 => exact .refl a
  case h_2 =>
    split
    · exact enterLoweringOld_follows _ _ a (by rw [step]; rfl) fun _ => by rw [step]; decide
    · exact .refl a
  case h_3 =>
    split
    · exact abort_follows _ _ _ _ a fun _ => by rw [step]; decide
    · split
      · exact leaveSelecting_follows _ _ a (by rw [step]; rfl) fun _ => by rw [step]; decide
      · exact .refl a
  case h_9 =>
    split
    · exact abort_follows _ _ _ _ a fun _ => by rw [step]; decide
    · split
      · exact endChangeover_follows _ _ _ _ a fun _ => by rw [step]; decide
      · exact .refl a
  case h_10 =>
    split
    · exact finishAbort_follows _ _ a fun _ => by rw [step]; decide
    · exact .refl a
  all_goals exact closed _ (by rw [step]; decide)

theorem coGaveUp_follows (d : Dev) (target : Pos) (a : Act) : Follows 0 a (coGaveUp d target a) := by
  unfold coGaveUp
  split <;> rename_i step
  case h_3 => exact endChangeover_follows _ _ _ _ a fun _ => by rw [step]; decide
  case h_7 => exact .refl a
  all_goals exact abort_follows _ _ _ _ a fun _ => by rw [step]; decide

theorem coPanLowered_follows (p : Pan) (new : PanState) (a : Act) (step : a.s.co.step = .loweringOld) :
    Follows 0 a (coPanLowered p new a) := by
  have waits (awaited : List Pan) : Follows 0 a (a.modCo fun c => { c with awaited }) :=
    modCo_follows _ a (fun order => order.asking (by simp [step]) _ _) rfl
  unfold coPanLowered
  split
  · split
    · exact abort_follows _ _ _ _ a fun _ => by rw [step]; decide
    · dsimp only
      split
      · exact (waits _).trans (enterSelecting_follows _ _ _ (show a.s.co.step.progress = true by rw [step]; rfl)
          fun _ => show _ < a.s.co.step.rank by rw [step]; decide)
      · exact waits _
  · exact .refl a

theorem coPan_follows (p : Pan) (new : PanState) (cause : Option LowerCause) (a : Act) : Follows 0 a (coPan p new cause a) := by
  unfold coPan
  split
  · rename_i relied
    obtain ⟨-, relies, -⟩ := relied
    exact abort_follows _ _ _ _ a fun _ => rank_of_reliesOn relies
  · split
    · rename_i step
      exact coPanLowered_follows p new a step
    · split
      · rename_i raising
        exact enterVerifying_follows _ _ a (by rw [raising.1]; rfl) fun _ => by rw [raising.1]; decide
      · split
        · rename_i aborting
          exact finishAbort_follows _ _ a fun _ => by rw [aborting.1]; decide
        · exact .refl a

theorem coRole_follows (role : Role) (present : Bool) (a : Act) : Follows 0 a (coRole role present a) := by
  unfold coRole
  extract_lets aborted
  have first : Follows 0 a aborted := by
    unfold aborted
    split
    · exact abortOnEvent_follows .senseLost a
    · exact abortOnEvent_follows .headLost a
    · exact .refl a
  split
  · rename_i ended
    obtain ⟨-, aborting, -⟩ := ended
    exact first.trans (finishAbort_follows _ _ _ fun _ => by rw [aborting]; decide)
  · exact first

/-! ## Starting (R134 to R136) -/

theorem lowerScrape_actuates (a : Act) (p : Pan) : Actuates a (lowerScrape a p) := by
  unfold lowerScrape
  split
  · exact lowerPan_actuates p .changeover .orderly true a
  · exact .refl a

/-- R136: a start that is taken in RUN, where no rank has to pay. -/
theorem takeStart_follows (target : Nat) (raisePosition : Option Nat) (o : CoOrigin) (a : Act) (run : a.s.vl.mode = .run) :
    Follows 0 a (takeStart target raisePosition o a) := by
  unfold takeStart
  extract_lets old begun
  let lowered := pansInOrder.foldl lowerScrape begun
  have asked : Actuates begun lowered := .foldl _ lowerScrape_actuates pansInOrder begun
  have opened : Follows 0 a (toStep .opening lowered) :=
    { kept := { asked.kept with
        changeover := fun _ => ⟨nofun, nofun, by simp [toStep, Act.tellStep, asked.changeover, begun, CoStep.progress], nofun⟩ }
      waits := fun waiting => List.mem_append_left _ (asked.waits waiting)
      paid := fun standby => absurd (run.symm.trans standby) (by simp) }
  exact opened.trans (enterOpening_follows _ _ _)

theorem startChangeover_follows (target : Nat) (raisePosition : Option Nat) (o : CoOrigin) (a : Act) :
    Follows 0 a (startChangeover target raisePosition o a).1 := by
  unfold startChangeover
  split
  · exact .refl a
  · rename_i accepted
    have run : a.s.vl.mode = .run := by
      by_contra other
      simp [startRefusal, other] at accepted
    split
    · exact (modCo_follows _ a id rfl).trans (placeReport_actuates _ _).follows
    · exact takeStart_follows target raisePosition o a run

end Sys2Proof.Machine
namespace Sys2Proof.Machine

/-! ## Ice (09) -/

/-- The Ice Record changes, and what is present in it fits its state. -/
theorem modIce_follows (f : Ice → Ice) (a : Act) (order : a.s.ice.InOrder → (f a.s.ice).InOrder) : Follows 0 a (a.modIce f) where
  kept := { RecordsKept.refl a.s with ice := order }
  waits := id
  paid _ := le_rfl

theorem presentGroups_follows (a : Act) : Follows 0 a (presentGroups a) := by
  unfold presentGroups
  dsimp only
  split
  · split <;> rename_i e <;> have presented := (present_eq_actuates e).follows
    · exact presented.trans (modIce_follows _ _ id)
    · exact presented
    · exact presented
  · exact .refl a

theorem allocate_follows (a : Act) : Follows 0 a (allocate a) := (modIce_follows _ a id).trans (presentGroups_follows _)

/-- R166: SCRAPE is left for another state. -/
theorem leaveScrape_modIce_follows (f : Ice → Ice) (a : Act)
    (left : ∀ i : Ice, i.scrapePan = none → i.phase = none → (f i).InOrder) : Follows 0 a ((leaveScrape a).modIce f) := by
  have leaves (b : Act) : Follows 0 b ((b.modIce fun i => { i with scrapePan := none, phase := none }).modIce f) :=
    modIce_follows (fun i => f { i with scrapePan := none, phase := none }) b fun _ => left _ rfl rfl
  unfold leaveScrape
  dsimp only
  split
  · exact leaves a
  · exact (lowerPan_actuates _ .scrapeEnd .orderly false a).follows.trans (leaves _)

/-- Outside SCRAPE neither scrape pan nor phase is present. -/
theorem Ice.inOrder_of_left {i : Ice} (pan : i.scrapePan = none) (phase : i.phase = none) (state : i.state ≠ .scrape) : i.InOrder := by
  simp [Ice.InOrder, pan, phase, state]

theorem leaveFor_follows (state : IceState) (a : Act) (h : state ≠ .scrape) :
    Follows 0 a ((leaveScrape a).modIce fun i => { i with state }) :=
  leaveScrape_modIce_follows _ a fun _ pan phase => Ice.inOrder_of_left pan phase h

theorem failEntry_follows (a : Act) : Follows 0 a (failEntry a) :=
  leaveScrape_modIce_follows _ a fun _ pan phase => Ice.inOrder_of_left pan phase nofun

/-- R165: the raise of a scrape is asked for in SCRAPE. -/
theorem askScrapeRaise_follows (p : Pan) (a : Act) (scrape : a.s.ice.state = .scrape) : Follows 0 a (askScrapeRaise p a).1 := by
  have raised (profile : Nat) : Follows 0 a (raisePan p .scrape profile .ice (a.modIce fun i => { i with phase := some .raising })).1 :=
    (modIce_follows _ a fun order => ⟨order.1, iff_of_true rfl scrape⟩).trans (raisePan_actuates p .scrape profile .ice _).follows
  unfold askScrapeRaise
  dsimp only
  split
  · exact raised _
  · exact raised _

theorem enterScrape_follows (collecting : Pan) (a : Act) : Follows 0 a (enterScrape collecting a).act := by
  have entered : Follows 0 a (a.modIce fun i =>
      { i with state := .scrape, scrapePan := some (otherPan collecting), phase := some .isoOpening }) :=
    modIce_follows _ a fun _ => ⟨iff_of_true rfl rfl, iff_of_true rfl rfl⟩
  have raised := entered.trans (askScrapeRaise_follows (otherPan collecting) _ rfl)
  have moved := entered.trans (moveRequest_actuates (isoOf (otherPan collecting)) .opened .ice _).follows
  unfold enterScrape
  dsimp only
  split <;> rename_i e <;> split at e <;> have asked := congrArg (fun x => x.1) e <;> dsimp only at asked
  · exact asked ▸ raised
  · exact asked ▸ moved
  · exact (asked ▸ raised).trans (failEntry_follows _)
  · exact (asked ▸ moved).trans (failEntry_follows _)

theorem testIsoOpening_follows (p : Pan) (a : Act) (m : IceMove) (scrape : a.s.ice.state = .scrape)
    (e : testIsoOpening p a = some m) : Follows 0 a m.act := by
  have asked := askScrapeRaise_follows p a scrape
  unfold testIsoOpening at e
  split at e
  · cases e
  · split at e
    · split at e <;> rename_i raised <;> rw [raised] at asked <;> cases e
      · exact asked
      · exact asked.trans (failEntry_follows _)
    · cases e
      exact failEntry_follows a

theorem promotePhase_follows (a : Act) : Follows 0 a (promotePhase a) := by
  unfold promotePhase
  split
  · rename_i phase _
    split
    · exact modIce_follows _ a fun ⟨pan, during⟩ =>
        ⟨pan, iff_of_true rfl (during.1 (Option.isSome_of_eq_some phase))⟩
    · exact .refl a
  · exact .refl a

theorem scrapeStep_follows (trigger : IceTrigger) (a : Act) (m : IceMove) (scrape : a.s.ice.state = .scrape)
    (e : scrapeStep trigger a = some m) : Follows 0 a m.act := by
  have left := leaveFor_follows .heat a nofun
  unfold scrapeStep at e
  split at e
  · cases e
    exact left
  · split at e
    · cases e
      exact left
    · split at e
      · split at e
        · exact testIsoOpening_follows _ a m scrape e
        · cases e
      · cases e
        exact failEntry_follows a

theorem autoStep_follows (trigger : IceTrigger) (a : Act) (m : IceMove) (e : autoStep trigger a = some m) : Follows 0 a m.act := by
  have passed (state : IceState) (before : a.s.ice.state ≠ .scrape) (after : state ≠ .scrape) :
      Follows 0 a (a.modIce fun i => { i with state }) :=
    modIce_follows _ a fun order => ⟨order.1.trans (iff_of_false before after), order.2.trans (iff_of_false before after)⟩
  unfold autoStep at e
  dsimp only at e
  split at e <;> rename_i state
  · cases e
    exact passed .watch (by simp [state]) nofun
  · split at e <;> cases e
    exact passed .heat (by simp [state]) nofun
  · split at e
    · cases e
      exact passed .watch (by simp [state]) nofun
    · split at e
      · obtain ⟨p, -, rfl⟩ := Option.map_eq_some_iff.1 e
        exact enterScrape_follows p a
      · cases e
  · exact scrapeStep_follows trigger a m state e

theorem autoSteps_follows (trigger : IceTrigger) (fuel : Nat) (a : Act) (cause : Option IceCause) :
    Follows 0 a (autoSteps trigger fuel a cause).1 := by
  induction fuel generalizing a cause with
  | zero => exact .refl a
  | succ n ih =>
    unfold autoSteps
    split
    · exact .refl a
    · rename_i m e
      exact (autoStep_follows trigger a m e).trans (ih _ _)

theorem iceTransition_follows (trigger : IceTrigger) (a : Act) : Follows 0 a (iceTransition trigger a).1 := by
  unfold iceTransition
  split
  · split
    · exact .refl a
    · exact leaveFor_follows .inactive a nofun
  · split
    · split
      · exact .refl a
      · exact leaveFor_follows .heat a nofun
    · exact (promotePhase_follows a).trans (autoSteps_follows trigger 8 _ none)

theorem evaluateIce_follows (trigger : IceTrigger) (a : Act) : Follows 0 a (evaluateIce trigger a) := by
  have passed := iceTransition_follows trigger a
  unfold evaluateIce
  dsimp only
  split
  · exact passed.trans ((allocate_follows _).trans (placeReport_actuates _ _).follows)
  · exact passed

/-- A step change that has been seen is told as another change is, and weighs as much. -/
theorem stepSeen_follows (a : Act) : Follows 0 a { a with notes := a.notes.map Note.stepSeen } where
  kept := .refl _
  waits h := List.mem_map.2 ⟨_, h, rfl⟩
  paid _ := by
    have weight (n : Note) : n.stepSeen.weight = n.weight := by
      unfold Note.stepSeen
      split <;> rfl
    simp [Act.effort, weights, Function.comp_def, weight]

theorem iceEvent_follows (trigger : IceTrigger) (a : Act) : Follows 0 a (iceEvent trigger a) := by
  have seen : Follows 0 a (evaluateSteps a) := by
    unfold evaluateSteps
    dsimp only
    split
    · exact (stepSeen_follows a).trans (evaluateIce_follows .step _)
    · exact stepSeen_follows a
  exact seen.trans (evaluateIce_follows trigger _)

theorem recomputeScore_follows (a : Act) : Follows 0 a (recomputeScore a).1 := by
  unfold recomputeScore
  dsimp only
  split
  · exact .refl a
  · split
    · exact { Follows.refl a with kept := { RecordsKept.refl a.s with ice := id } }
    · exact .refl a

theorem heaterLost_follows (a : Act) : Follows 0 a (heaterLost a) := modIce_follows _ a id

theorem climateLost_follows (a : Act) : Follows 0 a (climateLost a) := modIce_follows _ a id

theorem arcAppended_follows (a : Act) : Follows 0 a (arcAppended a) := by
  have score := recomputeScore_follows a
  unfold arcAppended
  split <;> rename_i e <;> rw [e] at score
  · exact score.trans (iceEvent_follows .other _)
  · exact score

theorem setInhibit_follows (on : Bool) (a : Act) : Follows 0 a (setInhibit on a) := by
  unfold setInhibit
  split
  · exact .refl a
  · exact (modIce_follows _ a id).trans (iceEvent_follows .other _)

/-! ## Position and Route Unit (07) -/

/-- The route unit changes, and its trigger timer runs only where it may. -/
theorem modPr_follows (f : Route → Route) (a : Act) (position : a.s.pr.position.InOrder → (f a.s.pr).position.InOrder)
    (timer : TimerInOrder a.s → TimerInOrder (a.modPr f).s) : Follows 0 a (a.modPr f) where
  kept := { RecordsKept.refl a.s with position, timer }
  waits := id
  paid _ := le_rfl

/-- The plan changes: the Position Record and the trigger timer stand. -/
theorem modPr_plan_follows (f : Route → Route) (a : Act) (position : (f a.s.pr).position = a.s.pr.position)
    (timer : (f a.s.pr).triggerTimer = a.s.pr.triggerTimer) : Follows 0 a (a.modPr f) :=
  modPr_follows f a (position ▸ id) (by simp only [TimerInOrder, Act.modPr_pr, Act.modPr_vl, position, timer]; exact id)

/-- The trigger timer is stopped. -/
theorem modPr_untimed_follows (f : Route → Route) (a : Act) (position : (f a.s.pr).position = a.s.pr.position)
    (timer : (f a.s.pr).triggerTimer = none) : Follows 0 a (a.modPr f) :=
  modPr_follows f a (position ▸ id) fun _ runs => by simp [timer] at runs

theorem routeStandby_follows (a : Act) : Follows 0 a (routeStandby a) := modPr_untimed_follows _ a rfl rfl

theorem dropHead_follows (a : Act) : Follows 0 a (dropHead a) := modPr_untimed_follows _ a rfl rfl

theorem handOff_follows (source : Source) (action : Action) (at' : Option Nat) (a : Act) :
    Follows 0 a (handOff source action at' a).1 := by
  cases action with
  | changeover target raisePosition => exact startChangeover_follows target raisePosition _ a
  | lowerAll => exact (lowerBoth_actuates .vehicle .orderly a).follows
  | scrapeInhibit on => exact setInhibit_follows on a
  | reportMark tag => exact (placeReport_actuates _ a).follows

theorem flushSource_follows (source : Source) (a : Act) : Follows 0 a (a.modPr (flushSource source)) := by
  cases source
  · exact modPr_untimed_follows _ a rfl rfl
  · exact modPr_plan_follows _ a rfl rfl
  · exact modPr_plan_follows _ a rfl rfl

theorem fire_follows (source : Source) (action : Action) (trigger : Option Trigger) (a : Act) :
    Follows 0 a (fire source action trigger a).1 := by
  have handed := (modPr_plan_follows (fun r => { r with fired := r.fired + 1 }) a rfl rfl).trans
    (handOff_follows source action (estimate a.s) _)
  unfold fire
  dsimp only
  split
  · exact handed.trans (placeReport_actuates _ _).follows
  · exact handed.trans (((placeReport_actuates _ _).follows.trans (flushSource_follows source _)).trans
      (placeReport_actuates _ _).follows)

/-- R121: the time at which a position is reached is known while the record is FRESH alone. -/
theorem fresh_of_reachTime {r : PositionRecord} {p : Nat} (h : (reachTime r p).isSome) : r.fresh = true := by
  unfold reachTime at h
  split at h
  · split at h
    · rename_i reached
      exact reached.1
    · cases h
  · cases h

theorem evaluateHead_follows (fuel : Nat) (a : Act) (run : a.s.vl.mode = .run) : Follows 0 a (evaluateHead fuel a) := by
  induction fuel generalizing a with
  | zero => exact .refl a
  | succ n ih =>
    unfold evaluateHead
    split
    · exact modPr_untimed_follows _ a rfl rfl
    · rename_i e _ _
      split
      · exact modPr_untimed_follows _ a rfl rfl
      · split
        · have fired := (dropHead_follows a).trans (fire_follows .queue e.action (some e.trigger) _)
          split <;> rename_i fires <;> rw [fires] at fired
          · exact fired.trans (ih _ (fired.kept.mode.trans run))
          · exact fired
        · exact modPr_follows _ a id fun _ runs => ⟨run, fresh_of_reachTime runs⟩

theorem evaluateQueue_follows (a : Act) : Follows 0 a (evaluateQueue a) := by
  unfold evaluateQueue
  split
  · rename_i run
    exact evaluateHead_follows _ a run
  · exact .refl a

/-! ## The notes of an act -/

/-- A block that takes a note leaves no more than the note weighs. -/
theorem takeNote_follows (n : Note) (a : Act) : Follows (n.weight - 1) a (takeNote n a) := by
  cases n with
  | lineJoin samples current => exact joinWindow_follows samples current a
  | lineLost => exact lineLost_follows a
  | panMb p => exact (testAwaitMb_actuates p false a).follows
  | panHold p => exact (updateHold_actuates p a).follows
  | panHeadLost p => exact (panHeadLost_actuates p a).follows
  | panLowerBoth cause kind => exact (lowerBoth_actuates cause kind a).follows
  | tripRelease => exact (evaluateTrip_actuates a).follows
  | switchgearLost => exact switchgearLost_follows a
  | mbOpenProtect => exact (requestMbOpen_actuates .protection a).follows
  | coLine => exact testVerifying_follows a
  | coSwitch => exact coSwitch_follows a
  | coGaveUp d target => exact coGaveUp_follows d target a
  | coPan p new cause => exact coPan_follows p new cause a
  | coPosition => exact testAwaitRaise_follows a
  | coStale => exact raiseStale_follows a
  | coRole role present => exact coRole_follows role present a
  | coStandby => exact abortOnEvent_follows .standby a
  | coLinkLost => exact abortOnEvent_follows .linkLost a
  | iceEvaluate trigger => exact iceEvent_follows trigger a
  | iceArc => exact arcAppended_follows a
  | iceAllocate => exact allocate_follows a
  | heaterLost => exact heaterLost_follows a
  | climateLost => exact climateLost_follows a
  | gateReview => exact reviewHolds_follows a
  | gateRoleLost role => exact dropHold_follows role .headLost _ a
  | routeRun => exact evaluateQueue_follows a
  | routeStandby => exact routeStandby_follows a

/-- The trigger timer is in order, or the route unit's note of STANDBY waits. -/
def TimerDue (a : Act) : Prop := TimerInOrder a.s ∨ .routeStandby ∈ a.notes

/-- R128: the note of STANDBY stops the trigger timer. -/
theorem routeStandby_timer (a : Act) : TimerInOrder (routeStandby a).s := nofun

/-- A note taken keeps the records; in STANDBY it lessens what an act has still to do, and a timer that is to be stopped stays so
until it is. -/
theorem takeNext_records (a : Act) (h : a.notes ≠ []) : RecordsKept a.s (takeNext a).s ∧ (TimerDue a → TimerDue (takeNext a))
    ∧ (a.s.vl.mode = .standby → (takeNext a).effort + 1 ≤ a.effort) := by
  obtain ⟨n, others, choices, perm, taken⟩ := takeNext_perm a h
  have follows := takeNote_follows n { s := { a.s with choices }, notes := others }
  have chosen : RecordsKept a.s { a.s with choices } := SameRecords.kept ⟨rfl, rfl, rfl, rfl, rfl, rfl⟩
  rw [taken]
  refine ⟨chosen.trans follows.kept, ?_, fun standby => ?_⟩
  · rintro (order | waits)
    · exact .inl (follows.kept.timer order)
    · obtain rfl | waits := List.mem_cons.1 (perm.mem_iff.2 waits)
      · exact .inl (routeStandby_timer _)
      · exact .inr (follows.waits waits)
  · have paid := follows.paid standby
    have weight := n.weight_pos
    have split : a.effort = n.weight + ({ s := { a.s with choices }, notes := others } : Act).effort := by
      simp only [Act.effort, ← weights_perm perm]
      simp only [weights, List.map_cons, List.sum_cons]
      omega
    omega

theorem settle_records (fuel : Nat) (a : Act) : RecordsKept a.s (settle fuel a).s := by
  induction fuel generalizing a with
  | zero => exact .refl _
  | succ n ih =>
    unfold settle
    split
    · exact .refl _
    · rename_i waits
      exact (takeNext_records a fun e => waits (by simp [e])).1.trans (ih _)

/-- R128: in STANDBY the trigger timer is stopped, where the notes of the act stay below the bound. -/
theorem settle_stops_timer (fuel : Nat) (a : Act) (standby : a.s.vl.mode = .standby) (due : TimerDue a) (bound : a.effort ≤ fuel) :
    TimerInOrder (settle fuel a).s := by
  have quiet (empty : a.notes = []) : TimerInOrder a.s := due.resolve_right (by simp [empty])
  induction fuel generalizing a with
  | zero =>
    refine quiet ?_
    cases notes : a.notes with
    | nil => rfl
    | cons n rest =>
      have weight := n.weight_pos
      have effort : n.weight ≤ a.effort := by
        simp only [Act.effort, notes, weights, List.map_cons, List.sum_cons]
        omega
      omega
  | succ n ih =>
    unfold settle
    split
    · rename_i empty
      exact quiet (List.isEmpty_iff.1 empty)
    · rename_i waits
      obtain ⟨kept, stays, lessens⟩ := takeNext_records a fun e => waits (by simp [e])
      have less := lessens standby
      exact ih _ (kept.mode.trans standby) (stays due) (by omega) fun empty => (stays due).resolve_right (by simp [empty])

theorem unrest_le (r : PanRecord) : r.unrest ≤ 2 := by
  unfold PanRecord.unrest
  split <;> [skip; split] <;> omega

/-- What the ranks of a state can pay for is few beside the bound of the notes. -/
theorem effort_le (a : Act) : a.effort ≤ weights a.notes + 80 := by
  have panA := unrest_le a.s.pans.a
  have panB := unrest_le a.s.pans.b
  have devices := a.s.sg.rank_le
  have step := rank_le_of_step a.s.co.step
  unfold Act.effort
  omega

end Sys2Proof.Machine
namespace Sys2Proof.Machine

/-! SUPPORT. What each event of a block keeps in order of the Switchgear Record, the hold slots, the Position Record, the Changeover
Record and the Ice Record. -/

/-! ## States of which no record has changed -/

theorem RecordsKept.of_same {s t : State}
    (same : (t.sg.get, t.holds, t.pr, t.co, t.ice, t.vl.mode) = (s.sg.get, s.holds, s.pr, s.co, s.ice, s.vl.mode)) :
    RecordsKept s t := by
  simp only [Prod.mk.injEq] at same
  obtain ⟨devices, holds, route, changeover, ice, mode⟩ := same
  exact SameRecords.kept ⟨devices, holds, route, changeover, ice, mode⟩

theorem RecordsKept.foldl {β : Type} (f : Act → β → Act) (h : ∀ a x, RecordsKept a.s (f a x).s) (l : List β) (a : Act) :
    RecordsKept a.s (l.foldl f a).s := by
  induction l generalizing a with
  | nil => exact .refl _
  | cons x l ih => exact (h a x).trans (ih _)

/-! ## Line Monitor (01, 02) -/

theorem useCell_records (samples : List Int) (current : Nat) (a : Act) : RecordsKept a.s (useCell samples current a).s := by
  have dead (b : Act) : RecordsKept b.s (deadCell b).s := by
    unfold deadCell
    dsimp only
    split
    · exact .of_same rfl
    · split
      · split
        · exact (((modLm_actuates _ b).trans (modLm_actuates _ _)).follows.trans (setConfirmed_follows .dead .fastDead _)).kept
        · exact .of_same rfl
      · exact .refl _
  have live (b : Act) : RecordsKept b.s (liveCell b).s := by
    unfold liveCell
    dsimp only
    split
    · exact .of_same rfl
    · split <;> exact .of_same rfl
  have first : RecordsKept a.s (fastDeadStage (peakOf (samples.map conditionSample)) a).s := by
    unfold fastDeadStage
    split
    · exact dead a
    · exact live a
  unfold useCell
  dsimp only
  split
  · exact first.trans (joinWindow_follows _ _ _).kept
  · exact first

theorem takeCell_records (sequence : Nat) (fault : Bool) (samples : List Int) (current : Nat) (a : Act) :
    RecordsKept a.s (takeCell sequence fault samples current a).s := by
  have next (c : Option Nat) : RecordsKept a.s (a.modLm fun l => { l with expected := c }).s := .of_same rfl
  have gap (c : Option Nat) : RecordsKept a.s ((a.modLm lineGap).modLm fun l => { l with expected := c }).s := .of_same rfl
  unfold takeCell
  dsimp only
  split <;> split
  · exact gap _
  · exact next _
  · exact (gap _).trans (useCell_records _ _ _)
  · exact (next _).trans (useCell_records _ _ _)

theorem systemTableGone_records (a : Act) : RecordsKept a.s (systemTableGone a).s := by
  unfold systemTableGone
  dsimp only
  split
  · exact ((modLm_actuates _ a).follows.trans (setConfirmed_follows .unknown .table _)).kept
  · exact .of_same rfl

theorem lineSettingsChanged_records (before : Settings) (a : Act) : RecordsKept a.s (lineSettingsChanged before a).s := by
  unfold lineSettingsChanged
  dsimp only
  split <;> split <;> exact .of_same rfl

/-! ## Switchgear Tracker (04) -/

/-- R68, R69: a device that goes on moving keeps its target. -/
theorem judgeDevice_target {e : Device} {value : Pos} (order : e.move.isSome → e.target.isSome)
    (moving : (judgeDevice e value).1.move.isSome) : (judgeDevice e value).1.target.isSome := by
  unfold judgeDevice at moving ⊢
  dsimp only at moving ⊢
  split at moving <;> rename_i idle
  · simpa [idle] using order moving
  · split at moving <;> rename_i reached
    · simp at moving
    · simpa [idle, reached] using order moving

theorem takePositions_records (payload : List Byte) (a : Act) : RecordsKept a.s (a.modSg (takePositions payload)).s where
  mode := rfl
  devices order d := by
    rw [devOf, Act.modSg_sg, takePositions_get]
    exact judgeDevice_target (order d)
  holds := id
  position := id
  timer := id
  changeover := id
  ice := id

theorem switchgearStatus_records (payload : List Byte) (a : Act) : RecordsKept a.s (switchgearStatus payload a).s := by
  have placed (r : Report) : RecordsKept a.s (placeReport r (a.modSg (takePositions payload))).s :=
    (takePositions_records payload a).trans (.of_same rfl)
  have evaluated (b : Act) (due : Prop) [Decidable due] : RecordsKept b.s (if due then evaluateTrip b else b).s := by
    split
    · exact (evaluateTrip_actuates b).kept
    · exact .refl _
  unfold switchgearStatus
  dsimp only
  split
  · exact .refl _
  · have told (marks : List (Dev × ChangeMark)) (due : Prop) [Decidable due] :=
      (placed (switchgearReport (a.modSg (takePositions payload)).s marks)).trans (evaluated _ due)
    split
    · exact (told _ _).trans (requestMbOpen_actuates .protection (Act.tellSwitchgear _ _)).kept
    · exact told _ _

/-- R73: a device whose move is given up has none. -/
theorem giveUpMove_devices (d : Dev) (target : Pos) (a : Act) (order : DevicesInOrder a.s) :
    DevicesInOrder (a.modDev d fun e => { e with move := none, mark := some target }).s := by
  intro other
  by_cases same : d = other
  · subst same
    simp [devOf]
  · simpa [devOf, Switchgear.get_set_other _ _ _ _ same] using order other

theorem giveUpMove_records (d : Dev) (a : Act) : RecordsKept a.s (giveUpMove d a).s := by
  unfold giveUpMove
  dsimp only
  split
  · rename_i m target _ _
    let given := a.modDev d fun e => { e with move := none, mark := some target }
    let reported := placeReport (.switchgearFault d target m.origin (devOf a.s d).reported m.timeout) given
    have told : RecordsKept a.s reported.s := { RecordsKept.refl a.s with devices := giveUpMove_devices d target a }
    split
    · exact told.trans (assertTrip_actuates reported).kept
    · exact told
  · exact .refl _

/-! ## Pantograph Controller (03) -/

theorem endAtDeadline_records (p : Pan) (a : Act) : RecordsKept a.s (endAtDeadline p a).s := by
  unfold endAtDeadline
  dsimp only
  split
  · rename_i lowering
    have moving : 0 < (panOf a.s p).unrest := by simp [unrest_of_lowering lowering]
    split
    · refine ((presentVent_actuates p a).trans (finishLowering_actuates p _ true false _ ?_)).kept
      rwa [panOf, presentVent_pans]
    · exact (finishLowering_actuates p _ true false a moving).kept
  · exact .refl _

theorem ventGuardOver_records (p : Pan) (a : Act) : RecordsKept a.s (ventGuardOver p a).s := by
  unfold ventGuardOver
  split
  · rename_i awaiting
    exact (leaveAwaitMb_actuates p false false a (unrest_pos_of_phase (Option.isSome_of_eq_some awaiting))).kept
  · exact .refl _

theorem raiseTimeout_records (p : Pan) (a : Act) : RecordsKept a.s (raiseTimeout p a).s := by
  unfold raiseTimeout
  split
  · exact (lowerPan_actuates p .raiseTimeout .immediate false a).kept
  · exact .refl _

theorem modPan_records (p : Pan) (f : PanRecord → PanRecord) (a : Act) : RecordsKept a.s (a.modPan p f).s := .of_same rfl

theorem nextStage_records (p : Pan) (a : Act) : RecordsKept a.s (nextStage p a).s := by
  unfold nextStage
  dsimp only
  split
  · split
    · exact .of_same rfl
    · have waiting := modPan_records p (a := a)
      split <;> rename_i e <;> have presented := (waiting _).trans (present_eq_actuates e).kept
      · exact presented.trans (lowerPan_actuates p .protect .immediate false _).kept
      · exact presented.trans (modPan_records p _ _)
      · exact presented.trans (modPan_records p _ _)
  · exact .refl _

theorem changedPan_records (p : Pan) (previous : PanState) (causes : Option (LowerCause × List LowerCause)) (quiet : Bool) (a : Act) :
    RecordsKept a.s (changedPan p previous causes quiet a).s := by
  rw [changedPan_eq]
  exact .of_same rfl

theorem upContactOn_records (p : Pan) (a : Act) : RecordsKept a.s (upContactOn p a).s := by
  have up := (modPan_records p (fun r => { r with state := .up, stage := none, stageDeadline := none, raiseDeadline := none }) a).trans
    (changedPan_records p .raising none false _)
  unfold upContactOn
  dsimp only
  split
  · split
    · exact up.trans (presentHold_actuates p _ _).kept
    · exact up
  · exact .refl _

theorem upContactOff_records (p : Pan) (a : Act) : RecordsKept a.s (upContactOff p a).s := by
  unfold upContactOff
  split
  · exact (lowerPan_actuates p .drop .immediate false a).kept
  · exact .refl _

theorem downContactOn_records (p : Pan) (a : Act) : RecordsKept a.s (downContactOn p a).s := by
  unfold downContactOn
  split
  · rename_i lowering
    exact (endAtContact_actuates p false a (by simp [unrest_of_lowering lowering])).kept
  · exact .refl _

theorem functionChange_records (f : InputFunction) (active : Bool) (a : Act) : RecordsKept a.s (functionChange f active a).s := by
  have contact (p : Pan) : RecordsKept a.s (if active then upContactOn p a else upContactOff p a).s := by
    split
    · exact upContactOn_records p a
    · exact upContactOff_records p a
  have down (p : Pan) : RecordsKept a.s (if active then downContactOn p a else a).s := by
    split
    · exact downContactOn_records p a
    · exact .refl _
  have strip (p : Pan) : RecordsKept a.s (if active then stripOn p a else a).s := by
    split
    · exact (lowerPan_actuates p .strip .immediate false a).kept
    · exact .refl _
  cases f with
  | panAUp => exact contact .a
  | panBUp => exact contact .b
  | panADown => exact down .a
  | panBDown => exact down .b
  | stripA => exact strip .a
  | stripB => exact strip .b
  | roofAccess =>
    change RecordsKept a.s (if active then roofAccessOn a else a).s
    split
    · exact (lowerBoth_actuates .roofAccess .immediate a).kept
    · exact .refl _
  | marker0 => exact .refl _
  | marker1 => exact .refl _
  | general => exact .refl _

theorem panStatus_records (p : Pan) (payload : List Byte) (a : Act) : RecordsKept a.s (panStatus p payload a).s := by
  unfold panStatus
  dsimp only
  split
  · exact (modPan_records p _ a).trans (lowerPan_actuates p .protect .immediate false _).kept
  · exact modPan_records p _ a

theorem clearFault_records (p : Pan) (a : Act) : RecordsKept a.s (clearFault p a).1.s := by
  unfold clearFault
  split
  · split
    · exact (modPan_records p _ a).trans (changedPan_records p _ _ _ _)
    · exact .refl _
  · exact .refl _

/-! ## Discrete Line Unit (05) -/

theorem takeRaw_records (line : Fin 12) (level : Level) (a : Act) : RecordsKept a.s (takeRaw line level a).s := by
  unfold takeRaw
  split <;> exact .of_same rfl

@[simp] theorem setMarker_position (r : Route) (m : Fin 2) (l : List Action) : (r.setMarker m l).position = r.position := by
  unfold Route.setMarker
  split <;> rfl

@[simp] theorem setMarker_triggerTimer (r : Route) (m : Fin 2) (l : List Action) :
    (r.setMarker m l).triggerTimer = r.triggerTimer := by
  unfold Route.setMarker
  split <;> rfl

theorem markerEdge_records (m : Fin 2) (a : Act) : RecordsKept a.s (markerEdge m a).s := by
  have unused : RecordsKept a.s (markerUnused m a).s := .of_same rfl
  have queued : RecordsKept a.s (markerToQueue m a).s := by
    unfold markerToQueue
    split
    · exact unused
    · rename_i e _ _
      split
      · have fired := (dropHead_follows a).trans (fire_follows .queue e.action (some e.trigger) _)
        split <;> rename_i fires <;> rw [fires] at fired
        · exact fired.kept.trans (evaluateQueue_follows _).kept
        · exact fired.kept
      · exact unused
  have listed (rest : List Action) : Follows 0 a (a.modPr fun r => r.setMarker m rest) :=
    modPr_plan_follows _ a (setMarker_position _ _ _) (setMarker_triggerTimer _ _ _)
  unfold markerEdge
  split
  · split
    · exact ((listed _).trans (fire_follows _ _ _ _)).kept
    · exact queued
  · exact unused

theorem takeEdge_records (line : Fin 12) (e : Edge) (a : Act) : RecordsKept a.s (takeEdge line e a).s := by
  have latched : RecordsKept a.s (latchEdge line e a).s := by
    unfold latchEdge
    split <;> exact .of_same rfl
  unfold takeEdge
  dsimp only
  split
  · exact latched.trans (markerEdge_records 0 _)
  · exact latched.trans (markerEdge_records 1 _)
  · exact latched

theorem filterExpired_records (line : Fin 12) (a : Act) : RecordsKept a.s (filterExpired line a).s := by
  unfold filterExpired
  extract_lets before settled after handed
  have settled_records : RecordsKept a.s settled.s := .of_same rfl
  have handed_records : RecordsKept a.s handed.s := by
    unfold handed
    split
    · split
      · exact settled_records
      · exact settled_records.trans (functionChange_records _ _ _)
    · exact settled_records
  split
  · split
    · exact handed_records.trans (takeEdge_records _ _ _)
    · exact handed_records
  · exact handed_records

theorem relevel_records (before : State) (a : Act) : RecordsKept a.s (relevel before a).s := by
  have ordered (choices : List Nat) : RecordsKept a.s (a.setChoices choices).s := .of_same rfl
  exact (ordered _).trans (.foldl _ (fun b (c : InputFunction × Bool) => functionChange_records c.1 c.2 b) _ _)

theorem armLine_records (n : Nat) (a : Act) : RecordsKept a.s (armLine n a).1.s := by
  unfold armLine
  split
  · exact .refl _
  · split
    · exact .refl _
    · split
      · exact .refl _
      · split <;> exact .of_same rfl

theorem clearLine_records (n : Nat) (a : Act) : RecordsKept a.s (clearLine n a).1.s := by
  unfold clearLine
  dsimp only
  split
  · exact .refl _
  · split <;> exact .of_same rfl

/-! ## Command Gate (06) -/

/-- R98, R105: a slot takes a command of the vehicle of a kind that is not always admitted. -/
theorem takeHold_records (c : Command) (seq : Nat) (f : Failed) (time : Nat) (a : Act) (origin : c.origin = .vehicle)
    (kind : c.content.taken c.role = true) (failed : judge a.s c = some f) : RecordsKept a.s (takeHold c seq f time a).s := by
  have gated : c.content.alwaysAdmitted = false := by
    by_contra always
    simp [judge, Bool.eq_true_of_not_eq_false always] at failed
  have role : c.role ≠ .line ∧ c.role ≠ .climate := by
    constructor <;> intro e <;> cases content : c.content <;> simp [Content.taken, content, e] at kind
  refine ((setHold_follows c.role _ a fun _ h held => ?_).trans (placeReport_actuates _ _).follows).kept
  obtain rfl := Option.some.inj held
  exact ⟨⟨rfl, origin, gated⟩, role⟩

/-- R95, R96: steps 3 to 5, for a MOVE that the move-state rule lets through. -/
theorem judgeVehicle_records (c : Command) (seq : Nat) (a : Act) (origin : c.origin = .vehicle)
    (kind : c.content.taken c.role = true) (free : ∀ d target, c.content = .move d target → moveCheck a.s d target = .free) :
    RecordsKept a.s (judgeVehicle c seq a).s := by
  unfold judgeVehicle
  split
  · exact (sendVehicle_actuates c a free).kept
  · rename_i f failed
    split
    · exact takeHold_records c seq f _ a origin kind failed
    · exact .of_same rfl

theorem checkVehicleMove_records (c : Command) (seq : Nat) (d : Dev) (target : Pos) (a : Act) (origin : c.origin = .vehicle)
    (kind : c.content.taken c.role = true) (move : c.content = .move d target) :
    RecordsKept a.s (checkVehicleMove c seq d target a).s := by
  unfold checkVehicleMove
  split
  · split
    · rename_i free
      refine judgeVehicle_records c seq a origin kind fun d' target' other => ?_
      obtain ⟨rfl, rfl⟩ := Content.move.inj (move.symm.trans other)
      exact free
    · exact .refl _
    · exact .of_same rfl
  · exact .of_same rfl

theorem vehicleCommand_records (seq : Nat) (role : Role) (payload : List Byte) (a : Act) :
    RecordsKept a.s (vehicleCommand seq role payload a).s := by
  unfold vehicleCommand
  split
  · exact .of_same rfl
  · rename_i content _
    dsimp only
    split
    · exact .of_same rfl
    · rename_i refused
      have kind : content.taken role = true := by simpa using refused
      split
      · exact .of_same rfl
      · split
        · exact .of_same rfl
        · split
          · exact checkVehicleMove_records _ seq _ _ a rfl kind rfl
          all_goals exact judgeVehicle_records _ seq a rfl kind nofun

theorem expireHold_records (role : Role) (a : Act) : RecordsKept a.s (expireHold role a).s := (dropHold_follows role _ _ a).kept

theorem refuseHeldForTable_records (a : Act) : RecordsKept a.s (refuseHeldForTable a).s :=
  (Follows.foldl _ (fun b role => dropHold_follows role .table (fun _ => none) b) _ a).kept

end Sys2Proof.Machine
namespace Sys2Proof.Machine

/-! ## Ice Control (09) -/

theorem climateStatus_records (payload : List Byte) (a : Act) : RecordsKept a.s (climateStatus payload a).s :=
  (((modIce_follows (fun i => { i with climate := some (climateValues payload) }) a id).trans (recomputeScore_follows _)).trans
    (iceEvent_follows .other _)).kept

theorem heaterStatus_records (payload : List Byte) (a : Act) : RecordsKept a.s (heaterStatus payload a).s := by
  have taken : RecordsKept a.s (a.modIce fun i => { i with actual := some (statusGroups payload) }).s :=
    (modIce_follows _ a id).kept
  unfold heaterStatus
  dsimp only
  split
  · exact taken
  · exact taken.trans (placeReport_actuates _ _).kept

theorem takeIceMode_records (setting : Nat) (a : Act) : RecordsKept a.s (takeIceMode setting a).1.s := by
  unfold takeIceMode
  split
  · exact .refl _
  · exact ((modIce_follows _ a id).trans (iceEvent_follows .setting _)).kept

/-! ## Head Port Controller (10) -/

theorem loseRole_records (role : Role) (cause : HeadCause) (a : Act) : RecordsKept a.s (loseRole role cause a).s := by
  unfold loseRole
  split <;> exact .of_same rfl

theorem portLeaves_records (port : Fin 8) (link : PortLink) (a : Act) : RecordsKept a.s (portLeaves port link a).s := by
  have left : RecordsKept a.s (a.modPort port fun r => r.unlocked link).s := .of_same rfl
  unfold portLeaves
  dsimp only
  split
  · exact left.trans (loseRole_records _ _ _)
  · exact left

theorem portLight_records (port : Fin 8) (a : Act) : RecordsKept a.s (portLight port a).s := by
  unfold portLight
  split <;> exact .of_same rfl

theorem portLock_records (port : Fin 8) (a : Act) : RecordsKept a.s (portLock port a).s := by
  unfold portLock
  split <;> exact .of_same rfl

theorem portLockLost_records (port : Fin 8) (a : Act) : RecordsKept a.s (portLockLost port a).s := by
  unfold portLockLost
  split
  · exact portLeaves_records _ _ a
  · exact portLeaves_records _ _ a
  · exact .refl _
  · exact .refl _

theorem portDark_records (port : Fin 8) (a : Act) : RecordsKept a.s (portDark port a).s := by
  unfold portDark
  split
  · exact .refl _
  · exact portLeaves_records _ _ a

theorem portBadFrame_records (port : Fin 8) (a : Act) : RecordsKept a.s (portBadFrame port a).s := by
  unfold portBadFrame
  split
  · split
    · exact portLeaves_records _ _ a
    · exact .of_same rfl
  · exact .refl _

theorem validFrame_records (port : Fin 8) (a : Act) : RecordsKept a.s (validFrame port a).s := by
  unfold validFrame refreshSilence
  split
  · exact .of_same rfl
  · split
    · exact .of_same rfl
    · split <;> exact .of_same rfl

theorem checkKind_records (port : Fin 8) (a : Act) : RecordsKept a.s (checkKind port a).s := by
  unfold checkKind
  split
  · split
    · exact .refl _
    · dsimp only
      split <;> exact .of_same rfl
  · exact .refl _

theorem takeAnnouncement_records (port : Fin 8) (kind serial : Nat) (a : Act) :
    RecordsKept a.s (takeAnnouncement port kind serial a).s := by
  have announced : RecordsKept a.s (a.modPort port fun r => { r with kind := some kind, serial := some serial }).s := .of_same rfl
  exact announced.trans (checkKind_records _ _)

theorem announce_records (port : Fin 8) (kind serial : Nat) (a : Act) : RecordsKept a.s (announce port kind serial a).s := by
  have valid := validFrame_records port a
  unfold announce
  dsimp only
  split
  · split
    · exact valid.trans (takeAnnouncement_records _ _ _ _)
    · split
      · exact valid
      · refine valid.trans (.trans ?_ (takeAnnouncement_records _ _ _ _))
        split
        · exact loseRole_records _ _ _
        · exact .refl _
  · exact .refl _

theorem handStatus_records (role : Role) (payload : List Byte) (a : Act) : RecordsKept a.s (handStatus role payload a).s := by
  cases role with
  | switchgear => exact switchgearStatus_records payload a
  | panA => exact panStatus_records .a payload a
  | panB => exact panStatus_records .b payload a
  | heater => exact heaterStatus_records payload a
  | climate => exact climateStatus_records payload a
  | line => exact .refl _
  | aux1 => exact .refl _
  | aux2 => exact .refl _

theorem roleStatus_records (d : DirectoryRecord) (role : Role) (payload : List Byte) (a : Act) :
    RecordsKept a.s (roleStatus d role payload a).s := by
  have present : RecordsKept a.s (becomePresent role d.silence a).s := by
    unfold becomePresent
    dsimp only
    split <;> exact .of_same rfl
  have forwarded (b : Act) : RecordsKept b.s (forward d role payload b).s := by
    unfold forward offerTelemetry
    split
    · split <;> rename_i e <;> split at e <;> cases e <;> exact .of_same rfl
    · exact .refl _
  exact (present.trans (handStatus_records _ _ _)).trans (forwarded _)

theorem headStatusFrame_records (port : Fin 8) (payload : List Byte) (a : Act) :
    RecordsKept a.s (headStatusFrame port payload a).s := by
  have valid := validFrame_records port a
  unfold headStatusFrame
  dsimp only
  split
  · split
    · split
      · exact valid
      · split
        · split
          · exact valid.trans (roleStatus_records _ _ _ _)
          · exact valid
        · exact valid
    · exact portBadFrame_records _ a
  · exact .refl _

theorem cellFrame_records (port : Fin 8) (sequence : Nat) (fault : Bool) (samples : List Int) (current : Nat) (a : Act) :
    RecordsKept a.s (cellFrame port sequence fault samples current a).s := by
  have valid := validFrame_records port a
  unfold cellFrame
  dsimp only
  split
  · split
    · split
      · exact valid.trans (takeCell_records _ _ _ _ _)
      · exact valid
    · exact portBadFrame_records _ a
  · exact .refl _

theorem directoryGone_records (a : Act) : RecordsKept a.s (directoryGone a).s := by
  have unmapped (b : Act) (role : Role) : RecordsKept b.s (unmapRole b role).s := by
    unfold unmapRole
    split <;> exact .of_same rfl
  have unbarred (b : Act) (f : Vector PortRecord 8 → Vector PortRecord 8) : RecordsKept b.s (b.modPorts f).s := .of_same rfl
  exact (RecordsKept.foldl unmapRole unmapped rolesInOrder a).trans (unbarred _ _)

theorem directoryValid_records (a : Act) : RecordsKept a.s (directoryValid a).s := by
  refine .foldl _ (fun b port => ?_) _ a
  split
  · exact checkKind_records _ b
  · exact .refl _

/-! ## Tables (11) -/

theorem discarded_records (id : Nat) (before : State) (a : Act) : RecordsKept a.s (discarded id before a).s := by
  have refused := refuseHeldForTable_records a
  have disarmed (b : Act) : RecordsKept b.s (disarmLatches b).s := .of_same rfl
  unfold discarded
  dsimp only
  split
  · split
    · exact refused.trans (directoryGone_records _)
    · exact refused
  · exact refused
  · split
    · exact systemTableGone_records a
    · exact .refl _
  · split
    · exact (relevel_records _ a).trans (disarmed _)
    · exact .refl _
  · exact .refl _

theorem becameValid_records (id : Nat) (before : State) (a : Act) : RecordsKept a.s (becameValid id before a).s := by
  unfold becameValid
  split
  · exact directoryValid_records a
  · exact .of_same rfl
  · exact relevel_records _ a
  · exact .refl _

theorem partDone_records (id : Nat) (before : State) (a : Act) : RecordsKept a.s (partDone id before a).s := by
  have changed := lineSettingsChanged_records (settings before) a
  have allocated (b : Act) := (allocate_follows b).kept
  unfold partDone
  dsimp only
  split <;> split
  · exact changed.trans (allocated _)
  · exact changed
  · exact allocated a
  · exact .refl _

theorem setTables_records (ts : Tables) (a : Act) : RecordsKept a.s (a.setTables ts).s := .of_same rfl

theorem discardPart_records (id : Nat) (a : Act) : RecordsKept a.s (discardPart id a).s :=
  ((setTables_records _ a).trans (discarded_records _ _ _)).trans (partDone_records _ _ _)

theorem appendPart_records (id : Nat) (bytes : List Byte) (a : Act) : RecordsKept a.s (appendPart id bytes a).1.s := by
  have appended := (setTables_records (appendIn bytes a.s.vl.tables id).1 a).trans (partDone_records id a.s _)
  unfold appendPart
  dsimp only
  split
  · exact appended
  · exact appended

theorem lastPart_records (id : Nat) (bytes : List Byte) (a : Act) : RecordsKept a.s (lastPart id bytes a).1.s := by
  have appended := appendPart_records id bytes a
  unfold lastPart
  split
  rename_i b answer e
  rw [e] at appended
  have validated := appended.trans ((setTables_records (validateIn b.s.vl.tables id).1 b).trans (partDone_records id b.s _))
  split
  · dsimp only
    split
    · exact validated
    · exact validated.trans (becameValid_records _ _ _)
  · exact appended

theorem guardLoad_records (id : Nat) (body : Act → Act × Answered) (h : ∀ a, RecordsKept a.s (body a).1.s) (a : Act) :
    RecordsKept a.s (guardLoad id body a).1.s := by
  unfold guardLoad
  split
  · exact .refl _
  · exact h a

theorem whileLoading_records (id : Nat) (body : Act → Act × Answered) (h : ∀ a, RecordsKept a.s (body a).1.s) (a : Act) :
    RecordsKept a.s (whileLoading id body a).1.s := by
  unfold whileLoading
  split
  · exact h a
  · exact .refl _

/-! ## Position and Route Unit (07) -/

/-- R114: a frame that is adopted makes the Position Record FRESH, with a stale deadline. -/
theorem adopt_follows (st : Settings) (now p speed quality : Nat) (a : Act) :
    Follows 0 a (a.modPr fun r => { r with position := adopt st now p speed quality r.position }) :=
  modPr_follows _ a (fun _ => by simp [PositionRecord.InOrder, adopt]) fun order runs => ⟨(order runs).1, rfl⟩

/-- R117: a jump empties the queue. -/
theorem takeJump_follows (est p : Nat) (a : Act) : Follows 0 a (takeJump est p a) := by
  have jumped : Follows 0 a
      (a.modPr fun r => { r.flushQueue with position := { r.position with jumps := bump16 r.position.jumps } }) :=
    modPr_follows _ a id fun _ => nofun
  exact (jumped.trans (placeReport_actuates _ _).follows).trans (raiseJump_follows _)

theorem takePosition_records (p speed quality : Nat) (a : Act) : RecordsKept a.s (takePosition p speed quality a).s := by
  have adopted := adopt_follows (settings a.s) a.s.now p speed quality a
  unfold takePosition
  dsimp only
  refine RecordsKept.trans ?_ (evaluateQueue_follows _).kept
  split
  · split
    · exact (adopted.trans (takeJump_follows _ _ _)).kept
    · exact adopted.kept
  · exact adopted.kept

/-- R116: a Position Record that becomes STALE has no stale deadline, and the trigger timer stops. -/
theorem becomeStale_records (a : Act) : RecordsKept a.s (becomeStale a).s where
  mode := rfl
  devices := id
  holds := id
  position | ⟨time, stale, _⟩ => ⟨time, stale, by simp [becomeStale]⟩
  timer _ := nofun
  changeover := id
  ice := id

theorem appendQueue_records (entries : List QueueEntry) (a : Act) : RecordsKept a.s (appendQueue entries a).1.s := by
  have appended : Follows 0 a
      (a.modPr fun r => { r with queue := r.queue ++ entries, appended := r.appended + entries.length }) :=
    modPr_plan_follows _ a rfl rfl
  unfold appendQueue
  dsimp only
  split
  · exact .refl _
  · split
    · exact .refl _
    · split
      · exact .refl _
      · split
        · exact (appended.trans (evaluateQueue_follows _)).kept
        · exact appended.kept

theorem loadMarker_records (list : Nat) (actions : List Action) (a : Act) :
    RecordsKept a.s (loadMarker list actions a).1.s := by
  unfold loadMarker
  dsimp only
  split
  · exact .refl _
  · split
    · exact .refl _
    · split
      · exact .refl _
      · split
        · exact .refl _
        · exact (modPr_plan_follows _ a (setMarker_position _ _ _) (setMarker_triggerTimer _ _ _)).kept

theorem flushQueueRequest_records (a : Act) : RecordsKept a.s (flushQueueRequest a).1.s := (flushSource_follows .queue a).kept

theorem flushMarkerRequest_records (list : Nat) (a : Act) : RecordsKept a.s (flushMarkerRequest list a).1.s := by
  unfold flushMarkerRequest
  split
  · exact .refl _
  · exact (modPr_plan_follows _ a (setMarker_position _ _ _) (setMarker_triggerTimer _ _ _)).kept

theorem clearCounts_records (a : Act) : RecordsKept a.s (clearCounts a).1.s where
  mode := rfl
  devices := id
  holds := id
  position := id
  timer := id
  changeover := id
  ice := id

/-! ## Changeover Sequencer (08) -/

theorem proceedChangeover_records (a : Act) : RecordsKept a.s (proceedChangeover a).1.s := by
  unfold proceedChangeover
  split <;> rename_i step
  · exact (enterRaisingNew_follows _ _ a (by rw [step]; rfl) fun _ => by rw [step]; decide).kept
  · exact (enterVerifying_follows _ _ a (by rw [step]; rfl) fun _ => by rw [step]; decide).kept
  all_goals exact .refl _

theorem abortChangeover_records (a : Act) : RecordsKept a.s (abortChangeover a).1.s := by
  unfold abortChangeover
  split
  · exact .refl _
  · rename_i idle
    split
    · exact .refl _
    · rename_i aborting
      exact (abort_follows .vehicle none _ [] a fun _ => rank_of_inProgress (by simp [inProgress, idle, aborting])).kept

end Sys2Proof.Machine
namespace Sys2Proof.Machine

/-! SUPPORT. Every command keeps the Switchgear Record, the hold slots, the Position Record, the Changeover Record and the Ice Record in
order. -/

/-! ## The records, all in order -/

structure RecordsSafe (s : State) : Prop where
  devices : DevicesInOrder s
  holds : HoldsInOrder s
  position : s.pr.position.InOrder
  timer : TimerInOrder s
  changeover : s.co.InOrder
  ice : s.ice.InOrder

theorem RecordsKept.safe {s t : State} (h : RecordsKept s t) (safe : RecordsSafe s) : RecordsSafe t where
  devices := h.devices safe.devices
  holds := h.holds safe.holds
  position := h.position safe.position
  timer := h.timer safe.timer
  changeover := h.changeover safe.changeover
  ice := h.ice safe.ice

theorem recordsSafe_iff (s : State) : RecordsSafe s ↔
    DevicesInOrder s ∧ HoldsInOrder s ∧ PositionInOrder s ∧ ChangeoverInOrder s ∧ IceInOrder s := by
  rw [positionInOrder_iff, changeoverInOrder_iff, iceInOrder_iff]
  constructor
  · rintro ⟨devices, holds, position, timer, changeover, ice⟩
    exact ⟨devices, holds, ⟨position, timer⟩, changeover, ice⟩
  · rintro ⟨devices, holds, ⟨position, timer⟩, changeover, ice⟩
    exact ⟨devices, holds, position, timer, changeover, ice⟩

/-! ## The end of an act, and RESTART (R198) -/

theorem holdsInOrder_of_empty {s : State} (empty : ∀ role, holdOf s role = none) : HoldsInOrder s :=
  ⟨empty .line, empty .climate, fun role _ found => by simp [empty role] at found⟩

theorem sendOwn_records {s : State} (cls : UpClass) (flags : Byte) (payload : List Byte) (a : Act) (h : RecordsKept s a.s) :
    RecordsKept s (sendOwn cls flags payload a).s := h.trans (.of_same rfl)

theorem takeItem_records (w : Waiting) (a : Act) : RecordsKept a.s (takeItem w a).s := by
  cases w with
  | reply r => exact .of_same rfl
  | status => exact sendOwn_records _ _ _ _ (.of_same rfl)
  | report i r => exact sendOwn_records _ _ _ _ (.of_same rfl)
  | digest => exact sendOwn_records _ _ _ _ (.of_same rfl)
  | telemetry t => exact sendOwn_records _ _ _ _ (.of_same rfl)

/-- R157: the score tells nothing of a scrape. -/
theorem recomputeScore_scrape (a : Act) :
    (recomputeScore a).1.s.ice.scrapePan = a.s.ice.scrapePan ∧ (recomputeScore a).1.s.ice.phase = a.s.ice.phase := by
  unfold recomputeScore
  dsimp only
  split
  · exact ⟨rfl, rfl⟩
  · split <;> exact ⟨rfl, rfl⟩

/-- R173: a RESTART leaves SCRAPE. -/
theorem restartIce_records (a : Act) : RecordsKept a.s (restartIce a).s := by
  let left := a.modIce fun i => { i with inhibit := false, holdOff := false, scrapePan := none, phase := none }
  obtain ⟨pan, phase⟩ := recomputeScore_scrape left
  have stopped : RecordsKept a.s ((recomputeScore left).1.modIce fun i => { i with state := .inactive }).s :=
    { (recomputeScore_follows left).kept with ice := fun _ => Ice.inOrder_of_left pan phase nofun }
  exact stopped.trans (allocate_follows _).kept

/-- R113, R132, R156: a RESTART empties the slots, and stops the trigger timer and the changeover. -/
theorem restartEffects_recordsSafe (a : Act) (safe : RecordsSafe a.s) : RecordsSafe (restartEffects a).s := by
  unfold restartEffects
  extract_lets emptied stopped standby
  have restarted : RecordsKept standby.s (restartLine standby).s := .of_same rfl
  have lowered : RecordsKept standby.s (requestMbOpen .protection (restartPans (restartLine standby))).s :=
    restarted.trans ((lowerBoth_actuates .protect .immediate _).trans (requestMbOpen_actuates .protection _)).kept
  have empty (role : Role) : holdOf standby.s role = none := Vector.getElem_replicate _
  refine (restartIce_records _).safe
    { devices := lowered.devices safe.devices, holds := lowered.holds (holdsInOrder_of_empty empty)
      position := lowered.position safe.position, timer := nofun, changeover := lowered.changeover ?_
      ice := lowered.ice safe.ice }
  exact ⟨nofun, nofun, by simp [standby, stopped, restartChangeover, CoStep.progress], fun _ => ⟨rfl, rfl⟩⟩

/-- What follows the notes of an act keeps the records in order. -/
theorem complete_recordsSafe (a : Act) (safe : RecordsSafe (settle noteBound a).s) : RecordsSafe (complete a).s := by
  have taken (w : Waiting) := (takeItem_records w (settle noteBound a)).safe safe
  unfold complete
  dsimp only
  split
  · exact safe
  · rename_i w _
    split
    · have restarted := restartEffects_recordsSafe _ (taken w)
      have emptied (b : Act) : RecordsKept b.s (emptySlots b).s := .of_same rfl
      exact ((settle_records noteBound _).trans (emptied _)).safe restarted
    · exact taken w

theorem perform_recordsSafe (f : Act → Act) (s t : State) (safe : RecordsSafe s) (h : RecordsSafe (settle noteBound (f { s })).s)
    (e : perform f s = .next t) : RecordsSafe t := by
  unfold perform at e
  split at e <;> cases e
  · exact complete_recordsSafe _ h
  · exact safe

theorem perform_records (f : Act → Act) (s t : State) (safe : RecordsSafe s) (h : RecordsKept s (f { s }).s)
    (e : perform f s = .next t) : RecordsSafe t :=
  perform_recordsSafe f s t safe ((h.trans (settle_records noteBound _)).safe safe) e

/-! ## Deadlines, frames and requests -/

theorem atDeadline_records (deadline : Option Nat) (effect : Act → Act) (s : State) (h : ∀ a, RecordsKept a.s (effect a).s) :
    RecordsKept s (atDeadline deadline effect { s }).s := by
  cases deadline with
  | none => exact .refl _
  | some t =>
    have timed : RecordsKept s (({ s } : Act).setNow (max s.now t)).s := .of_same rfl
    exact timed.trans (h _)

theorem onFrame_records (f : Act → Act) (h : ∀ a, RecordsKept a.s (f a).s) (a : Act) : RecordsKept a.s (onFrame f a).s := by
  have framed : RecordsKept a.s (downFrame a).s := .of_same rfl
  unfold onFrame
  split
  · exact framed.trans (h _)
  · exact .refl _

theorem vlBad_records (a : Act) : RecordsKept a.s (vlBad a).s := by
  unfold vlBad
  split
  · refine SameRecords.kept ⟨rfl, rfl, rfl, rfl, rfl, ?_⟩
    simp only [Act.modVl_vl]
    split <;> rfl
  · exact .refl _

theorem framed_records (s : State) : RecordsKept s (framed s) := .of_same rfl

theorem reply_records (seq code : Nat) (r : Answered) (a : Act) : RecordsKept a.s (reply seq code r a).s := .of_same rfl

/-- R191, R192: a request reaches its owner and is answered, or leaves the records. -/
theorem requestWith_answers (pending : Result) (seq code : Nat) (owner : Act → Act × Answered) (s : State) :
    RecordsKept s (requestWith pending seq code owner { s }).s
      ∨ requestWith pending seq code owner { s } =
          reply seq code (owner { s := framed s }).2 (owner { s := framed s }).1 := by
  by_cases locked : s.vl.link = .locked
  · rw [requestWith, onFrame_of_locked _ s locked]
    dsimp only
    split
    · exact .inl (.of_same rfl)
    · split
      · exact .inl (.of_same rfl)
      · exact .inr rfl
  · rw [requestWith, onFrame_of_unlocked _ _ locked]
    exact .inl (.refl s)

theorem requestWith_records (pending : Result) (seq code : Nat) (owner : Act → Act × Answered) (s : State)
    (h : ∀ a, RecordsKept a.s (owner a).1.s) : RecordsKept s (requestWith pending seq code owner { s }).s := by
  obtain kept | answered := requestWith_answers pending seq code owner s
  · exact kept
  · rw [answered]
    exact ((framed_records s).trans (h { s := framed s })).trans (reply_records seq code _ _)

theorem lowerReply_records (pans : PanChoice) (a : Act) : RecordsKept a.s (lowerReply pans a).1.s := by
  cases pans with
  | one p => exact (lowerPan_actuates p .vehicle .orderly false a).kept
  | both => exact (lowerBoth_actuates .vehicle .orderly a).kept

theorem iceReply_records (setting : Nat) (a : Act) : RecordsKept a.s (iceReply setting a).1.s := by
  have taken := takeIceMode_records setting a
  unfold iceReply
  split <;> rename_i e <;> rw [e] at taken <;> exact taken

theorem clearReply_records (line : Nat) (a : Act) : RecordsKept a.s (clearReply line a).1.s := by
  have cleared := clearLine_records line a
  unfold clearReply
  split <;> rename_i e <;> rw [e] at cleared <;> exact cleared

theorem readTableRequest_records (table start : Nat) (a : Act) : RecordsKept a.s (readTableRequest table start a).1.s := by
  unfold readTableRequest
  split <;> exact .refl _

theorem readRecordRequest_records (record : Nat) (a : Act) : RecordsKept a.s (readRecordRequest record a).1.s := by
  unfold readRecordRequest
  split <;> exact .refl _

/-! ## Modes (R128, R196, R197) -/

/-- The notes of R197. -/
def standbyNotes : List Note :=
  [.panLowerBoth .standby .orderly, .mbOpenProtect, .coStandby, .iceEvaluate .mode, .routeStandby, .gateReview]

theorem modeStandby_of_run {a : Act} (run : a.s.vl.mode ≠ .standby) :
    modeStandby a = ((setMode .standby a).notify standbyNotes, { result := .done }) := if_neg run

/-- R128, R197: in the act that turns to STANDBY the route unit takes its note and stops the trigger timer. -/
theorem settle_standby_recordsSafe (a : Act) (safe : RecordsSafe a.s) (quiet : a.notes = []) (seq code : Nat) (r : Answered) :
    RecordsSafe (settle noteBound (reply seq code r ((setMode .standby a).notify standbyNotes))).s := by
  let turned := reply seq code r ((setMode .standby a).notify standbyNotes)
  have notes : turned.notes = standbyNotes := by simp [turned, reply, setMode, quiet]
  have kept := settle_records noteBound turned
  have few : turned.effort ≤ noteBound := (effort_le turned).trans (by rw [notes]; decide)
  have due : TimerDue turned := .inr (by rw [notes]; decide)
  exact
    { devices := kept.devices safe.devices, holds := kept.holds safe.holds, position := kept.position safe.position
      timer := settle_stops_timer noteBound turned rfl due few, changeover := kept.changeover safe.changeover
      ice := kept.ice safe.ice }

theorem setModeStandby_recordsSafe (seq : Nat) (s : State) (safe : RecordsSafe s) :
    RecordsSafe (settle noteBound (request seq 0x04 modeStandby { s })).s := by
  obtain kept | answered := requestWith_answers .busy seq 0x04 modeStandby s
  · exact (kept.trans (settle_records noteBound _)).safe safe
  · have entered := (framed_records s).safe safe
    rw [request, answered]
    by_cases run : s.vl.mode = .standby
    · rw [show modeStandby { s := framed s } = ({ s := framed s }, { result := .already }) from if_pos run]
      exact ((reply_records seq 0x04 _ _).trans (settle_records noteBound _)).safe entered
    · rw [modeStandby_of_run (a := { s := framed s }) run]
      exact settle_standby_recordsSafe { s := framed s } entered rfl seq 0x04 _

/-- R196: RUN asks nothing of the records that they do not meet. -/
theorem modeRun_recordsSafe (a : Act) (safe : RecordsSafe a.s) : RecordsSafe (modeRun a).1.s := by
  unfold modeRun
  split
  · exact safe
  · split
    · exact safe
    · exact { safe with timer := fun runs => ⟨rfl, (safe.timer runs).2⟩ }

theorem setModeRun_recordsSafe (seq : Nat) (s : State) (safe : RecordsSafe s) :
    RecordsSafe (settle noteBound (request seq 0x04 modeRun { s })).s := by
  refine (settle_records noteBound _).safe ?_
  obtain kept | answered := requestWith_answers .busy seq 0x04 modeRun s
  · exact kept.safe safe
  · rw [request, answered]
    exact (reply_records seq 0x04 _ _).safe (modeRun_recordsSafe _ ((framed_records s).safe safe))

/-! ## Commands -/

/-- R200: after a power-on reset nothing is present in the records. -/
theorem afterReset_recordsSafe (levels : LineLevels) (s : State) : RecordsSafe (afterReset levels s) where
  devices d := by cases d <;> nofun
  holds := holdsInOrder_of_empty fun _ => Vector.getElem_replicate _
  position := (by simp [PositionRecord.InOrder] : PositionRecord.InOrder {})
  timer := nofun
  changeover := (by simp [Changeover.InOrder, CoStep.progress] : Changeover.InOrder {})
  ice := (by simp [Ice.InOrder] : Ice.InOrder {})

/-- Every command keeps the records in order. -/
theorem exec_recordsSafe (c : Instr) (s t : State) (safe : RecordsSafe s) (e : exec c s = .next t) : RecordsSafe t := by
  have kept (f : Act → Act) (h : ∀ a, RecordsKept a.s (f a).s) (e : perform f s = .next t) : RecordsSafe t :=
    perform_records f s t safe (h { s }) e
  have timed (d : Option Nat) (f : Act → Act) (h : ∀ a, RecordsKept a.s (f a).s) (e : perform (atDeadline d f) s = .next t) :
      RecordsSafe t := perform_records _ s t safe (atDeadline_records d f s h) e
  have asked (seq code : Nat) (owner : Act → Act × Answered) (h : ∀ a, RecordsKept a.s (owner a).1.s)
      (e : perform (request seq code owner) s = .next t) : RecordsSafe t :=
    perform_records _ s t safe (requestWith_records .busy seq code owner s h) e
  cases c with
  | powerOnReset levels =>
    cases e
    exact afterReset_recordsSafe levels s
  | powerLoss =>
    cases e
    exact (RecordsKept.of_same rfl : RecordsKept s { s with powered := false }).safe safe
  | headLinkLightAppears port => exact kept _ (portLight_records port) e
  | headLinkLockAchieved port => exact kept _ (portLock_records port) e
  | headLinkLockLost port => exact kept _ (portLockLost_records port) e
  | headLinkLightLost port => exact kept _ (portDark_records port) e
  | headBadFrame port => exact kept _ (portBadFrame_records port) e
  | announce port kind serial => exact kept _ (announce_records port kind serial) e
  | headStatus port payload => exact kept _ (headStatusFrame_records port payload) e
  | cell port sequence fault samples current => exact kept _ (cellFrame_records port sequence fault samples current) e
  | roleSilenceExpiry role => exact timed _ _ (loseRole_records role .silence) e
  | panRaise seq pan role profile => exact asked _ _ _ (fun a => (raisePan_actuates pan role profile .pan a).kept) e
  | stageDeadlineExpiry pan => exact timed _ _ (nextStage_records pan) e
  | raiseDeadlineExpiry pan => exact timed _ _ (raiseTimeout_records pan) e
  | ventGuardExpiry pan => exact timed _ _ (ventGuardOver_records pan) e
  | lowerDeadlineExpiry pan => exact timed _ _ (endAtDeadline_records pan) e
  | panLower seq pans => exact asked _ _ _ (lowerReply_records pans) e
  | clearPanFault seq pan => exact asked _ _ _ (clearFault_records pan) e
  | moveDeadlineExpiry dev => exact timed _ _ (giveUpMove_records dev) e
  | inputRawChange line level => exact kept _ (takeRaw_records line level) e
  | filterDeadlineExpiry line => exact timed _ _ (filterExpired_records line) e
  | inputArm seq line => exact asked _ _ _ (armLine_records line) e
  | inputClear seq line => exact asked _ _ _ (clearReply_records line) e
  | headCommand seq role payload =>
    refine kept (if payload.isEmpty then vlBad else onFrame (vehicleCommand seq role payload)) (fun a => ?_) e
    split
    · exact vlBad_records a
    · exact onFrame_records _ (vehicleCommand_records seq role payload) a
  | holdDeadlineExpiry role => exact timed _ _ (expireHold_records role) e
  | position position speed quality => exact kept _ (onFrame_records _ (takePosition_records position speed quality)) e
  | staleDeadlineExpiry => exact timed _ _ becomeStale_records e
  | queueAppend seq entries => exact asked _ _ _ (appendQueue_records entries) e
  | triggerTimerExpiry => exact timed _ _ (fun a => ((routeStandby_follows a).trans (evaluateQueue_follows _)).kept) e
  | markerLoad seq list actions => exact asked _ _ _ (loadMarker_records list actions) e
  | queueFlush seq => exact asked _ _ _ flushQueueRequest_records e
  | markerFlush seq list => exact asked _ _ _ (flushMarkerRequest_records list) e
  | changeoverStart seq target raisePosition =>
    exact asked _ _ _ (fun a => (startChangeover_follows target raisePosition .vehicle a).kept) e
  | raiseTimerExpiry => exact timed _ _ (fun a => (testAwaitRaise_follows a).kept) e
  | changeoverProceed seq => exact asked _ _ _ proceedChangeover_records e
  | verifyDeadlineExpiry => exact timed _ _ verifyTimedOut_records e
  | changeoverAbort seq => exact asked _ _ _ abortChangeover_records e
  | iceMode seq setting => exact asked _ _ _ (iceReply_records setting) e
  | vlLightAppears =>
    refine kept vlLight (fun a => ?_) e
    unfold vlLight
    split <;> exact .of_same rfl
  | vlLockAchieved =>
    refine kept vlLock (fun a => ?_) e
    unfold vlLock
    split <;> exact .of_same rfl
  | vlLockLost =>
    refine kept vlUnlock (fun a => ?_) e
    unfold vlUnlock
    split <;> exact .of_same rfl
  | vlLightLost => exact kept vlDark (fun a => .of_same rfl) e
  | vlBadFrame => exact kept _ vlBad_records e
  | vlSilenceExpiry =>
    refine timed _ vlSilent (fun a => ?_) e
    unfold vlSilent
    dsimp only
    split <;> exact .of_same rfl
  | mgmtRequestDiscarded =>
    refine kept (fun a => if repliesFull a.s then onFrame discardRequest a else a) (fun a => ?_) e
    split
    · exact onFrame_records discardRequest (fun a => .of_same rfl) a
    · exact .refl _
  | loadTableFirst seq table records =>
    exact asked _ _ _ (guardLoad_records table _ fun b => (discardPart_records table b).trans (appendPart_records table records _)) e
  | loadTableMiddle seq table records =>
    exact asked _ _ _ (guardLoad_records table _ (whileLoading_records table _ (appendPart_records table records))) e
  | loadTableLast seq table records =>
    exact asked _ _ _ (guardLoad_records table _ (whileLoading_records table _ (lastPart_records table records))) e
  | loadTableOnly seq table records =>
    exact asked _ _ _ (guardLoad_records table _ fun b => (discardPart_records table b).trans (lastPart_records table records _)) e
  | readTable seq table start => exact asked _ _ _ (readTableRequest_records table start) e
  | readRecord seq record => exact asked _ _ _ (readRecordRequest_records record) e
  | setModeRun seq => exact perform_recordsSafe _ s t safe (setModeRun_recordsSafe seq s safe) e
  | setModeStandby seq => exact perform_recordsSafe _ s t safe (setModeStandby_recordsSafe seq s safe) e
  | restart seq =>
    exact perform_records _ s t safe (requestWith_records .already seq 0x05 beginRestart s fun a => .of_same rfl) e
  | clearCounters seq => exact asked _ _ _ clearCounts_records e
  | statusTimerExpiry => exact timed _ statusExpired (fun a => .of_same rfl) e
  | transmitterFree => exact kept transmitterDone (fun a => .of_same rfl) e
  | unknownRequest seq code => exact asked _ _ unknown (fun a => .refl _) e

theorem step_recordsSafe (s t : State) (safe : RecordsSafe s) (e : step s = .next t) : RecordsSafe t := by
  unfold step at e
  split at e
  · cases e
    refine RecordsKept.safe (s := s) ?_ safe
    unfold idle
    split
    · split <;> exact .of_same rfl
    · exact .refl s
  · rename_i rest _
    exact exec_recordsSafe _ _ t ((RecordsKept.of_same rfl : RecordsKept s { s with pending := rest }).safe safe) e

/-- Settles O10: each operation of a block keeps in order the records that it writes, and in the one act that turns to STANDBY the
trigger timer is stopped, for the ranks bound the notes that may go before the route unit's. -/
theorem stepsKeepTheRecordsInOrder : Obligations.StepsKeepTheRecordsInOrder :=
  fun s t devices holds position changeover ice e =>
    (recordsSafe_iff t).1 (step_recordsSafe s t ((recordsSafe_iff s).2 ⟨devices, holds, position, changeover, ice⟩) e)

end Sys2Proof.Machine

namespace Sys2Proof.Machine

/-! SUPPORT. What the INPUT_MAP makes of a line, what a raw change and the filter deadline make of its Input Record, and which block
takes the edge that a change of activity is (05). -/

/-! ## A line under its record (R83, R84, R86) -/

section
variable {s : State} {line : Fin 12} {m : InputMapRecord}

theorem filterDuration_of_no_record (free : inputMapRecord s line = none) : filterDuration s line = 64 := by
  simp [filterDuration, free]

/-- R83: the durations by their index. -/
theorem filterDuration_of_record (record : inputMapRecord s line = some m) :
    (m.filter = 0 → filterDuration s line = 1) ∧ (m.filter = 1 → filterDuration s line = 4)
      ∧ (m.filter = 2 → filterDuration s line = 16) ∧ (m.filter = 3 → filterDuration s line = 64) := by
  simp +contextual [filterDuration, record]

/-- R84: an active level that a record names is the filtered level of an active line. -/
theorem lineActiveAt_named (s : State) (line : Fin 12) (active : Level) :
    lineActiveAt s line (.named active) = decide (filteredLevel s.inputs[line].filtered = some active) := by
  unfold lineActiveAt
  cases filteredLevel s.inputs[line].filtered with
  | none => simp
  | some level => simp [beq_eq_decide]

theorem lineActiveAt_iff (s : State) (line : Fin 12) (active : Coded Level) :
    lineActiveAt s line active = true ↔
      ∃ level, active = .named level ∧ filteredLevel s.inputs[line].filtered = some level := by
  cases active with
  | named active => simp [lineActiveAt_named]
  | unnamed byte => simp [lineActiveAt]

theorem lineActive_of_record {active : Level} (record : inputMapRecord s line = some m) (level : m.active = .named active) :
    lineActive s line = decide (filteredLevel s.inputs[line].filtered = some active) := by
  rw [lineActive, activeLevel, record, Option.elim_some, level, lineActiveAt_named]

theorem lineActive_of_no_record (free : inputMapRecord s line = none) :
    lineActive s line = true ↔ s.inputs[line].filtered = .high := by
  rw [lineActive, activeLevel, free, Option.elim_none, lineActiveAt_named, decide_eq_true_iff]
  cases s.inputs[line].filtered <;> simp [filteredLevel]

theorem functionActive_iff (s : State) (f : InputFunction) : functionActive s f = true ↔
    ∃ (line : Fin 12) (m : InputMapRecord) (level : Level), inputMapRecord s line = some m ∧ m.function = .named f
      ∧ m.active = .named level ∧ filteredLevel s.inputs[line].filtered = some level := by
  simp [functionActive, Option.any_eq_true, lineActiveAt_iff]

theorem senseSelects_iff (sense : Sense) (e : Edge) : senseSelects sense e = true ↔
    sense = .both ∨ sense = .toActive ∧ e = .toActive ∨ sense = .toInactive ∧ e = .toInactive := by
  cases sense <;> cases e <;> simp [senseSelects]

theorem lineSense_of_no_record (free : inputMapRecord s line = none) : lineSense s line = .none := by
  rw [lineSense, free]
  rfl

theorem lineSense_of_record {sense : Sense} (record : inputMapRecord s line = some m) (named : m.sense = .named sense) :
    lineSense s line = sense := by
  rw [lineSense, record, Option.bind_some, named]
  rfl

theorem lineFunction_of_no_record (free : inputMapRecord s line = none) : lineFunction s line = none := by
  rw [lineFunction, free]
  rfl

theorem lineFunction_of_record {f : InputFunction} (record : inputMapRecord s line = some m) (named : m.function = .named f) :
    lineFunction s line = some f := by
  rw [lineFunction, record, Option.bind_some, named]
  rfl

/-- R86: an edge is a change of activity, toward the activity that it ends in. -/
theorem edgeOf_eq (before after : Bool) :
    edgeOf before after = if before = after then none else if after then some .toActive else some .toInactive := by
  cases before <;> cases after <;> rfl

end

/-! ## A raw change (R81) -/

section
variable {now duration : Nat} {level : Level} {r : InputRecord}

/-- R81: on a line that has not settled every change restarts the wait, and bounces. -/
theorem rawChange_of_unsettled (unsettled : r.filtered = .unsettled) : rawChange now duration level r =
    { r with raw := level, deadline := some (now + duration), bounce := bump16 r.bounce } := by
  simp [rawChange, unsettled]

theorem eq_settledTo_iff (f : Filtered) (level : Level) : f = settledTo level ↔ filteredLevel f = some level := by
  cases f <;> cases level <;> simp [filteredLevel, settledTo]

/-- R81: back at the filtered level the wait ends, and the change bounces. -/
theorem rawChange_of_return (back : filteredLevel r.filtered = some level) : rawChange now duration level r =
    { r with raw := level, deadline := none, bounce := bump16 r.bounce } := by
  have same := (eq_settledTo_iff r.filtered level).2 back
  cases level <;> simp [rawChange, same, settledTo]

/-- R81: away from the filtered level the wait begins. -/
theorem rawChange_of_departure (settled : r.filtered ≠ .unsettled) (away : filteredLevel r.filtered ≠ some level) :
    rawChange now duration level r = { r with raw := level, deadline := some (now + duration) } := by
  have differs := mt (eq_settledTo_iff r.filtered level).1 away
  cases filtered : r.filtered with
  | unsettled => exact absurd filtered settled
  | high => simp [rawChange, filtered, filtered ▸ differs]
  | low => simp [rawChange, filtered, filtered ▸ differs]

end

theorem execInputRawChange_of_same {s : State} {line : Fin 12} {level : Level} (powered : s.powered = true) (sending : Sending s)
    (same : s.inputs[line].raw = level) : exec (.inputRawChange line level) s = .next s := by
  have taken : takeRaw line level { s } = { s } := if_pos same
  change perform (takeRaw line level) s = _
  rw [perform_of_powered _ s powered, taken, complete_of_quiet _ rfl sending]

theorem execInputRawChange_of_change {s : State} {line : Fin 12} {level : Level} (powered : s.powered = true)
    (sending : Sending s) (changed : s.inputs[line].raw ≠ level) : exec (.inputRawChange line level) s =
      .next { s with inputs := updAt s.inputs line fun _ => rawChange s.now (filterDuration s line) level s.inputs[line] } := by
  have taken : takeRaw line level { s } =
      ({ s } : Act).modInput line (rawChange s.now (filterDuration s line) level) := if_neg changed
  change perform (takeRaw line level) s = _
  rw [perform_of_powered _ s powered, taken, complete_of_quiet _ rfl sending]
  rfl

/-! ## What a function's block leaves alone (R84) -/

/-- What the Discrete Line Unit reads once it has handed on a change: its lines, the tables, the position and the clock. -/
def State.linesRead (s : State) : Vector InputRecord 12 × Tables × PositionRecord × Nat :=
  (s.inputs, s.vl.tables, s.pr.position, s.now)

theorem blind_linesRead : BlindToRoof State.linesRead where
  pans _ _ := rfl
  sg _ _ := rfl
  holds _ _ := rfl
  co _ _ := rfl
  ice _ _ _ := rfl
  slots _ _ := rfl
  sent _ _ := rfl
  choices _ _ := rfl
  undelivered _ _ := rfl

/-- R82: a line whose filtered level has taken the raw level. -/
def InputRecord.settled (r : InputRecord) : InputRecord := { r with filtered := settledTo r.raw, deadline := none }

/-- R86: the edge toward or away from an active level that a line makes by taking its raw level. -/
def levelEdge (r : InputRecord) (active : Level) : Option Edge :=
  edgeOf (decide (filteredLevel r.filtered = some active)) (decide (r.raw = active))

/-- R82, R86: the edge that the filter deadline of a line makes. -/
def settledEdge (line : Fin 12) (a : Act) : Option Edge :=
  edgeOf (lineActive a.s line) (lineActive (a.modInput line .settled).s line)

/-- R82, R84: the filter deadline of a line up to its edge: the line settles, and a change of its activity is handed to the block
of its function. -/
def handedOn (line : Fin 12) (a : Act) : Act :=
  let settled := a.modInput line .settled
  match lineFunction a.s line with
  | some f =>
    if lineActive a.s line = lineActive settled.s line then settled
    else functionChange f (lineActive settled.s line) settled
  | none => settled

theorem handedOn_linesRead (line : Fin 12) (a : Act) :
    (handedOn line a).s.linesRead = (a.modInput line .settled).s.linesRead := by
  unfold handedOn
  dsimp only
  split
  · split
    · rfl
    · exact functionChange_read blind_linesRead _ _ _
  · rfl

theorem handedOn_tables (line : Fin 12) (a : Act) : (handedOn line a).s.vl.tables = a.s.vl.tables :=
  congrArg (fun read => read.2.1) (handedOn_linesRead line a)

theorem handedOn_latch (line : Fin 12) (a : Act) : (handedOn line a).s.inputs[line].latch = a.s.inputs[line].latch := by
  have lines : (handedOn line a).s.inputs = updAt a.s.inputs line .settled := congrArg Prod.fst (handedOn_linesRead line a)
  rw [lines, updAt_same]
  rfl

theorem handedOn_estimate (line : Fin 12) (a : Act) : estimate (handedOn line a).s = estimate a.s :=
  congrArg (fun read : Vector InputRecord 12 × Tables × PositionRecord × Nat => read.2.2.1.estimate read.2.2.2)
    (handedOn_linesRead line a)

/-! ## The event latch (R86, R88) -/

theorem lineFunction_of_tables {s t : State} (same : s.vl.tables = t.vl.tables) (line : Fin 12) :
    lineFunction s line = lineFunction t line := by
  simp only [lineFunction, inputMapRecord, same]

theorem lineSense_of_tables {s t : State} (same : s.vl.tables = t.vl.tables) (line : Fin 12) :
    lineSense s line = lineSense t line := by
  simp only [lineSense, inputMapRecord, same]

/-- R88: an armed latch takes the edge with the estimate, and reports it under the line's function. -/
theorem latchEdge_of_armed (line : Fin 12) (e : Edge) (a : Act) (armed : a.s.inputs[line].latch = .armed) :
    latchEdge line e a =
      { s := ({ a.s with inputs := updAt a.s.inputs line fun r => { r with latch := .latched e (estimate a.s) } }).reported
          (.inputEvent line (lineFunction a.s line) e (estimate a.s))
        notes := a.notes } := if_pos armed

theorem latchEdge_of_not_armed (line : Fin 12) (e : Edge) (a : Act) (h : a.s.inputs[line].latch ≠ .armed) :
    latchEdge line e a = a := if_neg h

theorem latchEdge_tables (line : Fin 12) (e : Edge) (a : Act) : (latchEdge line e a).s.vl.tables = a.s.vl.tables := by
  unfold latchEdge
  split <;> rfl

/-- The function of a marker line. -/
def markerFunction : Fin 2 → InputFunction
  | 0 => .marker0
  | 1 => .marker1

/-- R86: an edge of a marker line goes on to the Position and Route Unit. -/
theorem takeEdge_of_marker {line : Fin 12} (e : Edge) {a : Act} (m : Fin 2)
    (function : lineFunction a.s line = some (markerFunction m)) :
    takeEdge line e a = markerEdge m (latchEdge line e a) := by
  rw [← lineFunction_of_tables (latchEdge_tables line e a)] at function
  unfold takeEdge
  dsimp only
  rw [function]
  match m with
  | 0 => rfl
  | 1 => rfl

theorem takeEdge_of_other {line : Fin 12} {f : InputFunction} (e : Edge) {a : Act} (function : lineFunction a.s line = some f)
    (not0 : f ≠ .marker0) (not1 : f ≠ .marker1) : takeEdge line e a = latchEdge line e a := by
  rw [← lineFunction_of_tables (latchEdge_tables line e a)] at function
  unfold takeEdge
  dsimp only
  rw [function]
  split <;> simp_all

/-! ## The filter deadline (R82) -/

/-- The act that the expiry of a deadline begins: the clock stands at least at the deadline (assumption log 2). -/
def State.expiring (s : State) (t : Nat) : Act := { s := { s with now := max s.now t } }

theorem execFilterDeadlineExpiry_of_running {s : State} {line : Fin 12} {t : Nat} (powered : s.powered = true)
    (deadline : s.inputs[line].deadline = some t) :
    exec (.filterDeadlineExpiry line) s = .next (complete (filterExpired line (s.expiring t))).s := by
  change perform (atDeadline s.inputs[line].deadline (filterExpired line)) s = _
  rw [deadline, perform_atDeadline t _ s powered, State.expiring]

/-- R82, R86: the edge that the event sense selects is taken after the change has been handed on. -/
theorem filterExpired_eq (line : Fin 12) (a : Act) : filterExpired line a =
    (settledEdge line a).elim (handedOn line a) fun e =>
      if senseSelects (lineSense a.s line) e then takeEdge line e (handedOn line a) else handedOn line a := by
  rw [← lineSense_of_tables (handedOn_tables line a)]
  change (match settledEdge line a with
    | some e => if senseSelects (lineSense (handedOn line a).s line) e then takeEdge line e (handedOn line a) else handedOn line a
    | none => handedOn line a) = _
  cases settledEdge line a <;> rfl

theorem filterExpired_of_unselected {line : Fin 12} {a : Act}
    (unselected : ∀ e, settledEdge line a = some e → senseSelects (lineSense a.s line) e = false) :
    filterExpired line a = handedOn line a := by
  rw [filterExpired_eq]
  cases edge : settledEdge line a with
  | none => rfl
  | some e => rw [Option.elim_some, unselected e edge, if_neg Bool.false_ne_true]

theorem filterExpired_of_selected {line : Fin 12} {a : Act} {e : Edge} (edge : settledEdge line a = some e)
    (selected : senseSelects (lineSense a.s line) e = true) : filterExpired line a = takeEdge line e (handedOn line a) := by
  rw [filterExpired_eq, edge, Option.elim_some, if_pos selected]

/-- R82, R84, R86: an unassigned line settles, and that is all. -/
theorem filterExpired_of_no_record {line : Fin 12} {a : Act} (free : inputMapRecord a.s line = none) :
    filterExpired line a = a.modInput line .settled := by
  have unselected : ∀ e, settledEdge line a = some e → senseSelects (lineSense a.s line) e = false := by
    intro e _
    rw [lineSense_of_no_record free, senseSelects]
  rw [filterExpired_of_unselected unselected, handedOn, lineFunction_of_no_record free]

section
variable {line : Fin 12} {a : Act} {m : InputMapRecord} {active : Level} (record : inputMapRecord a.s line = some m)
  (level : m.active = .named active)

include record level

/-- R84: a line that has settled is active where its raw level is the record's. -/
theorem lineActive_settled : lineActive (a.modInput line .settled).s line = decide (a.s.inputs[line].raw = active) := by
  have settles : filteredLevel (settledTo a.s.inputs[line].raw) = some a.s.inputs[line].raw := (eq_settledTo_iff _ _).1 rfl
  have same : inputMapRecord (a.modInput line .settled).s line = some m := record
  rw [lineActive_of_record same level, Act.modInput_inputs, updAt_same, InputRecord.settled, settles]
  simp

theorem settledEdge_of_record : settledEdge line a = levelEdge a.s.inputs[line] active := by
  rw [settledEdge, lineActive_of_record record level, lineActive_settled record level, levelEdge]

/-- R84: what is handed on of a line with a record. -/
theorem handedOn_of_record {f : InputFunction} (function : m.function = .named f) : handedOn line a =
    if decide (filteredLevel a.s.inputs[line].filtered = some active) = decide (a.s.inputs[line].raw = active) then
      a.modInput line .settled
    else functionChange f (decide (a.s.inputs[line].raw = active)) (a.modInput line .settled) := by
  rw [handedOn, lineFunction_of_record record function, lineActive_of_record record level, lineActive_settled record level]

end

end Sys2Proof.Machine

namespace Sys2Proof.Machine

/-! O30: lines with their filter, their functions, their event latches and the marker edges (R81 to R88, R125). -/

/-! ## The latch of a line with a function (R86, R88) -/

section
variable {line : Fin 12} {f : InputFunction} {a : Act} (function : lineFunction a.s line = some f)

include function

/-- R88: the edge of a line with a function reaches the latch that the line had, at the estimate of the deadline's time. -/
theorem latchEdge_of_handedOn (e : Edge) : latchEdge line e (handedOn line a) =
    if a.s.inputs[line].latch = .armed then
      { s := ({ (handedOn line a).s with
            inputs := updAt (handedOn line a).s.inputs line fun r => { r with latch := .latched e (estimate a.s) } }).reported
          (.inputEvent line (some f) e (estimate a.s))
        notes := (handedOn line a).notes }
    else handedOn line a := by
  rw [← handedOn_latch line a]
  split
  next armed =>
    rw [latchEdge_of_armed line e _ armed, handedOn_estimate, lineFunction_of_tables (handedOn_tables line a), function]
  next unarmed => exact latchEdge_of_not_armed line e _ unarmed

theorem takeEdge_of_handedOn_marker (e : Edge) (m : Fin 2) (marker : f = markerFunction m) :
    takeEdge line e (handedOn line a) = markerEdge m (latchEdge line e (handedOn line a)) := by
  rw [marker, ← lineFunction_of_tables (handedOn_tables line a)] at function
  exact takeEdge_of_marker e m function

theorem takeEdge_of_handedOn_other (e : Edge) (not0 : f ≠ .marker0) (not1 : f ≠ .marker1) :
    takeEdge line e (handedOn line a) = latchEdge line e (handedOn line a) := by
  rw [← lineFunction_of_tables (handedOn_tables line a)] at function
  exact takeEdge_of_other e function not0 not1

end

/-- R84: a GENERAL line hands nothing on. -/
theorem handedOn_of_general {line : Fin 12} {a : Act} (function : lineFunction a.s line = some .general) :
    handedOn line a = a.modInput line .settled := by
  rw [handedOn, function]
  dsimp only
  split <;> rfl

/-! ## The filter deadline as a command (R82, R88) -/

section
variable {s : State} {line : Fin 12} {t : Nat} {m : InputMapRecord} {active : Level} {sense : Sense}
  (powered : s.powered = true) (deadline : s.inputs[line].deadline = some t) (record : inputMapRecord s line = some m)
  (level : m.active = .named active) (named : m.sense = .named sense)

include powered deadline record level named

theorem execFilterDeadlineExpiry_of_unselected
    (unselected : ∀ e, levelEdge s.inputs[line] active = some e → senseSelects sense e = false) :
    exec (.filterDeadlineExpiry line) s = .next (complete (handedOn line (s.expiring t))).s := by
  have same : inputMapRecord (s.expiring t).s line = some m := record
  rw [execFilterDeadlineExpiry_of_running powered deadline, filterExpired_of_unselected]
  rw [settledEdge_of_record same level, lineSense_of_record same named]
  exact unselected

theorem execFilterDeadlineExpiry_of_selected {e : Edge} (edge : levelEdge s.inputs[line] active = some e)
    (selected : senseSelects sense e = true) :
    exec (.filterDeadlineExpiry line) s = .next (complete (takeEdge line e (handedOn line (s.expiring t)))).s := by
  have same : inputMapRecord (s.expiring t).s line = some m := record
  rw [execFilterDeadlineExpiry_of_running powered deadline, filterExpired_of_selected]
  · rw [settledEdge_of_record same level]
    exact edge
  · rw [lineSense_of_record same named]
    exact selected

section
variable (sending : Sending s) (general : m.function = .named .general)

include sending general

/-- R88: on an armed GENERAL line the selected edge is latched and reported. -/
theorem execFilterDeadlineExpiry_of_general_event {e : Edge} (edge : levelEdge s.inputs[line] active = some e)
    (selected : senseSelects sense e = true) (armed : s.inputs[line].latch = .armed) :
    exec (.filterDeadlineExpiry line) s = .next
      (({ s with
          now := max s.now t
          inputs := updAt s.inputs line fun r =>
            { r.settled with latch := .latched e (s.pr.position.estimate (max s.now t)) } }).reported
        (.inputEvent line (some .general) e (s.pr.position.estimate (max s.now t)))) := by
  have function : lineFunction (s.expiring t).s line = some .general := lineFunction_of_record (m := m) record general
  have same : (s.expiring t).s.inputs[line].latch = .armed := armed
  rw [execFilterDeadlineExpiry_of_selected powered deadline record level named edge selected,
    takeEdge_of_handedOn_other function e (by decide) (by decide), latchEdge_of_handedOn function, if_pos same,
    handedOn_of_general function, complete_of_quiet _ rfl sending]
  simp [State.expiring, Act.modInput, Act.modInputs, updAt, estimate]

/-- R88: without a selected edge, or with a latch that is not armed, a GENERAL line settles, and that is all. -/
theorem execFilterDeadlineExpiry_of_general_idle
    (idle : ∀ e, levelEdge s.inputs[line] active = some e → senseSelects sense e = false ∨ s.inputs[line].latch ≠ .armed) :
    exec (.filterDeadlineExpiry line) s = .next { s with now := max s.now t, inputs := updAt s.inputs line .settled } := by
  have function : lineFunction (s.expiring t).s line = some .general := lineFunction_of_record (m := m) record general
  have settles : .next (complete (handedOn line (s.expiring t))).s =
      (.next { s with now := max s.now t, inputs := updAt s.inputs line .settled } : Host.Outcome State Fault Refusal) := by
    rw [handedOn_of_general function, complete_of_quiet _ rfl sending]
    rfl
  by_cases selects : ∃ e, levelEdge s.inputs[line] active = some e ∧ senseSelects sense e = true
  · obtain ⟨e, edge, selected⟩ := selects
    have unarmed : ¬ (s.expiring t).s.inputs[line].latch = .armed := (idle e edge).resolve_left (by simp [selected])
    rw [execFilterDeadlineExpiry_of_selected powered deadline record level named edge selected,
      takeEdge_of_handedOn_other function e (by decide) (by decide), latchEdge_of_handedOn function, if_neg unarmed, settles]
  · rw [execFilterDeadlineExpiry_of_unselected powered deadline record level named, settles]
    exact fun e edge => Bool.eq_false_iff.2 fun selected => selects ⟨e, edge, selected⟩

end

end

/-! ## Marker edges (R125) -/

section
variable {a : Act} {m : Fin 2}

theorem dropHead_of_queue {e : QueueEntry} {rest : List QueueEntry} (queue : a.s.pr.queue = e :: rest) :
    dropHead a = a.modPr fun r => { r with queue := rest, triggerTimer := none } := by
  simp [dropHead, Act.modPr, queue]

/-- R125: a queue head that waits for the marker fires, and the next head is evaluated after an accepted firing. -/
theorem markerToQueue_of_waiting {action : Action} {rest : List QueueEntry}
    (queue : a.s.pr.queue = { action, trigger := .onMarker m.val } :: rest) :
    markerToQueue m a =
      (let fired := fire .queue action (some (.onMarker m.val)) (a.modPr fun r => { r with queue := rest, triggerTimer := none })
       if fired.2 then evaluateQueue fired.1 else fired.1) := by
  rw [markerToQueue, queue]
  dsimp only
  rw [if_pos rfl, dropHead_of_queue queue]
  split <;> rename_i fires <;> rw [fires] <;> rfl

theorem markerToQueue_of_not_waiting (other : ∀ e rest, a.s.pr.queue = e :: rest → e.trigger ≠ .onMarker m.val) :
    markerToQueue m a = markerUnused m a := by
  unfold markerToQueue
  split
  · rfl
  · rename_i e rest queue
    exact if_neg (other e rest queue)

theorem markerEdge_of_standby (standby : a.s.vl.mode = .standby) : markerEdge m a = markerUnused m a := by
  simp [markerEdge, standby]

theorem markerEdge_of_listed (run : a.s.vl.mode = .run) {action : Action} {rest : List Action}
    (listed : a.s.pr.marker m = action :: rest) :
    markerEdge m a = (fire (markerSource m) action none (a.modPr fun r => r.setMarker m rest)).1 := by
  rw [markerEdge, if_pos run, listed]

theorem markerEdge_of_empty (run : a.s.vl.mode = .run) (empty : a.s.pr.marker m = []) : markerEdge m a = markerToQueue m a := by
  rw [markerEdge, if_pos run, empty]

end

/-! ## The clauses of O30 -/

/-- Settles O30: the raw changes by the filtered level they find, the filter deadline by whether the sense selects its edge, and the
marker edges by what waits for them; what a function's block does leaves the latch, the tables and the estimate as they were. -/
theorem linesAreFilteredAndSettle : Obligations.LinesAreFilteredAndSettle := by
  refine ⟨⟨fun s line => ⟨fun free => ⟨filterDuration_of_no_record free, lineActive_of_no_record free⟩, fun m record => ?_⟩,
      functionActive_iff, ⟨rfl, rfl, rfl⟩, senseSelects_iff⟩,
    fun s line level powered sending => ⟨fun same => ?_, fun changed unsettled => ?_, fun changed _ back => ?_,
      fun changed settled away => ?_⟩,
    fun s line t powered sending deadline => ⟨fun free => ?_, fun m active sense record function level named => ⟨?_, ?_⟩⟩,
    fun s line t m f active sense powered deadline record function level named => ?_,
    fun a m => ⟨markerEdge_of_standby, fun run => ⟨fun action rest => markerEdge_of_listed run, fun empty other => ?_,
      fun action rest empty queue => ⟨fun accepted => ?_, fun refused => ?_⟩⟩⟩⟩
  · obtain ⟨first, second, third, fourth⟩ := filterDuration_of_record record
    refine ⟨first, second, third, fourth, fun level named => ?_⟩
    rw [lineActive_of_record record named, decide_eq_true_iff]
  · exact execInputRawChange_of_same powered sending same
  · rw [execInputRawChange_of_change powered sending changed, rawChange_of_unsettled unsettled]
  · rw [execInputRawChange_of_change powered sending changed, rawChange_of_return back]
  · rw [execInputRawChange_of_change powered sending changed, rawChange_of_departure settled away]
  · rw [execFilterDeadlineExpiry_of_running powered deadline, filterExpired_of_no_record free, complete_of_quiet _ rfl sending]
    rfl
  · intro e edge selected armed
    rw [← edgeOf_eq] at edge
    exact execFilterDeadlineExpiry_of_general_event powered deadline record level named sending function edge selected armed
  · intro idle
    rw [← edgeOf_eq] at idle
    exact execFilterDeadlineExpiry_of_general_idle powered deadline record level named sending function idle
  · intro r settled now before after edge at' b hand handed latched done
    have edge_eq : levelEdge s.inputs[line] active = edge := edgeOf_eq before after
    have function_eq : lineFunction (s.expiring t).s line = some f := lineFunction_of_record (m := m) record function
    have hand_eq : ∀ (f : InputFunction) (active : Bool) (a : Act), functionChange f active a = hand f active a := by
      intro f active a
      cases f <;> cases active <;> rfl
    have handed_eq : handedOn line (s.expiring t) = handed := by
      rw [handedOn_of_record (a := s.expiring t) record level function, hand_eq]
      rfl
    have latched_eq (e : Edge) : latchEdge line e (handedOn line (s.expiring t)) = latched e := by
      rw [latchEdge_of_handedOn function_eq, handed_eq]
      rfl
    refine ⟨fun unselected => ?_, fun e made selected => ?_⟩
    · rw [← edge_eq] at unselected
      have plays := execFilterDeadlineExpiry_of_unselected powered deadline record level named unselected
      rwa [handed_eq] at plays
    · have plays := execFilterDeadlineExpiry_of_selected powered deadline record level named (edge_eq.trans made) selected
      refine ⟨fun marker => ?_, fun marker => ?_, fun not0 not1 => ?_⟩
      · rwa [takeEdge_of_handedOn_marker function_eq e 0 marker, latched_eq] at plays
      · rwa [takeEdge_of_handedOn_marker function_eq e 1 marker, latched_eq] at plays
      · rwa [takeEdge_of_handedOn_other function_eq e not0 not1, latched_eq] at plays
  · rw [markerEdge_of_empty run empty, markerToQueue_of_not_waiting other]
    rfl
  · rw [markerEdge_of_empty run empty, markerToQueue_of_waiting queue]
    exact if_pos accepted
  · rw [markerEdge_of_empty run empty, markerToQueue_of_waiting queue]
    exact if_neg (Bool.eq_false_iff.1 refused)

end Sys2Proof.Machine

namespace Sys2Proof.Machine

/-! O31: INPUT_ARM and INPUT_CLEAR (R89, R90). -/

theorem lineOf_of_line (line : Fin 12) : lineOf line.val = some line := dif_pos line.isLt

theorem lineOf_of_out_of_range {n : Nat} (h : 12 ≤ n) : lineOf n = none := dif_neg (Nat.not_lt.2 h)

/-! ## The event latch of a request -/

section
variable {line : Fin 12} {a : Act}

theorem armLine_of_out_of_range {n : Nat} (h : 12 ≤ n) : armLine n a = (a, .range) := by
  rw [armLine, lineOf_of_out_of_range h]

theorem armLine_of_no_table (invalid : a.s.vl.tables.inputs.load ≠ .valid) : armLine line.val a = (a, .tableInvalid) := by
  rw [armLine, lineOf_of_line]
  exact if_pos invalid

theorem armLine_of_no_sense (valid : a.s.vl.tables.inputs.load = .valid) (sense : lineSense a.s line = .none) :
    armLine line.val a = (a, .range) := by
  rw [armLine, lineOf_of_line]
  exact (if_neg (not_not_intro valid)).trans (if_pos sense)

/-- R89: with a sense on the line the latch decides. -/
theorem armLine_of_sense (valid : a.s.vl.tables.inputs.load = .valid) (sense : lineSense a.s line ≠ .none) :
    armLine line.val a = match a.s.inputs[line].latch with
      | .disarmed => (a.modInput line fun r => { r with latch := .armed }, .done)
      | .armed => (a, .already)
      | .latched _ _ => (a, .notCleared) := by
  rw [armLine, lineOf_of_line]
  exact (if_neg (not_not_intro valid)).trans (if_neg sense)

theorem armLine_of_disarmed (valid : a.s.vl.tables.inputs.load = .valid) (sense : lineSense a.s line ≠ .none)
    (latch : a.s.inputs[line].latch = .disarmed) :
    armLine line.val a = (a.modInput line fun r => { r with latch := .armed }, .done) := by
  rw [armLine_of_sense valid sense, latch]

theorem armLine_of_armed (valid : a.s.vl.tables.inputs.load = .valid) (sense : lineSense a.s line ≠ .none)
    (latch : a.s.inputs[line].latch = .armed) : armLine line.val a = (a, .already) := by
  rw [armLine_of_sense valid sense, latch]

theorem armLine_of_latched {e : Edge} {p : Option Nat} (valid : a.s.vl.tables.inputs.load = .valid)
    (sense : lineSense a.s line ≠ .none) (latch : a.s.inputs[line].latch = .latched e p) :
    armLine line.val a = (a, .notCleared) := by
  rw [armLine_of_sense valid sense, latch]

theorem clearReply_of_out_of_range {n : Nat} (h : 12 ≤ n) : clearReply n a = (a, { result := .range }) := by
  rw [clearReply, clearLine, lineOf_of_out_of_range h]

theorem clearReply_of_disarmed (latch : a.s.inputs[line].latch = .disarmed) :
    clearReply line.val a = (a, { result := .already }) := by
  simp only [clearReply, clearLine, lineOf_of_line, latch]

theorem clearReply_of_armed (latch : a.s.inputs[line].latch = .armed) : clearReply line.val a =
    (a.modInput line fun r => { r with latch := .disarmed }, { result := .done, data := [0] }) := by
  simp only [clearReply, clearLine, lineOf_of_line, latch]

/-- R90: the reply carries the edge that is cleared, behind its presence byte (assumption log 40). -/
theorem clearReply_of_latched {e : Edge} {p : Option Nat} (latch : a.s.inputs[line].latch = .latched e p) :
    clearReply line.val a = (a.modInput line fun r => { r with latch := .disarmed },
      { result := .done, data := 1 :: (putPlace edges e ++ putPosition p) }) := by
  simp only [clearReply, clearLine, lineOf_of_line, latch, putOption]

end

/-! ## The requests -/

section
variable {s t : State} {seq n : Nat} (ready : Ready s) (sending : Sending t)

include ready sending

theorem execInputArm_of_quiet {r : Result} (owned : armLine n { s := framed s } = ({ s := t }, r)) :
    exec (.inputArm seq n) s = .next (t.replied seq 0x50 r) :=
  perform_request_of_quiet seq 0x50 (plain (armLine n)) ready sending (plain_eq _ _ owned)

theorem execInputClear_of_quiet {r : Answered} (owned : clearReply n { s := framed s } = ({ s := t }, r)) :
    exec (.inputClear seq n) s = .next (t.replied seq 0x51 r.result r.data r.clamped) :=
  perform_request_of_quiet seq 0x51 (clearReply n) ready sending owned

end

/-- Settles O31: each request by the line, the table and the latch that it finds. -/
theorem latchesAreArmedAndCleared : Obligations.LatchesAreArmedAndCleared := by
  refine ⟨fun s line => ⟨lineSense_of_no_record, fun m sense => lineSense_of_record⟩,
    fun s seq ready sending => ⟨fun n out => ⟨?_, ?_⟩, fun line => ⟨fun invalid => ?_,
      fun valid => ⟨fun sense => ?_, fun sense => ⟨fun latch => ?_, fun latch => ?_, fun e p latch => ?_⟩⟩,
      fun latch => ?_, fun latch => ?_, fun e p latch => ?_⟩⟩⟩
  · exact execInputArm_of_quiet (t := framed s) ready sending (armLine_of_out_of_range out)
  · exact execInputClear_of_quiet (t := framed s) ready sending (clearReply_of_out_of_range out)
  · exact execInputArm_of_quiet (t := framed s) ready sending (armLine_of_no_table invalid)
  · exact execInputArm_of_quiet (t := framed s) ready sending (armLine_of_no_sense valid sense)
  · exact execInputArm_of_quiet (t := (Act.modInput line _ { s := framed s }).s) ready sending
      (armLine_of_disarmed valid sense latch)
  · exact execInputArm_of_quiet (t := framed s) ready sending (armLine_of_armed valid sense latch)
  · exact execInputArm_of_quiet (t := framed s) ready sending (armLine_of_latched valid sense latch)
  · exact execInputClear_of_quiet (t := framed s) ready sending (clearReply_of_disarmed latch)
  · exact execInputClear_of_quiet (t := (Act.modInput line _ { s := framed s }).s) ready sending (clearReply_of_armed latch)
  · exact execInputClear_of_quiet (t := (Act.modInput line _ { s := framed s }).s) ready sending (clearReply_of_latched latch)

end Sys2Proof.Machine

namespace Sys2Proof.Machine

/-! O5: the output contacts, and the part without its supply (R91, R188; assumption log 10). -/

/-- R91: with the supply each contact follows its record. -/
theorem contacts_of_powered {s : State} (powered : s.powered = true) :
    contactClosed s 0 = !s.pans.a.vent ∧ contactClosed s 1 = !s.pans.b.vent ∧ contactClosed s 2 = !s.sg.mbTrip
      ∧ contactClosed s 3 = linkOk s := by
  simp [contactClosed, ventAsserted, tripAsserted, powered, panOf, Pans.get]

theorem contactClosed_of_unpowered {s : State} (unpowered : s.powered = false) (output : Fin 4) :
    contactClosed s output = false := by
  fin_cases output <;> simp [contactClosed, ventAsserted, tripAsserted, linkOk, unpowered]

/-- R188: LINK_OK is asserted where the link is LOCKED and its silence ACTIVE. -/
theorem linkOk_iff {s : State} (powered : s.powered = true) : linkOk s = true ↔ s.vl.link = .locked ∧ s.vl.active = true := by
  simp [linkOk, powered]

/-- Assumption log 10: without the supply only the power-on reset is taken. -/
theorem exec_of_unpowered {s : State} (c : Instr) (unpowered : s.powered = false) (h : ∀ levels, c ≠ .powerOnReset levels) :
    exec c s = .next s := by
  cases c with
  | powerOnReset levels => exact absurd rfl (h levels)
  | powerLoss =>
    change Host.Outcome.next { s with powered := false } = .next s
    rw [← unpowered]
  | _ => exact perform_of_unpowered _ s unpowered

/-- Settles O5: every contact but LINK_OK's is open while the part is unpowered, and LINK_OK is asserted with the supply alone. -/
theorem powerLossOpensEveryContact : Obligations.PowerLossOpensEveryContact := by
  intro s
  refine ⟨rfl, contactClosed_of_unpowered rfl, fun powered => ?_, fun c => exec_of_unpowered c⟩
  obtain ⟨ventA, ventB, trip, link⟩ := contacts_of_powered powered
  refine ⟨fun p => ?_, ?_, linkOk_iff powered, ventA, ventB, trip, ?_⟩
  · simp [ventAsserted, powered]
  · simp [tripAsserted, powered]
  · rw [link]
    exact linkOk_iff powered

end Sys2Proof.Machine

namespace Sys2Proof.Machine

/-! SUPPORT. How the Command Gate judges a command (06): the clauses of an interlock and the conditions of a GATE record in their order,
and what each of them says of the state. -/

/-! ## Clauses in their order -/

/-- The tests of a list decide its clauses one by one, under the same names. -/
def Decides (tests : List (Failed × Bool)) (clauses : List (Failed × Prop)) : Prop :=
  List.Forall₂ (fun t c => t.1 = c.1 ∧ (t.2 = true ↔ c.2)) tests clauses

/-- The first clause that fails after clauses that stand is the one found. -/
theorem firstFailed_of_first {tests : List (Failed × Bool)} {before after : List (Failed × Prop)} {f : Failed} {p : Prop}
    (decided : Decides tests (before ++ (f, p) :: after)) (stand : ∀ x ∈ before, x.2) (fails : ¬ p) :
    firstFailed tests = some f := by
  induction before generalizing tests with
  | nil =>
    obtain ⟨⟨f', b⟩, rest, ⟨rfl, same⟩, -, rfl⟩ := List.forall₂_cons_right_iff.1 decided
    exact if_neg (same.not.2 fails)
  | cons x before ih =>
    obtain ⟨⟨f', b⟩, rest, ⟨-, same⟩, later, rfl⟩ := List.forall₂_cons_right_iff.1 decided
    exact (if_pos (same.2 (stand x List.mem_cons_self))).trans (ih later fun y hy => stand y (List.mem_cons_of_mem x hy))

/-- Nothing is found where every clause stands, and only there. -/
theorem firstFailed_none_iff {tests : List (Failed × Bool)} {clauses : List (Failed × Prop)} (decided : Decides tests clauses) :
    firstFailed tests = none ↔ ∀ x ∈ clauses, x.2 := by
  induction decided with
  | nil => exact iff_of_true rfl nofun
  | @cons t c tests clauses same _ ih =>
    obtain ⟨f, b⟩ := t
    rw [List.forall_mem_cons, ← ih, ← same.2]
    cases b <;> simp [firstFailed]

/-! ## The judgement (R96) -/

/-- R96: a command of a kind that is not always admitted is judged by the interlocks, then by the GATE table. -/
theorem judge_of_kind {s : State} {c : Command} {k : Kind} (gated : c.content.alwaysAdmitted = false)
    (kind : c.content.kind = some k) : judge s c = interlockOrTable s c.role k c.origin := by
  simp [judge, gated, kind]

/-- R98: a command that is always admitted. -/
theorem judge_of_always {s : State} {c : Command} (always : c.content.alwaysAdmitted = true) : judge s c = none :=
  if_pos always

theorem interlockOrTable_of_failed {s : State} {role : Role} {k : Kind} {o : Origin} {f : Failed}
    (failed : firstFailed (interlockClauses s k) = some f) : interlockOrTable s role k o = some f := by
  rw [interlockOrTable, failed]

theorem interlockOrTable_of_passed {s : State} {role : Role} {k : Kind} {o : Origin}
    (passed : firstFailed (interlockClauses s k) = none) :
    interlockOrTable s role k o = (gateRecord s role k).bind fun r => tableFailure s r o := by
  rw [interlockOrTable, passed]

/-- R96: a command of a kind whose interlock has clauses is refused with the first that fails. -/
theorem judge_of_first {s : State} {c : Command} {k : Kind} {before after : List (Failed × Prop)} {f : Failed} {p : Prop}
    (gated : c.content.alwaysAdmitted = false) (kind : c.content.kind = some k)
    (decided : Decides (interlockClauses s k) (before ++ (f, p) :: after)) (stand : ∀ x ∈ before, x.2) (fails : ¬ p) :
    judge s c = some f :=
  (judge_of_kind gated kind).trans (interlockOrTable_of_failed (firstFailed_of_first decided stand fails))

/-- R96: where every clause stands, the GATE record of the command decides. -/
theorem judge_of_stands {s : State} {c : Command} {k : Kind} {clauses : List (Failed × Prop)}
    (gated : c.content.alwaysAdmitted = false) (kind : c.content.kind = some k)
    (decided : Decides (interlockClauses s k) clauses) (stand : ∀ x ∈ clauses, x.2) :
    judge s c = (gateRecord s c.role k).bind fun r => tableFailure s r c.origin :=
  (judge_of_kind gated kind).trans (interlockOrTable_of_passed ((firstFailed_none_iff decided).2 stand))

/-- R96: what the gate admits has passed every clause of its interlock. -/
theorem stands_of_judge {s : State} {c : Command} {k : Kind} {clauses : List (Failed × Prop)}
    (gated : c.content.alwaysAdmitted = false) (kind : c.content.kind = some k)
    (decided : Decides (interlockClauses s k) clauses) (admitted : judge s c = none) : ∀ x ∈ clauses, x.2 := by
  rw [judge_of_kind gated kind] at admitted
  refine (firstFailed_none_iff decided).1 ?_
  by_contra failed
  obtain ⟨f, failed⟩ := Option.ne_none_iff_exists'.1 failed
  simp [interlockOrTable_of_failed failed] at admitted

/-- R96: an interlock of one clause refuses with it, or leaves the command to the GATE table. -/
theorem judge_of_single {s : State} {c : Command} {k : Kind} {f : Failed} {p : Prop} (gated : c.content.alwaysAdmitted = false)
    (kind : c.content.kind = some k) (decided : Decides (interlockClauses s k) [(f, p)]) :
    (¬ p → judge s c = some f) ∧ (p → judge s c = (gateRecord s c.role k).bind fun r => tableFailure s r c.origin) :=
  ⟨judge_of_first (before := []) gated kind decided nofun,
    fun stands => judge_of_stands gated kind decided (List.forall_mem_singleton.2 stands)⟩

/-! ## What the clauses of H1 read (R99) -/

theorem PanRecord.collecting_iff (r : PanRecord) : r.collecting = true ↔ r.state = .up ∧ r.role = some .collect := by
  simp [PanRecord.collecting]

theorem confirmedCode_eq_some_iff (s : State) (code : Nat) : confirmedCode s = some code ↔ s.lm.confirmed = .system code := by
  unfold confirmedCode
  cases s.lm.confirmed <;> simp

/-- H1.6: the selector that the confirmed code's SYSTEM record requires. -/
theorem confirmedSelector_eq_some_iff (s : State) (p : Pos) : confirmedSelector s = some p ↔
    ∃ code r sel, s.lm.confirmed = .system code ∧ systemRecord s code = some r ∧ r.selector = .named sel ∧ selectorPos sel = p := by
  have wanted : confirmedSelector s = (confirmedCode s).bind (wantedSelector s) := by
    unfold confirmedSelector wantedSelector
    cases confirmedCode s with
    | none => rfl
    | some code =>
      cases e : systemRecord s code with
      | none => simp [e]
      | some r => cases selector : r.selector <;> simp [e, selector, Coded.value]
  simp only [wanted, Option.bind_eq_some_iff, confirmedCode_eq_some_iff, wantedSelector_iff, eq_comm (a := p)]
  exact ⟨fun ⟨code, confirmed, r, sel, rest⟩ => ⟨code, r, sel, confirmed, rest⟩,
    fun ⟨code, r, sel, confirmed, rest⟩ => ⟨code, confirmed, r, sel, rest⟩⟩

/-- H1.7: exactly one pantograph collects, and its isolating switch is reported CLOSED. -/
theorem oneCollecting_iff (s : State) : oneCollecting s = true ↔
    (s.pans.a.collecting ∧ ¬ s.pans.b.collecting ∧ s.sg.isoA.reported = .closed)
      ∨ (s.pans.b.collecting ∧ ¬ s.pans.a.collecting ∧ s.sg.isoB.reported = .closed) := by
  simp [oneCollecting, isoAt, devOf, isoOf, Switchgear.get, and_assoc]

/-! ## The conditions of a GATE record (R102) -/

/-- The conditions that a record names, as clauses: the place of a condition in the table is its bit of the record. -/
def namedClauses (r : GateRecord) (conditions : List (Failed × Prop)) : List (Failed × Prop) :=
  conditions.zipIdx.map fun x => (x.1.1, r.conditions.getLsbD x.2 = true → x.1.2)

/-- What decides the conditions of the table decides those that a record names, wherever they begin. -/
theorem decides_named (r : GateRecord) {tests : List (Failed × Bool)} {conditions : List (Failed × Prop)} (k : Nat)
    (decided : Decides tests conditions) :
    Decides ((tests.zipIdx k).map fun x => (x.1.1, !r.conditions.getLsbD x.2 || x.1.2))
      ((conditions.zipIdx k).map fun x => (x.1.1, r.conditions.getLsbD x.2 = true → x.1.2)) := by
  induction decided generalizing k with
  | nil => exact .nil
  | @cons t c tests conditions same _ ih =>
    refine .cons ⟨same.1, ?_⟩ (ih (k + 1))
    cases h : r.conditions.getLsbD k <;> simp [h, same.2]

end Sys2Proof.Machine

namespace Sys2Proof.Machine

/-! O32, O33, O34: the interlocks, the commands that are always admitted, and the GATE table (R98 to R102). -/

/-- Settles O32: the tests of H1 decide its clauses, so the first that fails refuses (`judge_of_first`), and what is admitted has
passed them all (`stands_of_judge`). -/
theorem breakerCloseNeedsEveryClauseOfH1 : Obligations.BreakerCloseNeedsEveryClauseOfH1 := by
  intro s c close ss matching collects clauses
  have gated : c.content.alwaysAdmitted = false := by rw [close]; rfl
  have kind : c.content.kind = some .mbClose := by rw [close]; rfl
  have one : oneCollecting s = true ↔ collects .a .b ∨ collects .b .a := by
    simp only [oneCollecting_iff, PanRecord.collecting_iff]
    simp only [collects, panOf, devOf, isoOf, Pans.get, Switchgear.get, and_assoc]
  have decided : Decides (interlockClauses s .mbClose) clauses := by
    simp [Decides, interlockClauses, h1Clauses, clauses, matching, ss, one, idle_iff, confirmedSelector_eq_some_iff]
  refine ⟨fun before f p after split => judge_of_first gated kind (split ▸ decided), judge_of_stands gated kind decided,
    fun admitted => ?_⟩
  have stands := stands_of_judge gated kind decided admitted
  simp only [clauses, List.forall_mem_cons] at stands
  obtain ⟨run, es, settled, -, -, ⟨code, r, sel, confirmed, record, selector, agrees⟩, collecting, -⟩ := stands
  exact ⟨run, ⟨code, r, confirmed, record, sel, selector, agrees.symm, (idle_iff _).2 settled.1⟩, es, one.2 collecting⟩

/-- Settles O33: H2 and H3 have one clause each, H4 two and H5 three; what is always admitted reaches no clause. -/
theorem otherInterlocksAndTheAlwaysAdmitted : Obligations.OtherInterlocksAndTheAlwaysAdmitted := by
  refine ⟨fun s c target => ?_, fun s c => ⟨?_, fun target rate ramp => ?_⟩⟩
  · intro table mbOpen
    refine ⟨fun move => ?_, fun move => ?_, fun move => ?_, fun move => ?_⟩
    · exact judge_of_single (k := .ssMove) (by rw [move]; rfl) (by rw [move]; rfl) (by simp [Decides, interlockClauses, mbOpen])
    · exact judge_of_single (k := .isoAMove) (by rw [move]; rfl) (by rw [move]; rfl) (by simp [Decides, interlockClauses])
    · exact judge_of_single (k := .isoBMove) (by rw [move]; rfl) (by rw [move]; rfl) (by simp [Decides, interlockClauses])
    · have gated : c.content.alwaysAdmitted = false := by rw [move]; rfl
      have kind : c.content.kind = some .esEarth := by rw [move]; rfl
      have decided : Decides (interlockClauses s .esEarth)
          [(.h41, mbOpen), (.h42, s.pans.a.state = .down ∧ s.pans.b.state = .down)] := by
        simp [Decides, interlockClauses, h4Clauses, mbOpen]
      exact ⟨judge_of_first (before := []) gated kind decided nofun,
        fun mb => judge_of_first (before := [(.h41, mbOpen)]) gated kind decided (by simpa using mb),
        fun mb a b => judge_of_stands gated kind decided (by simpa using ⟨mb, a, b⟩)⟩
  · rintro (content | content | content | content) <;> exact judge_of_always (by rw [content]; rfl)
  · have gated : c.content.alwaysAdmitted = false := by rw [ramp]; rfl
    have kind : c.content.kind = some .ramp := by rw [ramp]; rfl
    have decided : Decides (interlockClauses s .ramp)
        [(.h51, s.vl.mode = .run), (.h52, s.sg.es.reported = .opened), (.h53, functionActive s .roofAccess = false)] := by
      simp [Decides, interlockClauses, h5Clauses]
    refine ⟨fun standby => ?_, fun run es => ?_, fun run es access => ?_, fun run es access => ?_⟩
    · exact judge_of_first (before := []) gated kind decided nofun (by simp [standby])
    · exact judge_of_first (before := [(.h51, s.vl.mode = .run)]) gated kind decided (by simpa using run) es
    · exact judge_of_first (before := [(.h51, s.vl.mode = .run), (.h52, s.sg.es.reported = .opened)]) gated kind decided
        (by simpa using ⟨run, es⟩) (by simp [access])
    · exact judge_of_stands gated kind decided (by simpa using ⟨run, es, access⟩)

/-- Settles O34: the tests of the table decide its conditions, and with them those that the record names (`decides_named`). -/
theorem gateTableTestsItsConditionsInOrder : Obligations.GateTableTestsItsConditionsInOrder := by
  intro s r o conditions holds place
  have decided : Decides (namedConditions s r o) (namedClauses r conditions) := by
    refine decides_named r 0 ?_
    simp [Decides, tableConditions, conditions, Option.isSome_iff_exists, confirmedCode_eq_some_iff, speed]
  have mask : inMask r o = r.origins.getLsbD place := by
    cases o with
    | protection => simp [inMask, originBit, place]
    | _ => rfl
  refine ⟨mask, fun absent => ?_, fun listed => ⟨fun before f p after split stand fails => ?_, fun stand => ?_⟩⟩
  · simp [tableFailure, absent]
  · rw [tableFailure, if_pos listed]
    rw [split] at decided
    simp only [namedClauses, List.zipIdx_append, List.zipIdx_cons, List.map_append, List.map_cons, Nat.zero_add] at decided
    exact firstFailed_of_first decided (List.forall_mem_map.2 stand) fails
  · rw [tableFailure, if_pos listed]
    exact (firstFailed_none_iff decided).2 (List.forall_mem_map.2 stand)

end Sys2Proof.Machine

namespace Sys2Proof.Machine

/-! SUPPORT. What the path of a head command makes of the act it is given (06, 10): a vehicle command through its checks, an admitted
command with its head there and away, and a command that takes a hold slot. -/

/-! ## Sending (R183) -/

/-- R183: a command of a role that is away, or that has no record, is counted and reported. -/
theorem deliver_of_undelivered (c : Command) (a : Act)
    (away : rolePresent a.s c.role = false ∨ directoryOfRole a.s c.role = none) :
    deliver c a = ({ a with s := a.s.undeliveredOf c }, false) := by
  cases present : rolePresent a.s c.role with
  | false => exact deliver_of_absent c a present
  | true =>
    have record : directoryOfRole a.s c.role = none := away.resolve_left (by simp [present])
    have presence : (roleOf (a.modRole c.role fun r => { r with undelivered := bump16 r.undelivered }).s c.role).presence
        = (roleOf a.s c.role).presence := by
      rw [roleOf, Act.modRole_roles, updAt_same]
      rfl
    simp only [deliver, present, record]
    simp only [headStateReport, presence]
    rfl

/-- R182: the report of an undelivered command names the port of the role's record, with its link and announcement. -/
theorem undeliveredOf_of_port {s : State} {c : Command} {d : DirectoryRecord} {port : Fin 8}
    (record : directoryOfRole s c.role = some d) (mapped : d.port = port.val) : s.undeliveredOf c =
      ({ s with roles := updAt s.roles (roleIndex c.role) fun r => { r with undelivered := bump16 r.undelivered } }).reported
        (.headState c.role (some port.val) (roleOf s c.role).presence (roleOf s c.role).presence .undelivered
          (some s.ports[port].link) s.ports[port].kind s.ports[port].serial none
          (some (c.content.kind, c.origin, c.seq))) := by
  simp [State.undeliveredOf, headStateReport, record, mapped]

/-- Assumption log 32: without a record of the role the report names no port. -/
theorem undeliveredOf_of_no_record {s : State} {c : Command} (record : directoryOfRole s c.role = none) : s.undeliveredOf c =
    ({ s with roles := updAt s.roles (roleIndex c.role) fun r => { r with undelivered := bump16 r.undelivered } }).reported
      (.headState c.role none (roleOf s c.role).presence (roleOf s c.role).presence .undelivered none none none none
        (some (c.content.kind, c.origin, c.seq))) := by
  simp [State.undeliveredOf, headStateReport, record]

/-- R70, R71, R72: a sent MOVE becomes the move in flight, and five readers are told. -/
theorem beginMove_eq (d : Dev) (target : Pos) (o : Origin) (a : Act) :
    (let timeout := moveTimeout (settings a.s) d target
     beginMove d target o a =
      { s := { a.s with
          sg := a.s.sg.set d { devOf a.s d with
            target := some target, move := some { origin := o, deadline := a.s.now + timeout, timeout } } }
        notes := a.notes ++ [.panMb .a, .panMb .b, .coSwitch, .iceEvaluate .other, .gateReview] }) := rfl

theorem sendVehicle_of_undelivered (c : Command) (a : Act)
    (away : rolePresent a.s c.role = false ∨ directoryOfRole a.s c.role = none) :
    sendVehicle c a = { a with s := a.s.undeliveredOf c } := by
  simp only [sendVehicle, deliver_of_undelivered c a away]

theorem sendVehicle_of_sent {c : Command} {a : Act} {d : DirectoryRecord} (still : ∀ dev target, c.content ≠ .move dev target)
    (present : rolePresent a.s c.role = true) (record : directoryOfRole a.s c.role = some d) :
    sendVehicle c a = { a with s := a.s.sentOn d.port c.payload } := by
  simp only [sendVehicle, deliver_of_present c a d present record]
  split
  · exact absurd ‹_› (still _ _)
  all_goals rfl

theorem sendVehicle_of_move {c : Command} {a : Act} {d : DirectoryRecord} {dev : Dev} {target : Pos}
    (move : c.content = .move dev target) (present : rolePresent a.s c.role = true)
    (record : directoryOfRole a.s c.role = some d) :
    sendVehicle c a = beginMove dev target .vehicle { a with s := a.s.sentOn d.port c.payload } := by
  simp only [sendVehicle, deliver_of_present c a d present record, move]

/-! ## Admission, holding and refusal (R105) -/

theorem judgeVehicle_of_admitted {c : Command} {a : Act} (seq : Nat) (admitted : judge a.s c = none) :
    judgeVehicle c seq a = sendVehicle c a := by
  rw [judgeVehicle, admitted]

/-- R105: what lets a command that fails at a condition be held under its GATE record. -/
def GateRecord.LetsHold (r : GateRecord) (s : State) (role : Role) (f : Failed) : Prop :=
  f ≠ .origin ∧ 0 < r.holdTime ∧ inMask r .vehicle = true ∧ rolePresent s role = true

/-- R105: a command is held where its slot is empty and its GATE record lets it. -/
theorem judgeVehicle_of_held {c : Command} {a : Act} {seq : Nat} {f : Failed} {k : Kind} {r : GateRecord}
    (failed : judge a.s c = some f) (kind : c.content.kind = some k) (record : gateRecord a.s c.role k = some r)
    (lets : r.LetsHold a.s c.role f) (empty : holdOf a.s c.role = none) :
    judgeVehicle c seq a = takeHold c seq f r.holdTime a := by
  obtain ⟨origin, time, mask, present⟩ := lets
  have held : holdTime a.s c f = some r.holdTime := by simp [holdTime, kind, record, origin, time, mask, present, empty]
  simp only [judgeVehicle, failed, held]

theorem judgeVehicle_of_refused {c : Command} {a : Act} {seq : Nat} {f : Failed} {k : Kind}
    (failed : judge a.s c = some f) (kind : c.content.kind = some k)
    (bars : ∀ r, gateRecord a.s c.role k = some r → ¬ r.LetsHold a.s c.role f) :
    judgeVehicle c seq a = refuse c f a := by
  have unheld : holdTime a.s c f = none := by
    cases record : gateRecord a.s c.role k with
    | none => simp [holdTime, kind, record]
    | some r =>
      have bar := bars r record
      simp only [holdTime, kind, record, Option.bind_some]
      exact if_neg fun ⟨origin, time, mask, present, _⟩ => bar ⟨origin, time, mask, present⟩
  simp only [judgeVehicle, failed, unheld]

/-- R98: a command that the gate refuses is not one that is always admitted. -/
theorem alwaysAdmitted_of_failed {s : State} {c : Command} {f : Failed} (failed : judge s c = some f) :
    c.content.alwaysAdmitted = false := by
  by_contra always
  simp [judge_of_always (s := s) (Bool.eq_true_of_not_eq_false always)] at failed

/-- R96: a command that the gate refuses has a kind. -/
theorem kind_of_failed {s : State} {c : Command} {f : Failed} (failed : judge s c = some f) :
    ∃ k, c.content.kind = some k := by
  rw [judge, if_neg (Bool.eq_false_iff.1 (alwaysAdmitted_of_failed failed))] at failed
  obtain ⟨k, kind, -⟩ := Option.bind_eq_some_iff.1 failed
  exact ⟨k, kind⟩

/-- R98: what is always admitted, apart from a MOVE. -/
theorem alwaysAdmitted_iff_of_still {c : Content} (still : ∀ d target, c ≠ .move d target) :
    c.alwaysAdmitted = true ↔ c = .vent ∨ c = .setGroups 0 := by
  cases c with
  | move d target => exact absurd rfl (still d target)
  | setGroups g => simp [Content.alwaysAdmitted]
  | _ => simp [Content.alwaysAdmitted, Content.kind]

/-- R98: the moves that are always admitted. -/
theorem alwaysAdmitted_move_iff {d : Dev} {target : Pos} (commandable : target ∈ devTargets d) :
    (Content.move d target).alwaysAdmitted = true ↔ d = .mb ∧ target = .opened ∨ d = .es ∧ target = .opened := by
  cases d <;> simp only [devTargets, List.mem_cons, List.not_mem_nil, or_false] at commandable <;>
    obtain rfl | rfl := commandable <;> simp [Content.alwaysAdmitted, Content.kind]

/-! ## The checks of a vehicle command (R95 to R97, R106) -/

/-- R97: the vehicle may command a role that is not READ_ONLY. -/
theorem masked_eq_false_iff (s : State) (role : Role) :
    masked s role = false ↔ ∀ d, directoryOfRole s role = some d → d.access ≠ .named .readOnly := by
  cases record : directoryOfRole s role <;> simp [masked, record]

theorem masked_of_readOnly {s : State} {role : Role} {d : DirectoryRecord} (record : directoryOfRole s role = some d)
    (readOnly : d.access = .named .readOnly) : masked s role = true := by
  simp [masked, record, readOnly]

/-- R95: the command of a HEAD_COMMAND frame. -/
def vehicleForm (seq : Nat) (role : Role) (content : Content) (payload : List Byte) : Command :=
  { role, content, payload, origin := .vehicle, seq := some seq }

/-- R95, R97, R106: a vehicle command gets to the move-state rule and the gate: its head takes it, no held command stands against it,
and the vehicle may command the role. -/
structure Heard (s : State) (role : Role) (content : Content) : Prop where
  taken : content.taken role = true
  free : content.alwaysAdmitted = true ∨ holdOf s role = none
  unmasked : masked s role = false

theorem Heard.framed {s : State} {role : Role} {content : Content} (heard : Heard s role content) :
    Heard (framed s) role content := ⟨heard.taken, heard.free, heard.unmasked⟩

/-- R106: no held command stands against a command that is heard. -/
theorem Heard.passes {s : State} {role : Role} {content : Content} (heard : Heard s role content) :
    ((holdOf s role).isSome && !content.alwaysAdmitted) = false := by
  obtain always | empty := heard.free
  · simp [always]
  · simp [empty]

section

variable {seq : Nat} {role : Role} {payload : List Byte} {content : Content} {a : Act}

theorem vehicleCommand_of_nameless (names : contentOf role payload = none) : vehicleCommand seq role payload a =
    placeReport (.gate role none .vehicle (some seq) .refused (some .kind) none false) a := by
  rw [vehicleCommand, names]

theorem vehicleCommand_of_foreign (names : contentOf role payload = some content) (foreign : content.taken role = false) :
    vehicleCommand seq role payload a = refuse (vehicleForm seq role content payload) .kind a := by
  simp [vehicleCommand, names, foreign, vehicleForm]

theorem vehicleCommand_of_busy (names : contentOf role payload = some content) (taken : content.taken role = true)
    (gated : content.alwaysAdmitted = false) (held : holdOf a.s role ≠ none) :
    vehicleCommand seq role payload a = refuse (vehicleForm seq role content payload) .busy a := by
  simp [vehicleCommand, names, taken, gated, Option.isSome_iff_ne_none.2 held, vehicleForm]

theorem vehicleCommand_of_masked (names : contentOf role payload = some content) (taken : content.taken role = true)
    (free : content.alwaysAdmitted = true ∨ holdOf a.s role = none) (masked : masked a.s role = true) :
    vehicleCommand seq role payload a = refuse (vehicleForm seq role content payload) .masked a := by
  obtain always | empty := free
  · simp [vehicleCommand, names, taken, always, masked, vehicleForm]
  · simp [vehicleCommand, names, taken, empty, masked, vehicleForm]

/-- R95 step 5: a command that is heard and moves no device goes to the gate. -/
theorem vehicleCommand_of_still (names : contentOf role payload = some content) (heard : Heard a.s role content)
    (still : ∀ d target, content ≠ .move d target) :
    vehicleCommand seq role payload a = judgeVehicle (vehicleForm seq role content payload) seq a := by
  simp only [vehicleCommand, names, heard.taken, heard.passes, heard.unmasked]
  cases content with
  | move d target => exact absurd rfl (still d target)
  | _ => rfl

/-- R95 step 4: a MOVE that is heard goes to the Switchgear Tracker's checks. -/
theorem vehicleCommand_of_move {d : Dev} {target : Pos} (names : contentOf role payload = some (.move d target))
    (heard : Heard a.s role (.move d target)) : vehicleCommand seq role payload a =
      checkVehicleMove (vehicleForm seq role (.move d target) payload) seq d target a := by
  simp only [vehicleCommand, names, heard.taken, heard.passes, heard.unmasked]
  rfl

end

/-! ## The target and the move state of a MOVE (R71, R95) -/

section

variable {d : Dev} {target : Pos} {a : Act} (c : Command) (seq : Nat)

theorem checkVehicleMove_of_range (foreign : target ∉ devTargets d) : checkVehicleMove c seq d target a = refuse c .range a := by
  simp [checkVehicleMove, foreign]

theorem checkVehicleMove_of_free (commandable : target ∈ devTargets d) (free : moveCheck a.s d target = .free) :
    checkVehicleMove c seq d target a = judgeVehicle c seq a := by
  simp [checkVehicleMove, commandable, free]

theorem checkVehicleMove_of_join (commandable : target ∈ devTargets d) (join : moveCheck a.s d target = .join) :
    checkVehicleMove c seq d target a = a := by
  simp [checkVehicleMove, commandable, join]

theorem checkVehicleMove_of_busy (commandable : target ∈ devTargets d) (busy : moveCheck a.s d target = .busy) :
    checkVehicleMove c seq d target a = refuse c .deviceMoving a := by
  simp [checkVehicleMove, commandable, busy]

end

/-! ## The command of the frame (R188, R189) -/

section

variable {s : State} {seq : Nat} {role : Role} {payload : List Byte}

theorem execHeadCommand_of_locked (named : payload ≠ []) (powered : s.powered = true) (locked : s.vl.link = .locked) :
    exec (.headCommand seq role payload) s = .next (complete (vehicleCommand seq role payload { s := framed s })).s := by
  have filled : payload.isEmpty = false := by simpa using named
  change perform (if payload.isEmpty then vlBad else onFrame (vehicleCommand seq role payload)) s = _
  rw [perform_of_powered _ s powered, filled, if_neg Bool.false_ne_true, onFrame_of_locked _ s locked]

/-- A command that tells no block, at a busy transmitter. -/
theorem execHeadCommand_of_quiet {t : State} (named : payload ≠ []) (powered : s.powered = true) (locked : s.vl.link = .locked)
    (acts : vehicleCommand seq role payload { s := framed s } = { s := t }) (sending : Sending t) :
    exec (.headCommand seq role payload) s = .next t := by
  rw [execHeadCommand_of_locked named powered locked, acts, complete_of_quiet _ rfl sending]

end

end Sys2Proof.Machine

namespace Sys2Proof.Machine

/-! O35: a HEAD_COMMAND other than a MOVE (R95, R97, R98, R105, R106, R183). -/

/-! ## The layouts of the commands (Frame layouts) -/

/-- AUX1 and AUX2 take any bytes as their own; the other roles read the layouts. -/
theorem contentOf_of_layout {role : Role} (aux1 : role ≠ .aux1) (aux2 : role ≠ .aux2) (payload : List Byte) :
    contentOf role payload = layoutContent payload := by
  cases role with
  | aux1 => exact absurd rfl aux1
  | aux2 => exact absurd rfl aux2
  | _ => rfl

/-- R95: a command of a kind, other than a MOVE, that the heads of some roles take, as its bytes say it to a role. -/
structure Spelling (role : Role) (payload : List Byte) (content : Content) (kind : Kind) (heads : List Role) : Prop where
  bytes : payload ≠ []
  names : contentOf role payload = some content
  kind : content.kind = some kind
  taken : content.taken role = true ↔ role ∈ heads
  still : ∀ d target, content ≠ .move d target

theorem spelling_aux {role : Role} (own : role ∈ [Role.aux1, .aux2]) (b : Byte) (rest : List Byte) :
    Spelling role (b :: rest) .aux .aux [.aux1, .aux2] where
  bytes := nofun
  names := by
    simp only [List.mem_cons, List.not_mem_nil, or_false] at own
    obtain rfl | rfl := own <;> rfl
  kind := rfl
  taken := by simp [Content.taken]
  still := nofun

section

variable {role : Role} (layout : ∀ payload, contentOf role payload = layoutContent payload)

include layout

theorem spelling_ramp (b1 b2 b3 b4 : Byte) (rest : List Byte) : Spelling role (1 :: b1 :: b2 :: b3 :: b4 :: rest)
    (.ramp (b1.toNat * 256 + b2.toNat) (b3.toNat * 256 + b4.toNat)) .ramp [.panA, .panB] where
  bytes := nofun
  names := by simp [layout, layoutContent, wordAt, byteAt]
  kind := rfl
  taken := by simp [Content.taken]
  still := nofun

theorem spelling_hold (b1 b2 : Byte) (rest : List Byte) :
    Spelling role (2 :: b1 :: b2 :: rest) (.hold (b1.toNat * 256 + b2.toNat)) .hold [.panA, .panB] where
  bytes := nofun
  names := by simp [layout, layoutContent, wordAt, byteAt]
  kind := rfl
  taken := by simp [Content.taken]
  still := nofun

theorem spelling_vent (rest : List Byte) : Spelling role (3 :: rest) .vent .vent [.panA, .panB] where
  bytes := nofun
  names := by simp [layout, layoutContent]
  kind := rfl
  taken := by simp [Content.taken]
  still := nofun

theorem spelling_setGroups (b1 : Byte) (rest : List Byte) :
    Spelling role (4 :: b1 :: rest) (.setGroups (b1.setWidth 6)) .setGroups [.heater] where
  bytes := nofun
  names := by simp [layout, layoutContent]
  kind := rfl
  taken := by simp [Content.taken]
  still := nofun

end

/-- R95: content whose code or device names nothing, or that is shorter than its command's layout. -/
theorem layoutContent_of_nameless {code : Byte} {rest : List Byte}
    (nameless : 4 < code.toNat ∨ code = 0 ∧ rest.length < 2 ∨ code = 0 ∧ (∃ b more, rest = b :: more ∧ 5 ≤ b.toNat)
      ∨ code = 1 ∧ rest.length < 4 ∨ code = 2 ∧ rest.length < 2 ∨ code = 4 ∧ rest = []) :
    layoutContent (code :: rest) = none := by
  obtain large | ⟨rfl, short⟩ | ⟨rfl, b, more, rfl, device⟩ | ⟨rfl, short⟩ | ⟨rfl, short⟩ | ⟨rfl, rfl⟩ := nameless
  · have other (n : Byte) (small : n.toNat ≤ 4) : code ≠ n := by
      rintro rfl
      exact absurd small (Nat.not_le.2 large)
    simp only [layoutContent, if_neg (other 0 (by decide)), if_neg (other 1 (by decide)), if_neg (other 2 (by decide)),
      if_neg (other 3 (by decide)), if_neg (other 4 (by decide))]
  · match rest, short with
    | [], _ => rfl
    | [b], _ => cases devsInOrder[(byteAt [b] 0).toNat]? <;> rfl
  · have unnamed : devsInOrder[(byteAt (b :: more) 0).toNat]? = none := List.getElem?_eq_none device
    simp only [layoutContent, unnamed]
    cases more <;> rfl
  · simp [layoutContent, short]
  · simp [layoutContent, short]
  · rfl

/-! ## The clauses of O35 -/

section

variable {s : State} {seq : Nat} {role : Role} {payload : List Byte} {content : Content} {kind : Kind} {heads : List Role}
  (powered : s.powered = true) (locked : s.vl.link = .locked) (sending : Sending s)
  (spelling : Spelling role payload content kind heads)

include powered locked spelling

/-- R95 step 5: a command that is heard does what the gate makes of it. -/
theorem execHeadCommand_of_heard {t : State} (heard : Heard s role content)
    (judged : judgeVehicle (vehicleForm seq role content payload) seq { s := framed s } = { s := t }) (stands : Sending t) :
    exec (.headCommand seq role payload) s = .next t := by
  refine execHeadCommand_of_quiet spelling.bytes powered locked ?_ stands
  rw [vehicleCommand_of_still spelling.names heard.framed spelling.still, judged]

include sending

/-- R110: a command that is refused before the gate judges it. -/
theorem execHeadCommand_of_refused {f : Failed}
    (acts : vehicleCommand seq role payload { s := framed s } =
      refuse (vehicleForm seq role content payload) f { s := framed s }) :
    exec (.headCommand seq role payload) s =
      .next ((framed s).reported (.gate role (some kind) .vehicle (some seq) .refused (some f) none false)) := by
  rw [← spelling.kind]
  exact execHeadCommand_of_quiet spelling.bytes powered locked acts sending

/-- R183: a command that the gate admits for a PRESENT head. -/
theorem execHeadCommand_of_sent {d : DirectoryRecord} (heard : Heard s role content)
    (admitted : judge s (vehicleForm seq role content payload) = none) (present : rolePresent s role = true)
    (record : directoryOfRole s role = some d) :
    exec (.headCommand seq role payload) s = .next ((framed s).sentOn d.port payload) := by
  refine execHeadCommand_of_heard powered locked spelling heard ?_ sending
  rw [judgeVehicle_of_admitted seq admitted, sendVehicle_of_sent spelling.still present record]
  rfl

/-- R183: a command that the gate admits for a head that is away. -/
theorem execHeadCommand_of_undelivered (heard : Heard s role content)
    (admitted : judge s (vehicleForm seq role content payload) = none)
    (away : rolePresent s role = false ∨ directoryOfRole s role = none) :
    exec (.headCommand seq role payload) s =
      .next ((framed s).undeliveredOf (vehicleForm seq role content payload)) := by
  refine execHeadCommand_of_heard powered locked spelling heard ?_ sending
  rw [judgeVehicle_of_admitted seq admitted, sendVehicle_of_undelivered _ _ away]

/-- R183: its report, with the port of the role's record. -/
theorem execHeadCommand_of_absent {d : DirectoryRecord} {port : Fin 8} (heard : Heard s role content)
    (admitted : judge s (vehicleForm seq role content payload) = none) (absent : rolePresent s role = false)
    (record : directoryOfRole s role = some d) (mapped : d.port = port.val) :
    exec (.headCommand seq role payload) s = .next
      (({ framed s with roles := updAt s.roles (roleIndex role) fun r => { r with undelivered := bump16 r.undelivered } }).reported
        (.headState role (some port.val) (roleOf s role).presence (roleOf s role).presence .undelivered
          (some s.ports[port].link) s.ports[port].kind s.ports[port].serial none
          (some (some kind, .vehicle, some seq)))) := by
  rw [execHeadCommand_of_undelivered powered locked sending spelling heard admitted (.inl absent),
    undeliveredOf_of_port record mapped, ← spelling.kind]
  rfl

/-- Assumption log 32: its report, where the role has no record. -/
theorem execHeadCommand_of_no_record (heard : Heard s role content)
    (admitted : judge s (vehicleForm seq role content payload) = none) (record : directoryOfRole s role = none) :
    exec (.headCommand seq role payload) s = .next
      (({ framed s with roles := updAt s.roles (roleIndex role) fun r => { r with undelivered := bump16 r.undelivered } }).reported
        (.headState role none (roleOf s role).presence (roleOf s role).presence .undelivered none none none none
          (some (some kind, .vehicle, some seq)))) := by
  rw [execHeadCommand_of_undelivered powered locked sending spelling heard admitted (.inr record),
    undeliveredOf_of_no_record record, ← spelling.kind]
  rfl

/-- R105: a command that fails at the gate takes its slot where its record lets it. -/
theorem execHeadCommand_of_held {f : Failed} {r : GateRecord} (heard : Heard s role content)
    (failed : judge s (vehicleForm seq role content payload) = some f) (record : gateRecord s role kind = some r)
    (lets : r.LetsHold s role f) :
    exec (.headCommand seq role payload) s = .next
      (({ framed s with
          holds := updAt s.holds (roleIndex role) fun _ => some
            { command := vehicleForm seq role content payload, seq, deadline := s.now + r.holdTime, failed := f } }).reported
        (.gate role (some kind) .vehicle (some seq) .held (some f) none false)) := by
  have gated : content.alwaysAdmitted = false := alwaysAdmitted_of_failed failed
  have empty : holdOf s role = none := heard.free.resolve_left (Bool.eq_false_iff.1 gated)
  refine execHeadCommand_of_heard powered locked spelling heard ?_ sending
  rw [judgeVehicle_of_held failed spelling.kind record lets empty, ← spelling.kind]
  rfl

/-- R105: it is refused where no record lets it be held. -/
theorem execHeadCommand_of_barred {f : Failed} (heard : Heard s role content)
    (failed : judge s (vehicleForm seq role content payload) = some f)
    (bars : ∀ r, gateRecord s role kind = some r → ¬ r.LetsHold s role f) :
    exec (.headCommand seq role payload) s =
      .next ((framed s).reported (.gate role (some kind) .vehicle (some seq) .refused (some f) none false)) := by
  refine execHeadCommand_of_heard powered locked spelling heard ?_ sending
  rw [judgeVehicle_of_refused failed spelling.kind bars, ← spelling.kind]
  rfl

end

/-- Settles O35: a command as its bytes spell it (`Spelling`) is refused with KIND, BUSY or MASKED, or it is heard and does what the
gate and its GATE record make of it. -/
theorem vehicleCommandIsSentHeldOrRefused : Obligations.VehicleCommandIsSentHeldOrRefused := by
  refine ⟨fun s seq role b1 b2 b3 b4 rest powered locked sending => ?_,
    fun s seq role code rest powered locked sending aux1 aux2 nameless => ?_⟩
  · intro word pans own spelled forms payload content kind heads form c took told always free heard lets away
    have spelling : Spelling role payload content kind heads := by
      by_cases isOwn : role ∈ own
      · simp only [forms, if_pos isOwn, List.mem_singleton, Prod.mk.injEq] at form
        obtain ⟨rfl, rfl, rfl, rfl⟩ := form
        exact spelling_aux isOwn b1 rest
      · have layout : ∀ payload, contentOf role payload = layoutContent payload :=
          contentOf_of_layout (fun e => isOwn (by simp [own, e])) fun e => isOwn (by simp [own, e])
        simp only [forms, if_neg isOwn, spelled, List.mem_cons, List.not_mem_nil, or_false, Prod.mk.injEq] at form
        obtain ⟨rfl, rfl, rfl, rfl⟩ | ⟨rfl, rfl, rfl, rfl⟩ | ⟨rfl, rfl, rfl, rfl⟩ | ⟨rfl, rfl, rfl, rfl⟩ := form
        · exact spelling_ramp layout b1 b2 b3 b4 rest
        · exact spelling_hold layout b1 b2 rest
        · exact spelling_vent layout rest
        · exact spelling_setGroups layout b1 rest
    have admits : content.alwaysAdmitted = true ↔ always := alwaysAdmitted_iff_of_still spelling.still
    have gated (h : ¬ always) : content.alwaysAdmitted = false := Bool.eq_false_iff.2 (admits.not.2 h)
    have passes (h : free) : content.alwaysAdmitted = true ∨ holdOf s role = none := h.imp_left admits.2
    have hears (h : heard) : Heard s role content :=
      ⟨spelling.taken.2 h.1, passes h.2.1, (masked_eq_false_iff s role).2 h.2.2⟩
    refine ⟨fun foreign => ?_, fun taken busy => ?_, fun d taken free record readOnly => ?_,
      fun h => judge_of_always (admits.2 h), fun d heard admitted present record => ?_,
      fun d port heard admitted absent record mapped => ?_, fun heard admitted record => ?_, fun f heard failed => ⟨?_, ?_⟩⟩
    · exact execHeadCommand_of_refused powered locked sending spelling
        (vehicleCommand_of_foreign spelling.names (Bool.eq_false_iff.2 (spelling.taken.not.2 foreign)))
    · obtain ⟨gate, held⟩ := not_or.1 busy
      exact execHeadCommand_of_refused powered locked sending spelling
        (vehicleCommand_of_busy spelling.names (spelling.taken.2 taken) (gated gate) held)
    · exact execHeadCommand_of_refused powered locked sending spelling
        (vehicleCommand_of_masked spelling.names (spelling.taken.2 taken) (passes free) (masked_of_readOnly record readOnly))
    · exact execHeadCommand_of_sent powered locked sending spelling (hears heard) admitted present record
    · exact execHeadCommand_of_absent powered locked sending spelling (hears heard) admitted absent record mapped
    · exact execHeadCommand_of_no_record powered locked sending spelling (hears heard) admitted record
    · rintro r ⟨record, lets⟩ -
      exact execHeadCommand_of_held powered locked sending spelling (hears heard) failed record lets
    · exact fun bars => execHeadCommand_of_barred powered locked sending spelling (hears heard) failed
        fun r record lets => bars ⟨r, record, lets⟩
  · refine execHeadCommand_of_quiet nofun powered locked (vehicleCommand_of_nameless ?_) sending
    rw [contentOf_of_layout aux1 aux2]
    exact layoutContent_of_nameless nameless

end Sys2Proof.Machine

namespace Sys2Proof.Machine

/-! O36: a HEAD_COMMAND to move the switchgear (R71, R72, R95 to R98, R105, R106, R183). -/

/-! ## The bytes of a MOVE (Frame layouts) -/

/-- The COMMAND payload of a MOVE. -/
def moveBytes (d : Dev) (target : Pos) : List Byte := put8 0 ++ putPlace devsInOrder d ++ [devPositionByte d target]

theorem moveBytes_ne_nil (d : Dev) (target : Pos) : moveBytes d target ≠ [] := by simp [moveBytes]

theorem devPositionOf_devPositionByte {d : Dev} {p : Pos} (position : p ∈ devPositions d) :
    devPositionOf d (devPositionByte d p) = p := by
  have place : (devPositions d).idxOf p < (devPositions d).length := List.idxOf_lt_length_iff.2 position
  have short : (devPositions d).length < 256 := by cases d <;> decide
  have byte : (devPositionByte d p).toNat = (devPositions d).idxOf p := by
    rw [devPositionByte, BitVec.toNat_ofNat]
    exact Nat.mod_eq_of_lt (place.trans short)
  simp [devPositionOf, byte, position]

theorem layoutContent_moveBytes {d : Dev} {target : Pos} (position : target ∈ devPositions d) :
    layoutContent (moveBytes d target) = some (.move d target) := by
  have device : layoutContent (moveBytes d target) = some (.move d (devPositionOf d (devPositionByte d target))) := by
    cases d <;> rfl
  rw [device, devPositionOf_devPositionByte position]

/-- R95: the MOVE as a role other than AUX1 and AUX2 reads it. -/
theorem contentOf_moveBytes {role : Role} {d : Dev} {target : Pos} (aux1 : role ≠ .aux1) (aux2 : role ≠ .aux2)
    (position : target ∈ devPositions d) : contentOf role (moveBytes d target) = some (.move d target) :=
  (contentOf_of_layout aux1 aux2 _).trans (layoutContent_moveBytes position)

theorem mem_devPositions_of_target {d : Dev} {target : Pos} (commandable : target ∈ devTargets d) : target ∈ devPositions d :=
  List.mem_of_mem_take ((mem_devTargets_iff d target).1 commandable)

/-! ## The move state (R71) -/

/-- R71: an MB close in flight is reversed by an open. -/
theorem moveCheck_of_free {s : State} {d : Dev} {target : Pos}
    (free : (devOf s d).move = none ∨ d = .mb ∧ (devOf s d).target = some .closed ∧ target = .opened) :
    moveCheck s d target = .free := by
  refine (moveCheck_free_iff s d target).2 (free.imp_right ?_)
  rintro ⟨rfl, close, rfl⟩
  exact ⟨by simp [close], rfl, close, rfl⟩

/-! ## The command of the frame -/

section

variable {s : State} {seq : Nat} {d : Dev} {target : Pos}
  (powered : s.powered = true) (locked : s.vl.link = .locked)

/-- The command of the vehicle's frame to move a device. -/
def vehicleMove (seq : Nat) (d : Dev) (target : Pos) : Command :=
  vehicleForm seq .switchgear (.move d target) (moveBytes d target)

include powered locked

/-- R95 step 4: a MOVE that is heard comes to the Switchgear Tracker's checks. -/
theorem execMove_of_heard (position : target ∈ devPositions d) (heard : Heard s .switchgear (.move d target)) :
    exec (.headCommand seq .switchgear (moveBytes d target)) s =
      .next (complete (checkVehicleMove (vehicleMove seq d target) seq d target { s := framed s })).s := by
  rw [execHeadCommand_of_locked (moveBytes_ne_nil d target) powered locked,
    vehicleCommand_of_move (contentOf_moveBytes (role := .switchgear) nofun nofun position) heard.framed]
  rfl

/-- R110: a MOVE that is refused before it is heard. -/
theorem execMove_of_unheard {role : Role} {f : Failed} (sending : Sending s)
    (acts : vehicleCommand seq role (moveBytes d target) { s := framed s } =
      refuse (vehicleForm seq role (.move d target) (moveBytes d target)) f { s := framed s }) :
    exec (.headCommand seq role (moveBytes d target)) s = .next ((framed s).reported
      (.gate role (Content.move d target).kind .vehicle (some seq) .refused (some f) none false)) :=
  execHeadCommand_of_quiet (moveBytes_ne_nil d target) powered locked acts sending

/-- What a MOVE that is heard leaves, where it tells no block. -/
theorem execMove_of_quiet {t : State} (position : target ∈ devPositions d) (heard : Heard s .switchgear (.move d target))
    (acts : checkVehicleMove (vehicleMove seq d target) seq d target { s := framed s } = { s := t }) (stands : Sending t) :
    exec (.headCommand seq .switchgear (moveBytes d target)) s = .next t := by
  rw [execMove_of_heard powered locked position heard, acts, complete_of_quiet _ rfl stands]

variable (commandable : target ∈ devTargets d) (heard : Heard s .switchgear (.move d target))

include commandable heard

/-- R71: a move in flight to the target is joined. -/
theorem execMove_of_join (sending : Sending s) (join : moveCheck s d target = .join) :
    exec (.headCommand seq .switchgear (moveBytes d target)) s = .next (framed s) :=
  execMove_of_quiet powered locked (mem_devPositions_of_target commandable) heard
    (checkVehicleMove_of_join _ seq commandable join) sending

/-- R71: a move in flight elsewhere forbids the MOVE. -/
theorem execMove_of_busy (sending : Sending s) (busy : moveCheck s d target = .busy) :
    exec (.headCommand seq .switchgear (moveBytes d target)) s = .next ((framed s).reported
      (.gate .switchgear (Content.move d target).kind .vehicle (some seq) .refused (some .deviceMoving) none false)) :=
  execMove_of_quiet powered locked (mem_devPositions_of_target commandable) heard
    (checkVehicleMove_of_busy _ seq commandable busy) sending

variable (free : (devOf s d).move = none ∨ d = .mb ∧ (devOf s d).target = some .closed ∧ target = .opened)

include free

/-- R96: a MOVE that the move state lets pass comes to the gate. -/
theorem execMove_of_free : exec (.headCommand seq .switchgear (moveBytes d target)) s =
    .next (complete (judgeVehicle (vehicleMove seq d target) seq { s := framed s })).s := by
  rw [execMove_of_heard powered locked (mem_devPositions_of_target commandable) heard,
    checkVehicleMove_of_free _ seq commandable (moveCheck_of_free free)]

/-- R71, R72: an admitted MOVE is sent and becomes the move in flight. -/
theorem execMove_of_sent {r : DirectoryRecord} (admitted : judge s (vehicleMove seq d target) = none)
    (present : rolePresent s .switchgear = true) (record : directoryOfRole s .switchgear = some r) :
    (let timeout := moveTimeout (settings s) d target
     exec (.headCommand seq .switchgear (moveBytes d target)) s = .next (complete
      { s := { (framed s).sentOn r.port (moveBytes d target) with
          sg := s.sg.set d { devOf s d with
            target := some target, move := some { origin := .vehicle, deadline := s.now + timeout, timeout } } }
        notes := [.panMb .a, .panMb .b, .coSwitch, .iceEvaluate .other, .gateReview] }).s) := by
  intro timeout
  rw [execMove_of_free powered locked commandable heard free, judgeVehicle_of_admitted seq admitted,
    sendVehicle_of_move rfl present record, beginMove_eq]
  rfl

variable (sending : Sending s)

include sending

/-- R183: an admitted MOVE whose head is away is counted and reported. -/
theorem execMove_of_undelivered (admitted : judge s (vehicleMove seq d target) = none)
    (absent : rolePresent s .switchgear = false) :
    exec (.headCommand seq .switchgear (moveBytes d target)) s =
      .next ((framed s).undeliveredOf (vehicleMove seq d target)) := by
  rw [execMove_of_free powered locked commandable heard free, judgeVehicle_of_admitted seq admitted,
    sendVehicle_of_undelivered _ _ (.inl absent), complete_of_quiet _ rfl sending]

variable {f : Failed} {k : Kind} (failed : judge s (vehicleMove seq d target) = some f)
  (kind : (Content.move d target).kind = some k)

include failed kind

/-- R105: a MOVE that fails at the gate takes the slot where its record lets it. -/
theorem execMove_of_held {r : GateRecord} (record : gateRecord s .switchgear k = some r) (lets : r.LetsHold s .switchgear f) :
    exec (.headCommand seq .switchgear (moveBytes d target)) s = .next
      (({ framed s with
          holds := updAt s.holds (roleIndex .switchgear) fun _ => some
            { command := vehicleMove seq d target, seq, deadline := s.now + r.holdTime, failed := f } }).reported
        (.gate .switchgear (Content.move d target).kind .vehicle (some seq) .held (some f) none false)) := by
  have gated : (Content.move d target).alwaysAdmitted = false := alwaysAdmitted_of_failed failed
  have empty : holdOf s .switchgear = none := heard.free.resolve_left (Bool.eq_false_iff.1 gated)
  rw [execMove_of_free powered locked commandable heard free, judgeVehicle_of_held failed kind record lets empty,
    complete_of_quiet _ rfl sending]
  rfl

/-- R105: it is refused where no record lets it be held. -/
theorem execMove_of_barred (bars : ∀ r, gateRecord s .switchgear k = some r → ¬ r.LetsHold s .switchgear f) :
    exec (.headCommand seq .switchgear (moveBytes d target)) s = .next ((framed s).reported
      (.gate .switchgear (Content.move d target).kind .vehicle (some seq) .refused (some f) none false)) := by
  rw [execMove_of_free powered locked commandable heard free, judgeVehicle_of_refused failed kind bars,
    complete_of_quiet _ rfl sending]
  rfl

end

/-- Settles O36: a MOVE is refused before it is heard, by the move state (`moveCheck`), or does what the gate makes of it, with its
head there and away. -/
theorem vehicleMoveIsCheckedThenSent : Obligations.VehicleMoveIsCheckedThenSent := by
  refine ⟨fun s seq dev target d ready sending position empty present record access => ?_,
    fun s seq dev target d ready sending commandable record => ?_,
    fun s seq dev target powered locked sending commandable absent => ?_⟩
  · obtain ⟨powered, locked, -, -⟩ := ready
    intro payload c told e timeout
    have unmasked : masked s .switchgear = false := (masked_eq_false_iff s .switchgear).2 (by simpa [record] using access)
    have heard : Heard s .switchgear (.move dev target) := ⟨rfl, .inr empty, unmasked⟩
    refine ⟨fun role other => ?_, fun foreign => ?_, fun commandable moving join => ?_,
      fun commandable moving other forward => ?_, fun commandable idle admitted => ?_⟩
    · have names : contentOf role (moveBytes dev target) = some (.move dev target) :=
        contentOf_moveBytes (by rintro rfl; simp at other) (by rintro rfl; simp at other) position
      have foreign : (Content.move dev target).taken role = false := by
        refine beq_false_of_ne ?_
        rintro rfl
        simp at other
      exact execMove_of_unheard powered locked sending (vehicleCommand_of_foreign names foreign)
    · exact execMove_of_quiet powered locked position heard (checkVehicleMove_of_range _ seq foreign) sending
    · exact execMove_of_join powered locked commandable heard sending (moveCheck_of_join moving join)
    · exact execMove_of_busy powered locked commandable heard sending (moveCheck_of_busy moving other forward)
    · exact execMove_of_sent powered locked commandable heard (.inl idle) admitted present record
  · obtain ⟨powered, locked, -, -⟩ := ready
    intro payload c told took e always free heard
    have admits : (Content.move dev target).alwaysAdmitted = true ↔ always := alwaysAdmitted_move_iff commandable
    have names : contentOf .switchgear (moveBytes dev target) = some (.move dev target) :=
      contentOf_moveBytes nofun nofun (mem_devPositions_of_target commandable)
    have hears (h : heard) : Heard s .switchgear (.move dev target) :=
      ⟨rfl, h.1.imp_left admits.2, (masked_eq_false_iff s .switchgear).2 (by simpa [record] using h.2)⟩
    refine ⟨fun gated held => ?_, fun passes readOnly => ?_, fun h => judge_of_always (admits.2 h),
      fun heard free admitted present => ?_, fun f heard free failed => ⟨?_, ?_⟩⟩
    · exact execMove_of_unheard powered locked sending
        (vehicleCommand_of_busy names rfl (Bool.eq_false_iff.2 (admits.not.2 gated)) held)
    · exact execMove_of_unheard powered locked sending
        (vehicleCommand_of_masked names rfl (passes.imp_left admits.2) (masked_of_readOnly record readOnly))
    · exact execMove_of_sent powered locked commandable (hears heard) free admitted present record
    · intro k r kind gate origin time mask present
      exact execMove_of_held powered locked commandable (hears heard) free sending failed kind gate ⟨origin, time, mask, present⟩
    · intro bars
      obtain ⟨k, kind⟩ := kind_of_failed failed
      refine execMove_of_barred powered locked commandable (hears heard) free sending failed kind fun r gate lets => ?_
      obtain ⟨origin, time, mask, present⟩ := lets
      simpa [origin, time.ne', mask, present] using bars k r kind gate
  · intro payload c e always passes unmasked free admitted
    have heard : Heard s .switchgear (.move dev target) :=
      ⟨rfl, passes.imp_left (alwaysAdmitted_move_iff commandable).2, (masked_eq_false_iff s .switchgear).2 unmasked⟩
    rw [deliver_of_absent c { s := framed s } absent]
    exact execMove_of_undelivered powered locked commandable heard free sending admitted absent

end Sys2Proof.Machine

namespace Sys2Proof.Machine

/-! O37: the review of the hold slots, and the other ends of a hold (R71, R72, R107 to R109). -/

/-! ## One slot (R107, R109) -/

section

variable {a : Act} {role : Role} {h : Held}

theorem reviewSlot_of_empty (empty : holdOf a.s role = none) : reviewSlot a role = a := by
  rw [reviewSlot, empty]

theorem reviewSlot_of_absent (absent : rolePresent a.s role = false) : reviewSlot a role = a := by
  cases slot : holdOf a.s role with
  | none => exact reviewSlot_of_empty slot
  | some h => simp [reviewSlot, slot, absent]

theorem reviewSlot_of_failed {f : Failed} (held : holdOf a.s role = some h) (present : rolePresent a.s role = true)
    (failed : judge a.s h.command = some f) : reviewSlot a role = a.setHold role (some { h with failed := f }) := by
  simp only [reviewSlot, held, present, failed, if_true]

theorem reviewSlot_of_admitted (held : holdOf a.s role = some h) (present : rolePresent a.s role = true)
    (admitted : judge a.s h.command = none) : reviewSlot a role = admitHeld h.command (a.setHold role none) := by
  simp only [reviewSlot, held, present, admitted, if_true]

/-- R108, R109: a slot that is not empty gives up its command, which is refused. -/
theorem dropHold_of_held (f : Failed) (lastFailing : Held → Option Failed) (held : holdOf a.s role = some h) :
    dropHold role f lastFailing a = reportGate h.command .refused (some f) (lastFailing h) false (a.setHold role none) := by
  simp only [dropHold, held]

end

/-! ## A held command that the gate admits (R71, R107) -/

section

variable {c : Command} {a : Act}

/-- R107: the state with the GATE report of a held command. -/
def State.toldOfHeld (c : Command) (outcome : GateOutcome) (f : Option Failed) (joined : Bool) (s : State) : State :=
  s.reported (.gate c.role c.content.kind c.origin c.seq outcome f none joined)

theorem admitHeld_of_sent {r : DirectoryRecord} (still : ∀ d target, c.content ≠ .move d target)
    (present : rolePresent a.s c.role = true) (record : directoryOfRole a.s c.role = some r) :
    admitHeld c a = { a with s := (a.s.toldOfHeld c .admitted none false).sentOn r.port c.payload } := by
  have sent : sendVehicle c (reportGate c .admitted none none false a) =
      { a with s := (a.s.toldOfHeld c .admitted none false).sentOn r.port c.payload } :=
    sendVehicle_of_sent still present record
  rw [← sent, admitHeld]
  split
  · exact absurd ‹_› (still _ _)
  all_goals rfl

variable {d : Dev} {target : Pos} (move : c.content = .move d target)

include move

/-- R71: the held MOVE becomes the move in flight. -/
theorem admitHeld_of_free {r : DirectoryRecord} (free : moveCheck a.s d target = .free)
    (present : rolePresent a.s c.role = true) (record : directoryOfRole a.s c.role = some r) :
    admitHeld c a =
      beginMove d target .vehicle { a with s := (a.s.toldOfHeld c .admitted none false).sentOn r.port c.payload } := by
  simp only [admitHeld, move, free]
  exact sendVehicle_of_move move present record

/-- R71: the held MOVE joins the move in flight, unsent. -/
theorem admitHeld_of_join (join : moveCheck a.s d target = .join) :
    admitHeld c a = { a with s := a.s.toldOfHeld c .admitted none true } := by
  simp only [admitHeld, move, join]
  rfl

theorem admitHeld_of_busy (busy : moveCheck a.s d target = .busy) :
    admitHeld c a = { a with s := a.s.toldOfHeld c .refused (some .deviceMoving) false } := by
  simp only [admitHeld, move, busy]
  rfl

end

/-- R180, R181: a PRESENT role that is lost tells the blocks that act on it. -/
theorem loseRole_notes {a : Act} {role : Role} (cause : HeadCause) (present : rolePresent a.s role = true) :
    (loseRole role cause a).notes = a.notes ++ leavingNotes role := by
  rw [loseRole, if_pos present]
  rfl

/-- R109: the Command Gate is one of them. -/
theorem gateRoleLost_mem_leavingNotes (role : Role) : .gateRoleLost role ∈ leavingNotes role := by
  cases role <;> simp [leavingNotes]

/-- Settles O37: a slot is reviewed by its role's presence and the gate (`reviewSlot`), a held MOVE by its device's move state too, and
the hold deadline and the loss of the role empty the slot (`dropHold`). -/
theorem heldCommandIsAdmittedOrExpires : Obligations.HeldCommandIsAdmittedOrExpires := by
  refine ⟨fun a role h d held present own record => ?_, fun s role h powered sending held => ?_,
    fun a h d dev target held own move present record admitted => ?_, fun a role h held => ?_,
    fun a => ⟨rfl, fun role => reviewSlot_of_empty⟩⟩
  · subst own
    refine ⟨fun f failed => reviewSlot_of_failed held present failed, fun admitted still => ?_⟩
    exact (reviewSlot_of_admitted held present admitted).trans (admitHeld_of_sent still present record)
  · have expired : expireHold role { s := { s with now := max s.now h.deadline } } =
        reportGate h.command .refused (some .expired) (some h.failed) false
          (Act.setHold role none { s := { s with now := max s.now h.deadline } }) := dropHold_of_held _ _ held
    change perform (atDeadline ((holdOf s role).map (·.deadline)) (expireHold role)) s = _
    rw [held, Option.map_some, perform_atDeadline _ _ s powered, expired, complete_of_quiet _ rfl sending]
    rfl
  · intro c e report reversal timeout
    have told (outcome : GateOutcome) (f : Option Failed) (joined : Bool) :
        (a.setHold .switchgear none).s.toldOfHeld c outcome f joined = report outcome f joined := by
      rw [State.toldOfHeld, own]
      rfl
    simp only [reviewSlot_of_admitted held present admitted, ← told]
    refine ⟨fun free => ?_, fun moving join => ?_, fun moving other forward => ?_⟩
    · exact admitHeld_of_free move ((moveCheck_free_iff a.s dev target).2 free) (own ▸ present) (own ▸ record)
    · exact admitHeld_of_join move (moveCheck_of_join (s := a.s) (Option.isSome_iff_ne_none.2 moving) join)
    · exact admitHeld_of_busy move (moveCheck_of_busy (s := a.s) (Option.isSome_iff_ne_none.2 moving) other forward)
  · exact ⟨dropHold_of_held _ _ held, rfl, reviewSlot_of_absent, fun cause => loseRole_notes cause,
      gateRoleLost_mem_leavingNotes role⟩

end Sys2Proof.Machine

namespace Sys2Proof.Machine

/-! SUPPORT. What the firing of an action and an evaluation of the head of the Route Action Queue make of the act they are given
(07). -/

/-! ## Firing (R122, R123) -/

theorem accepts_iff (answer : Result) : accepts answer = true ↔ answer ∈ [Result.accepted, .noop, .already, .done] := by
  cases answer <;> decide

section
variable {source : Source} {action : Action} {trigger : Option Trigger} {a b : Act} {answer : Result}
  (handed : handOff source action (estimate a.s) (a.modPr fun r => { r with fired := r.fired + 1 }) = (b, answer))

include handed

theorem fire_of_accepted (accepted : accepts answer = true) : fire source action trigger a =
    ({ b with s := b.s.reported (.actionFired source action trigger (estimate a.s) answer) }, true) := by
  rw [fire, handed]
  exact if_pos accepted

/-- R123: a refused action flushes the collection it came from. -/
theorem fire_of_refused (refused : accepts answer = false) : fire source action trigger a =
    ({ b with
        s := ({ b.s.reported (.actionFired source action trigger (estimate a.s) answer) with
            pr := flushSource source b.s.pr }).reported
              (.queueFlushed (.refused source (sourceLength source b.s.pr) action answer)) }, false) := by
  rw [fire, handed]
  exact if_neg (Bool.eq_false_iff.1 refused)

end

/-! ## The head of the queue (R119 to R121) -/

theorem headFires_iff (s : State) (p : Nat) :
    headFires s p = true ↔ s.pr.position.fresh = true ∧ ∃ e, estimate s = some e ∧ p ≤ e := by
  simp [headFires, Option.any_eq_true]

section
variable {a : Act}

theorem evaluateQueue_of_standby (standby : a.s.vl.mode = .standby) : evaluateQueue a = a := by simp [evaluateQueue, standby]

/-- R119: in RUN the head is evaluated, and the queue's depth bounds the series. -/
theorem evaluateQueue_of_run (run : a.s.vl.mode = .run) : evaluateQueue a = evaluateHead (a.s.pr.queue.length + 1) a := if_pos run

theorem evaluateQueue_of_empty (run : a.s.vl.mode = .run) (empty : a.s.pr.queue = []) :
    evaluateQueue a = a.modPr fun r => { r with triggerTimer := none } := by
  rw [evaluateQueue_of_run run, evaluateHead, empty]

/-- An empty queue whose timer does not run stays as it is, in either mode. -/
theorem evaluateQueue_of_idle (empty : a.s.pr.queue = []) (timer : a.s.pr.triggerTimer = none) : evaluateQueue a = a := by
  cases mode : a.s.vl.mode with
  | standby => exact evaluateQueue_of_standby mode
  | run =>
    rw [evaluateQueue_of_empty mode empty, Act.modPr, ← timer]

section
variable {head : QueueEntry} {rest : List QueueEntry} (run : a.s.vl.mode = .run) (queue : a.s.pr.queue = head :: rest)

include run queue

theorem evaluateQueue_of_marker {m : Nat} (marker : head.trigger = .onMarker m) :
    evaluateQueue a = a.modPr fun r => { r with triggerTimer := none } := by
  rw [evaluateQueue_of_run run, evaluateHead, queue]
  dsimp only
  rw [marker]

/-- R119, R120: a head with a position fires where the estimate has reached it, and sets the timer afresh where it has not. -/
theorem evaluateQueue_of_position {p : Nat} (position : head.trigger = .atPosition p) : evaluateQueue a =
    if headFires a.s p then
      match fire .queue head.action (some (.atPosition p)) (a.modPr fun r => { r with queue := rest, triggerTimer := none }) with
      | (b, true) => evaluateHead (rest.length + 1) b
      | (b, false) => b
    else a.modPr fun r => { r with triggerTimer := reachTime a.s.pr.position p } := by
  rw [evaluateQueue_of_run run, evaluateHead, queue]
  dsimp only
  rw [position]
  dsimp only
  rw [dropHead_of_queue queue]
  rfl

variable {p : Nat} (position : head.trigger = .atPosition p)

include position

theorem evaluateQueue_of_ahead (ahead : headFires a.s p = false) :
    evaluateQueue a = a.modPr fun r => { r with triggerTimer := reachTime a.s.pr.position p } := by
  rw [evaluateQueue_of_position run queue position, ahead]
  exact if_neg Bool.false_ne_true

section
variable {b : Act} (reached : headFires a.s p = true)

include reached

theorem evaluateQueue_of_refused
    (fires : fire .queue head.action (some (.atPosition p)) (a.modPr fun r => { r with queue := rest, triggerTimer := none }) =
      (b, false)) : evaluateQueue a = b := by
  rw [evaluateQueue_of_position run queue position, if_pos reached, fires]

/-- R119: after an accepted firing the next head is evaluated. -/
theorem evaluateQueue_of_accepted
    (fires : fire .queue head.action (some (.atPosition p)) (a.modPr fun r => { r with queue := rest, triggerTimer := none }) =
      (b, true)) (left : b.s.pr.queue = rest) (runs : b.s.vl.mode = .run) : evaluateQueue a = evaluateQueue b := by
  rw [evaluateQueue_of_position run queue position, if_pos reached, fires, evaluateQueue_of_run runs, left]

end

end

end

end Sys2Proof.Machine

namespace Sys2Proof.Machine

/-! O38: the position estimate (R115, R121). -/

/-- R115: the estimate of a record that a frame has set. -/
theorem estimate_of_frame {r : PositionRecord} {p t limit : Nat} (last : r.last = some p) (time : r.frameTime = some t)
    (stale : r.frameStale = some limit) (now : Nat) :
    r.estimate now = some (min 4294967295 (p + r.speed * min (now - t) limit / 10000)) := by
  rw [PositionRecord.estimate, last, time, stale]
  rfl

/-- Settles O38: the estimate as the frame gives it (`estimate_of_frame`), with the bounds of its product. -/
theorem estimateAdvancesWithTheSpeed : Obligations.EstimateAdvancesWithTheSpeed := by
  refine ⟨fun r now last => by rw [PositionRecord.estimate, last]; rfl, fun r now p t limit last time stale => ?_,
    fun fresh good => ⟨(estimate_of_frame rfl rfl rfl 240).trans (by norm_num), fun now late => ?_⟩⟩
  · have frame := estimate_of_frame last time stale
    refine ⟨frame now, fun still range => ?_, fun late => ?_, fun speed short => ?_, fun e est => ?_⟩
    · rw [frame, still]
      simp [range]
    · have capped (n : Nat) (past : t + limit ≤ n) : min (n - t) limit = limit := by omega
      rw [frame, frame, capped now late, capped _ le_rfl]
    · have product : r.speed * min (now - t) limit ≤ 12000 * 5000 :=
        Nat.mul_le_mul speed ((Nat.min_le_right _ _).trans short)
      refine ⟨product, fun e est => ?_⟩
      rw [frame, Option.some.injEq] at est
      omega
    · rw [frame, Option.some.injEq] at est
      omega
  · refine (estimate_of_frame rfl rfl rfl now).trans ?_
    rw [Nat.sub_zero, Nat.min_eq_right late]
    norm_num

end Sys2Proof.Machine

namespace Sys2Proof.Machine

/-! O39: POSITION frames, jumps, and the stale deadline (R114, R116, R117, R143). -/

/-! ## What the end of an act leaves of the Position Record -/

theorem settle_position (fuel : Nat) (a : Act) : (settle fuel a).s.pr.position = a.s.pr.position :=
  congrArg Outside.position (settle_outside fuel a)

/-- What leaves the reading of the lines alone leaves the Position Record alone. -/
theorem position_of_linesRead {s t : State} (h : s.read State.linesRead = t.read State.linesRead) :
    s.pr.position = t.pr.position := congrArg (·.2.2.1) h

theorem takeItem_position (w : Waiting) (a : Act) : (takeItem w a).s.pr.position = a.s.pr.position := by cases w <;> rfl

theorem restartIce_position (a : Act) : (restartIce a).s.pr.position = a.s.pr.position := by
  refine congrArg Outside.position (?_ : (restartIce a).s.outside = a.s.outside)
  simp [restartIce]

/-- R132: a RESTART leaves the Position Record. -/
theorem restartEffects_position (a : Act) : (restartEffects a).s.pr.position = a.s.pr.position := by
  have changeover : (restartChangeover (a.modHolds fun _ => Vector.replicate 8 none)).s.pr.position = a.s.pr.position :=
    position_of_linesRead (by simp [blind_linesRead])
  have roof (b : Act) : (requestMbOpen .protection (restartPans b)).s.pr.position = b.s.pr.position :=
    position_of_linesRead (by simp [blind_linesRead])
  exact (restartIce_position _).trans ((roof _).trans changeover)

/-- Whatever the transmitter takes at the end of an act, the Position Record stands. -/
theorem complete_position (a : Act) : (complete a).s.pr.position = a.s.pr.position := by
  unfold complete
  dsimp only
  split
  · exact settle_position _ a
  · rename_i w _
    have took := (takeItem_position w (settle noteBound a)).trans (settle_position _ a)
    split
    · exact (settle_position _ _).trans ((restartEffects_position _).trans took)
    · exact took

/-! ## Jumps (R117, R143) -/

theorem outsideBand_iff (st : Settings) (e p : Nat) :
    outsideBand st e p = true ↔ p < e - st.jumpBack ∨ min 4294967295 (e + st.jumpForward) < p := decide_eq_true_iff

theorem outsideBand_eq_false_iff (st : Settings) (e p : Nat) :
    outsideBand st e p = false ↔ e - st.jumpBack ≤ p ∧ p ≤ min 4294967295 (e + st.jumpForward) := by
  rw [← Bool.not_eq_true, outsideBand_iff, not_or, Nat.not_lt, Nat.not_lt]

/-- R143: a jump makes the raise position of a changeover in progress unusable. -/
theorem raiseJump_eq (a : Act) : raiseJump a =
    { a with
      s := { a.s with
        co := if inProgress a.s then { a.s.co with usable := some false, raiseTimer := none } else a.s.co } } := by
  unfold raiseJump
  split <;> rfl

theorem takeJump_eq (e p : Nat) (a : Act) : takeJump e p a =
    { a with
      s := ({ a.s with
          pr := { a.s.pr with
            queue := [], triggerTimer := none, flushed := a.s.pr.flushed + a.s.pr.queue.length
            position := { a.s.pr.position with jumps := bump16 a.s.pr.position.jumps } }
          co := if inProgress a.s then { a.s.co with usable := some false, raiseTimer := none } else a.s.co }).reported
        (.queueFlushed (.jump a.s.pr.queue.length e p)) } := by
  rw [takeJump, raiseJump_eq]
  rfl

/-! ## POSITION frames (R114) -/

/-- R114: the blocks that read a position frame, in the order in which they are told. -/
def positionNotes : List Note := [.panHold .a, .panHold .b, .coPosition, .iceEvaluate .other, .gateReview]

/-- R114 step 2: the act in which the frame has been adopted. -/
def positionAdopted (p speed quality : Nat) (a : Act) : Act :=
  a.modPr fun r => { r with position := adopt (settings a.s) a.s.now p speed quality r.position }

section
variable {p speed quality : Nat} {a : Act}

theorem takePosition_of_within (within : ∀ e, estimate a.s = some e → outsideBand (settings a.s) e p = false) :
    takePosition p speed quality a = (evaluateQueue (positionAdopted p speed quality a)).notify positionNotes := by
  unfold takePosition
  cases before : estimate a.s with
  | none => rfl
  | some e =>
    dsimp only
    rw [within e before]
    rfl

/-- R117: a jump leaves the evaluation nothing to do. -/
theorem takePosition_of_jump {e : Nat} (before : estimate a.s = some e) (jumps : outsideBand (settings a.s) e p = true) :
    takePosition p speed quality a = (takeJump e p (positionAdopted p speed quality a)).notify positionNotes := by
  have idle : evaluateQueue (takeJump e p (positionAdopted p speed quality a)) =
      takeJump e p (positionAdopted p speed quality a) :=
    evaluateQueue_of_idle (by rw [takeJump_eq]; rfl) (by rw [takeJump_eq]; rfl)
  unfold takePosition
  rw [before]
  dsimp only
  rw [jumps]
  exact congrArg (Act.notify positionNotes) idle

end

section
variable {s : State} {p speed quality : Nat} (powered : s.powered = true) (locked : s.vl.link = .locked)

include powered locked

theorem execPosition_of_locked :
    exec (.position p speed quality) s = .next (complete (takePosition p speed quality { s := framed s })).s := by
  change perform (onFrame (takePosition p speed quality)) s = _
  rw [perform_of_powered _ s powered, onFrame_of_locked _ s locked]

theorem execPosition_of_within
    (within : ∀ e, estimate s = some e → e - (settings s).jumpBack ≤ p ∧ p ≤ min 4294967295 (e + (settings s).jumpForward)) :
    exec (.position p speed quality) s = .next (complete
      ((evaluateQueue (positionAdopted p speed quality { s := framed s })).notify positionNotes)).s := by
  rw [execPosition_of_locked powered locked, takePosition_of_within]
  exact fun e before => (outsideBand_eq_false_iff _ e p).2 (within e before)

theorem execPosition_of_jump {e : Nat} (before : estimate s = some e)
    (jumps : p < e - (settings s).jumpBack ∨ min 4294967295 (e + (settings s).jumpForward) < p) :
    exec (.position p speed quality) s = .next (complete
      ((takeJump e p (positionAdopted p speed quality { s := framed s })).notify positionNotes)).s := by
  rw [execPosition_of_locked powered locked, takePosition_of_jump before ((outsideBand_iff _ e p).2 jumps)]

end

/-- Settles O39: a frame by the band (`execPosition_of_within`, `execPosition_of_jump`), an evaluation by the mode and the head
that it finds, and the stale deadline. -/
theorem positionIsAdoptedJumpsAndGoesStale : Obligations.PositionIsAdoptedJumpsAndGoesStale := by
  refine ⟨fun s p speed quality powered locked => ⟨_, execPosition_of_locked powered locked, ?_⟩,
    fun s p speed quality powered locked within => ?_, fun a => ⟨evaluateQueue_of_standby, evaluateQueue_of_empty,
      fun head rest run queue => ⟨fun m => evaluateQueue_of_marker run queue, fun p position => ?_⟩⟩,
    fun s p speed quality e powered locked before jumps => ?_, fun s t powered deadline => ?_⟩
  · intro st limit adopted
    rw [complete_position]
    refine ⟨fun e before jumps => ?_, fun within => ?_⟩
    · rw [takePosition_of_jump (a := { s := framed s }) before ((outsideBand_iff _ e p).2 jumps), takeJump_eq]
      rfl
    · rw [takePosition_of_within fun e before => (outsideBand_eq_false_iff _ e p).2 (within e before)]
      exact congrArg Outside.position (evaluateQueue_outside _)
  · intro limit adopted taken told
    have stays := execPosition_of_within powered locked (speed := speed) (quality := quality) within
    refine ⟨fun standby => ?_, fun _ => stays⟩
    rwa [evaluateQueue_of_standby standby] at stays
  · refine ⟨fun ahead => ?_, fun b reached => ?_⟩
    · rw [← headFires_iff, Bool.not_eq_true] at ahead
      exact evaluateQueue_of_ahead run queue position ahead
    · rw [← headFires_iff] at reached
      exact ⟨evaluateQueue_of_refused run queue position reached, evaluateQueue_of_accepted run queue position reached⟩
  · rw [execPosition_of_jump powered locked before jumps, takeJump_eq]
    rfl
  · change perform (atDeadline s.pr.position.staleDeadline becomeStale) s = _
    rw [deadline, perform_atDeadline t _ s powered]
    rfl

end Sys2Proof.Machine

namespace Sys2Proof.Machine

/-! O40: the time of the trigger timer, and the firing of an action (R119 to R123, R164, R207). -/

/-! ## The time at which a position is reached (R121) -/

theorem reachTime_ne_none_iff (r : PositionRecord) (p : Nat) : reachTime r p ≠ none ↔
    r.fresh = true ∧ 0 < r.speed ∧ r.frameTime ≠ none ∧ ∃ last, r.last = some last ∧ last < p := by
  cases last : r.last with
  | none => simp [reachTime, last]
  | some l =>
    cases time : r.frameTime with
    | none => simp [reachTime, last, time]
    | some t => simp [reachTime, last, time]

/-- R121: of a FRESH record with a position ahead and a speed. -/
theorem reachTime_of_ahead {r : PositionRecord} {p last t : Nat} (set : r.last = some last) (time : r.frameTime = some t)
    (fresh : r.fresh = true) (moving : 0 < r.speed) (ahead : last < p) :
    reachTime r p = some (t + ceilDiv ((p - last) * 10000) r.speed) := by
  simp [reachTime, set, time, fresh, moving, ahead]

/-- The quotient rounded up is the first whole number whose product comes up to the dividend. -/
theorem ceilDiv_spec (a : Nat) {b : Nat} (positive : 0 < b) : a ≤ ceilDiv a b * b ∧ ceilDiv a b * b < a + b := by
  have division := Nat.div_add_mod (a + b - 1) b
  have rest := Nat.mod_lt (a + b - 1) positive
  rw [Nat.mul_comm] at division
  unfold ceilDiv
  omega

/-- R115: the estimate has come up to a position where the product has come up to the distance. -/
theorem le_estimate_iff {last p product : Nat} (ahead : last < p) (range : p ≤ 4294967295) :
    p ≤ min 4294967295 (last + product / 10000) ↔ (p - last) * 10000 ≤ product := by
  rw [← Nat.le_div_iff_mul_le (by decide : 0 < 10000)]
  omega

/-! ## The answer of an owner (R122) -/

theorem setInhibit_of_same {on : Bool} {a : Act} (same : a.s.ice.inhibit = on) : setInhibit on a = a := if_pos same

theorem setInhibit_of_change {on : Bool} {a : Act} (change : a.s.ice.inhibit ≠ on) :
    setInhibit on a = iceEvent .other (a.modIce fun i => { i with inhibit := on }) := if_neg change

theorem handOff_lowerAll (source : Source) (at' : Option Nat) {a first second : Act} {began began' : Bool}
    (lowerA : lowerPan .a .vehicle .orderly false a = (first, began))
    (lowerB : lowerPan .b .vehicle .orderly false first = (second, began')) :
    handOff source .lowerAll at' a = (second, if began || began' then .accepted else .already) := by
  simp only [handOff, lowerBoth, lowerA, lowerB]

/-- R52: a pantograph begins to lower where it is raised. -/
theorem began_iff {p : Pan} {cause : LowerCause} {kind : CauseKind} {quiet : Bool} {a b : Act} {began : Bool}
    (lowered : lowerPan p cause kind quiet a = (b, began)) :
    began = true ↔ (panOf a.s p).state = .raising ∨ (panOf a.s p).state = .up := by
  have answer := lowerPan_answer p cause kind quiet a
  rw [lowered] at answer
  rw [show began = (panOf a.s p).raised from answer, PanRecord.raised_iff]

/-! ## The expiry of the trigger timer (R121) -/

/-- R121: the timer has run out, and the head is evaluated. -/
theorem execTriggerTimerExpiry_of_running {s : State} {t : Nat} (powered : s.powered = true)
    (timer : s.pr.triggerTimer = some t) :
    exec .triggerTimerExpiry s = .next (complete (evaluateQueue (routeStandby (s.expiring t)))).s := by
  change perform (atDeadline s.pr.triggerTimer fun a => evaluateQueue (routeStandby a)) s = _
  rw [timer, perform_atDeadline t _ s powered]
  rfl

section
variable {s : State} {t p tag e : Nat} (powered : s.powered = true) (sending : Sending s) (run : s.vl.mode = .run)
  (timer : s.pr.triggerTimer = some t) (now : s.pr.position.estimate (max s.now t) = some e)

include powered sending run timer now

theorem execTriggerTimerExpiry_of_mark (fresh : s.pr.position.fresh = true)
    (queue : s.pr.queue = [{ action := .reportMark tag, trigger := .atPosition p }]) (reached : p ≤ e) :
    exec .triggerTimerExpiry s = .next
      ((({ s with
          now := max s.now t
          pr := { s.pr with queue := [], triggerTimer := none, fired := s.pr.fired + 1 } }).reported
        (.reportMark tag .queue (some e))).reported
        (.actionFired .queue (.reportMark tag) (some (.atPosition p)) (some e) .done)) := by
  have fires : headFires (routeStandby (s.expiring t)).s p = true := (headFires_iff _ p).2 ⟨fresh, e, now, reached⟩
  have fired := fire_of_accepted (source := .queue) (action := .reportMark tag) (trigger := some (.atPosition p))
    (a := (routeStandby (s.expiring t)).modPr fun r => { r with queue := [], triggerTimer := none }) rfl rfl
  rw [execTriggerTimerExpiry_of_running powered timer,
    evaluateQueue_of_accepted (a := routeStandby (s.expiring t)) run queue rfl fires fired rfl run,
    evaluateQueue_of_idle rfl rfl, complete_of_quiet _ rfl sending]
  change Host.Outcome.next (State.reported (State.reported _ (.reportMark tag .queue (s.pr.position.estimate (max s.now t))))
    (.actionFired .queue (.reportMark tag) (some (.atPosition p)) (s.pr.position.estimate (max s.now t)) .done)) = _
  rw [now]
  rfl

theorem execTriggerTimerExpiry_of_ahead {rest : List QueueEntry}
    (queue : s.pr.queue = { action := .reportMark tag, trigger := .atPosition p } :: rest) (ahead : e < p) :
    exec .triggerTimerExpiry s = .next
      { s with now := max s.now t, pr := { s.pr with triggerTimer := reachTime s.pr.position p } } := by
  have waits : headFires (routeStandby (s.expiring t)).s p = false := by
    rw [← Bool.not_eq_true, headFires_iff]
    rintro ⟨-, e', now', reached⟩
    have same : e = e' := Option.some.inj (now.symm.trans now')
    omega
  rw [execTriggerTimerExpiry_of_running powered timer,
    evaluateQueue_of_ahead (a := routeStandby (s.expiring t)) run queue rfl waits, complete_of_quiet _ rfl sending]
  rfl

end

/-- Settles O40: the time is the distance over the speed, rounded up (`ceilDiv_spec`); an expiry fires the head or sets the timer
afresh, and a firing goes by the answer of the action's owner. -/
theorem triggerTimerFiresAtItsTime : Obligations.TriggerTimerFiresAtItsTime := by
  refine ⟨fun r p last t limit set time stale fresh moving ahead range => ?_, reachTime_ne_none_iff,
    fun s t p tag e powered sending run timer fresh now =>
      ⟨fun queue => execTriggerTimerExpiry_of_mark powered sending run timer now fresh queue,
        fun rest queue => execTriggerTimerExpiry_of_ahead powered sending run timer now queue⟩,
    fun source action trigger a b answer handed => ?_,
    fun source on at' a => ⟨fun same => ?_, fun change => ?_⟩,
    fun a at' => ⟨fun target raise => ⟨rfl, rfl, rfl⟩, fun source first second began began' lowerA lowerB => ?_⟩⟩
  · obtain ⟨enough, first⟩ := ceilDiv_spec ((p - last) * 10000) moving
    have frame := estimate_of_frame set time stale
    refine ⟨_, reachTime_of_ahead set time fresh moving ahead, ?_⟩
    generalize ceilDiv ((p - last) * 10000) r.speed = wait at enough first ⊢
    have positive : 0 < wait := Nat.pos_of_ne_zero fun zero => by
      rw [zero] at enough
      omega
    refine ⟨by omega, fun within => ⟨_, frame _, ?_⟩, fun now from' before e est => ?_, ?_, ?_⟩
    · rw [le_estimate_iff ahead range, Nat.mul_comm r.speed, show min (t + wait - t) limit = wait by omega]
      exact enough
    · rw [frame, Option.some.injEq] at est
      rw [← est, ← Nat.not_le, le_estimate_iff ahead range, Nat.not_le]
      have early : r.speed * min (now - t) limit ≤ (wait - 1) * r.speed := by
        rw [Nat.mul_comm]
        exact Nat.mul_le_mul_right _ (by omega)
      rw [Nat.sub_mul] at early
      omega
    · rwa [Nat.add_sub_cancel_left]
    · rwa [Nat.add_sub_cancel_left]
  · intro told removed flushed
    refine ⟨fun accepted => fire_of_accepted handed ((accepts_iff answer).2 accepted), fun refused => ?_⟩
    rw [← accepts_iff, Bool.not_eq_true] at refused
    rw [fire_of_refused handed refused]
    cases source <;> rfl
  · rw [handOff, setInhibit_of_same same]
  · rw [handOff, setInhibit_of_change change]
  · have answer := handOff_lowerAll source at' lowerA lowerB
    refine ⟨fun either => ?_, fun neither neither' => ?_, began_iff lowerA, began_iff lowerB, fun tag => rfl⟩
    · rw [answer, if_pos (Bool.or_eq_true_iff.2 either)]
    · rw [answer, neither, neither']
      rfl

end Sys2Proof.Machine

namespace Sys2Proof.Machine

/-! O41: the requests of the route plan (R118, R126, R127). -/

/-! ## Ranges and Marker Lists -/

theorem changeover_inRange_iff (target : Nat) (raise : Option Nat) : actionInRange (.changeover target raise) = true ↔
    1 ≤ target ∧ target ≤ 15 ∧ ∀ p, raise = some p → p ≤ 4294967295 := by
  rw [actionInRange, Bool.and_eq_true, decide_eq_true_iff, and_assoc, Option.all_eq_true]
  exact and_congr_right' (and_congr_right' (forall₂_congr fun p _ => decide_eq_true_iff))

theorem entry_inRange_iff (action : Action) :
    (∀ p, entryInRange { action, trigger := .atPosition p } = true ↔ actionInRange action = true ∧ p ≤ 4294967295)
      ∧ ∀ m, entryInRange { action, trigger := .onMarker m } = true ↔ actionInRange action = true ∧ m ≤ 1 := by
  simp only [entryInRange, Bool.and_eq_true]
  exact ⟨fun p => and_congr_right' decide_eq_true_iff, fun m => and_congr_right' decide_eq_true_iff⟩

theorem markerOf_of_marker (m : Fin 2) : markerOf m.val = some m := by
  match m with
  | 0 => rfl
  | 1 => rfl

theorem markerOf_of_out_of_range {n : Nat} (h : 2 ≤ n) : markerOf n = none := by
  match n, h with
  | _ + 2, _ => rfl

theorem val_of_markerOf {n : Nat} {m : Fin 2} (names : markerOf n = some m) : m.val = n := by
  by_cases h : n < 2
  · rw [markerOf_of_marker ⟨n, h⟩, Option.some.injEq] at names
    rw [← names]
  · rw [markerOf_of_out_of_range (Nat.not_lt.1 h)] at names
    cases names

theorem marker_eq (r : Route) (m : Fin 2) : r.marker m = if m = 0 then r.m0 else r.m1 := by
  match m with
  | 0 => rfl
  | 1 => rfl

theorem setMarker_eq (r : Route) (m : Fin 2) (l : List Action) :
    r.setMarker m l = if m = 0 then { r with m0 := l } else { r with m1 := l } := by
  match m with
  | 0 => rfl
  | 1 => rfl

theorem queueUsesMarker_iff (r : Route) (m : Fin 2) :
    queueUsesMarker r m = true ↔ ∃ e ∈ r.queue, e.trigger = .onMarker m.val := by
  simp [queueUsesMarker]

/-- An entry waits for a marker whose Marker List holds an action (R118). -/
def Route.Conflicts (r : Route) (e : QueueEntry) (m : Fin 2) : Prop := e.trigger = .onMarker m.val ∧ r.marker m ≠ []

/-- R118 check 3: the marker named is that of a conflicting entry (assumption log 54). -/
theorem conflict_of_markerInUse {r : Route} {entries : List QueueEntry} {n : Nat} (used : markerInUse r entries = some n) :
    ∃ e ∈ entries, ∃ m : Fin 2, m.val = n ∧ r.Conflicts e m := by
  obtain ⟨e, mem, names⟩ := List.mem_filterMap.1 (List.mem_of_mem_head? used)
  refine ⟨e, mem, ?_⟩
  cases trigger : e.trigger with
  | atPosition p => simp [trigger] at names
  | onMarker k =>
    obtain ⟨⟨m, number, held⟩, rfl⟩ : (∃ m, markerOf k = some m ∧ r.marker m ≠ []) ∧ k = n := by
      simpa [trigger, Option.any_eq_true] using names
    have value := val_of_markerOf number
    exact ⟨m, value, by rw [trigger, value], held⟩

theorem markerInUse_eq_none_iff (r : Route) (entries : List QueueEntry) :
    markerInUse r entries = none ↔ ∀ e ∈ entries, ∀ m : Fin 2, ¬ r.Conflicts e m := by
  refine ⟨fun free e mem m ⟨waits, held⟩ => markerInUse_none free m held e mem waits, fun apart => ?_⟩
  rw [Option.eq_none_iff_forall_ne_some]
  intro n used
  obtain ⟨e, mem, m, -, conflict⟩ := conflict_of_markerInUse used
  exact apart e mem m conflict

/-! ## The list of a request (R118, R126) -/

/-- A request names one to four items, each with its fields in their ranges. -/
def OneToFour {α : Type} (ok : α → Bool) (l : List α) : Prop := 1 ≤ l.length ∧ l.length ≤ 4 ∧ ∀ x ∈ l, ok x = true

theorem not_oneToFour_iff {α : Type} (ok : α → Bool) (l : List α) :
    ¬ OneToFour ok l ↔ l.isEmpty = true ∨ 4 < l.length ∨ (!l.all ok) = true := by
  rw [OneToFour, Nat.one_le_iff_ne_zero, Ne, List.length_eq_zero_iff, List.isEmpty_iff, Bool.not_eq_true', ← Bool.not_eq_true,
    List.all_eq_true, not_and_or, not_and_or, not_not, Nat.not_le]

/-! ## QUEUE_APPEND (R118) -/

/-- R118: the queue and its count have room for a number of entries. -/
def Route.QueueRoom (r : Route) (n : Nat) : Prop := r.queue.length + n ≤ 16 ∧ r.appended + n ≤ 4294967295

/-- R118: the entries join the tail of the queue. -/
def Route.appendEntries (r : Route) (entries : List QueueEntry) : Route :=
  { r with queue := r.queue ++ entries, appended := r.appended + entries.length }

section
variable {entries : List QueueEntry} {a : Act}

theorem appendQueue_of_range (out : ¬ OneToFour entryInRange entries) : appendQueue entries a = (a, { result := .range }) :=
  if_pos ((not_oneToFour_iff _ _).1 out)

variable (range : OneToFour entryInRange entries)

include range

theorem appendQueue_of_full (full : ¬ a.s.pr.QueueRoom entries.length) : appendQueue entries a = (a, { result := .full }) := by
  refine (if_neg (mt (not_oneToFour_iff _ _).2 (not_not_intro range))).trans (if_pos ?_)
  rwa [Route.QueueRoom, not_and_or, Nat.not_le, Nat.not_le] at full

/-- R118: what has its ranges and its room goes by the markers. -/
theorem appendQueue_of_room (room : a.s.pr.QueueRoom entries.length) : appendQueue entries a =
    match markerInUse a.s.pr entries with
    | some m => (a, { result := .markerInUse, number := some m })
    | none =>
      (if a.s.pr.queue.isEmpty then evaluateQueue (a.modPr fun r => r.appendEntries entries)
        else a.modPr fun r => r.appendEntries entries,
       { result := .done, number := some (a.s.pr.queue.length + entries.length) }) := by
  refine (if_neg (mt (not_oneToFour_iff _ _).2 (not_not_intro range))).trans ((if_neg ?_).trans rfl)
  rwa [← Nat.not_le, ← Nat.not_le, ← not_and_or, not_not]

variable (room : a.s.pr.QueueRoom entries.length)

include room

theorem appendQueue_of_markerInUse {m : Nat} (used : markerInUse a.s.pr entries = some m) :
    appendQueue entries a = (a, { result := .markerInUse, number := some m }) := by
  rw [appendQueue_of_room range room, used]

variable (free : markerInUse a.s.pr entries = none)

include free

theorem appendQueue_of_empty (empty : a.s.pr.queue = []) : appendQueue entries a =
    (evaluateQueue (a.modPr fun r => r.appendEntries entries),
      { result := .done, number := some (a.s.pr.queue.length + entries.length) }) := by
  rw [appendQueue_of_room range room, free]
  dsimp only
  rw [if_pos (List.isEmpty_iff.2 empty)]

/-- R118, R119: behind other entries, or in STANDBY, the entries wait without an evaluation. -/
theorem appendQueue_of_waiting (waits : a.s.pr.queue ≠ [] ∨ a.s.vl.mode = .standby) : appendQueue entries a =
    (a.modPr fun r => r.appendEntries entries, { result := .done, number := some (a.s.pr.queue.length + entries.length) }) := by
  by_cases empty : a.s.pr.queue = []
  · rw [appendQueue_of_empty range room free empty, evaluateQueue_of_standby]
    exact waits.resolve_left (not_not_intro empty)
  · rw [appendQueue_of_room range room, free]
    dsimp only
    rw [if_neg (mt List.isEmpty_iff.1 empty)]

end

/-! ## MARKER_LOAD (R126) -/

/-- R126: a Marker List and the count of appended actions have room for a number of actions. -/
def Route.MarkerRoom (r : Route) (m : Fin 2) (n : Nat) : Prop := (r.marker m).length + n ≤ 4 ∧ r.appended + n ≤ 4294967295

/-- R126: the actions join the tail of a Marker List. -/
def Route.loadActions (r : Route) (m : Fin 2) (actions : List Action) : Route :=
  { r.setMarker m (r.marker m ++ actions) with appended := r.appended + actions.length }

section
variable {m : Fin 2} {actions : List Action} {a : Act}

theorem loadMarker_of_range {n : Nat} (out : 2 ≤ n ∨ ¬ OneToFour actionInRange actions) :
    loadMarker n actions a = (a, { result := .range }) := by
  unfold loadMarker
  dsimp only
  cases number : markerOf n with
  | none => rfl
  | some m =>
    have fails : ¬ OneToFour actionInRange actions := out.resolve_left fun past => by
      rw [markerOf_of_out_of_range past] at number
      cases number
    exact if_pos ((not_oneToFour_iff _ _).1 fails)

variable (range : OneToFour actionInRange actions)

include range

/-- R126: actions in range go by the room and the queue. -/
theorem loadMarker_of_inRange : loadMarker m.val actions a =
    if markerCapacity < (a.s.pr.marker m).length + actions.length ∨ max32 < a.s.pr.appended + actions.length then
      (a, { result := .full })
    else if queueUsesMarker a.s.pr m then (a, { result := .markerInUse })
    else
      (a.modPr fun r => r.loadActions m actions,
        { result := .done, number := some ((a.s.pr.marker m).length + actions.length) }) := by
  rw [loadMarker, markerOf_of_marker]
  exact if_neg (mt (not_oneToFour_iff _ _).2 (not_not_intro range))

theorem loadMarker_of_full (full : ¬ a.s.pr.MarkerRoom m actions.length) :
    loadMarker m.val actions a = (a, { result := .full }) := by
  rw [Route.MarkerRoom, not_and_or, Nat.not_le, Nat.not_le] at full
  rw [loadMarker_of_inRange range]
  exact if_pos full

variable (room : a.s.pr.MarkerRoom m actions.length)

include room

theorem loadMarker_of_room : loadMarker m.val actions a =
    if queueUsesMarker a.s.pr m then (a, { result := .markerInUse })
    else
      (a.modPr fun r => r.loadActions m actions,
        { result := .done, number := some ((a.s.pr.marker m).length + actions.length) }) := by
  rw [loadMarker_of_inRange range]
  refine if_neg ?_
  rwa [← Nat.not_le, ← Nat.not_le, ← not_and_or, not_not]

theorem loadMarker_of_markerInUse (used : queueUsesMarker a.s.pr m = true) :
    loadMarker m.val actions a = (a, { result := .markerInUse }) := by
  rw [loadMarker_of_room range room, if_pos used]

theorem loadMarker_of_free (free : queueUsesMarker a.s.pr m = false) : loadMarker m.val actions a =
    (a.modPr fun r => r.loadActions m actions,
      { result := .done, number := some ((a.s.pr.marker m).length + actions.length) }) := by
  rw [loadMarker_of_room range room, if_neg (Bool.eq_false_iff.1 free)]

end

/-! ## QUEUE_FLUSH and MARKER_FLUSH (R127) -/

/-- An empty queue without a timer has nothing to flush. -/
theorem flushQueue_of_empty {r : Route} (empty : r.queue = []) (timer : r.triggerTimer = none) : r.flushQueue = r := by
  cases r
  simp_all [Route.flushQueue]

theorem flushMarker_of_empty {r : Route} {m : Fin 2} (empty : r.marker m = []) : r.flushMarker m = r := by
  cases r
  match m with
  | 0 => simp_all [Route.flushMarker, Route.setMarker, Route.marker]
  | 1 => simp_all [Route.flushMarker, Route.setMarker, Route.marker]

section
variable {a : Act}

theorem flushQueueRequest_of_empty (empty : a.s.pr.queue = []) (timer : a.s.pr.triggerTimer = none) :
    flushQueueRequest a = (a, { result := .already }) := by
  rw [flushQueueRequest, Act.modPr, flushQueue_of_empty empty timer, empty]
  rfl

theorem flushQueueRequest_of_held (held : a.s.pr.queue ≠ []) :
    flushQueueRequest a = (a.modPr Route.flushQueue, { result := .done, number := some a.s.pr.queue.length }) := by
  rw [flushQueueRequest]
  exact congrArg (Prod.mk _) (if_neg (mt List.length_eq_zero_iff.1 held))

theorem flushMarkerRequest_of_out_of_range {n : Nat} (h : 2 ≤ n) : flushMarkerRequest n a = (a, { result := .range }) := by
  rw [flushMarkerRequest, markerOf_of_out_of_range h]

variable {m : Fin 2}

theorem flushMarkerRequest_of_empty (empty : a.s.pr.marker m = []) :
    flushMarkerRequest m.val a = (a, { result := .already }) := by
  rw [flushMarkerRequest, markerOf_of_marker]
  dsimp only
  rw [Act.modPr, flushMarker_of_empty empty, empty]
  rfl

theorem flushMarkerRequest_of_held (held : a.s.pr.marker m ≠ []) : flushMarkerRequest m.val a =
    (a.modPr fun r => r.flushMarker m, { result := .done, number := some (a.s.pr.marker m).length }) := by
  rw [flushMarkerRequest, markerOf_of_marker]
  exact congrArg (Prod.mk _) (if_neg (mt List.length_eq_zero_iff.1 held))

end

/-! ## The requests -/

theorem routeReply_eq {f : Act → Act × RouteAnswer} {a b : Act} {r : RouteAnswer} (h : f a = (b, r)) :
    routeReply f a = (b, { result := r.result, data := (r.number.map put8).getD [] }) := by
  simp only [routeReply, h]

/-- A request of the route plan that tells no block, at a busy transmitter, leaves what its owner has written and its reply. -/
theorem performRoute_of_quiet {s t : State} (seq code : Nat) {f : Act → Act × RouteAnswer} (ready : Ready s) (sending : Sending t)
    {r : RouteAnswer} (owned : f { s := framed s } = ({ s := t }, r)) :
    perform (request seq code (routeReply f)) s = .next (t.replied seq code r.result ((r.number.map put8).getD [])) :=
  perform_request_of_quiet seq code (routeReply f) ready sending (routeReply_eq owned)

/-- Settles O41: each request by the checks of its owner in their order (`appendQueue_of_range` to `appendQueue_of_waiting`,
`loadMarker_of_range` to `loadMarker_of_free`, and the flushes). -/
theorem routePlanRequestsAreCheckedInOrder : Obligations.RoutePlanRequestsAreCheckedInOrder := by
  refine ⟨⟨changeover_inRange_iff, rfl, fun on => rfl, fun tag => decide_eq_true_iff,
      fun action => (entry_inRange_iff action).1, fun action => (entry_inRange_iff action).2,
      fun r m l => ⟨marker_eq r m, setMarker_eq r m l, queueUsesMarker_iff r m⟩⟩,
    fun s seq entries ready => ?_,
    fun r entries => ⟨markerInUse_eq_none_iff r entries, fun n => conflict_of_markerInUse⟩,
    fun s seq actions ready sending => ?_⟩
  · intro r inRange room answered depth appended
    refine ⟨fun sending out => ?_, fun sending range full => ?_, fun m sending range fits used => ?_,
      fun sending range fits free waits => ?_, fun range fits free empty => ?_⟩
    · exact performRoute_of_quiet (t := framed s) seq 0x30 ready sending (appendQueue_of_range out)
    · exact performRoute_of_quiet (t := framed s) seq 0x30 ready sending (appendQueue_of_full range full)
    · exact performRoute_of_quiet (t := framed s) seq 0x30 ready sending
        (appendQueue_of_markerInUse (a := { s := framed s }) range fits used)
    · exact performRoute_of_quiet (t := appended) seq 0x30 ready sending
        (appendQueue_of_waiting (a := { s := framed s }) range fits free waits)
    · exact perform_request seq 0x30 _ ready
        (routeReply_eq (appendQueue_of_empty (a := { s := framed s }) range fits free empty))
  · intro inRange load r
    refine ⟨fun n => ⟨fun out => ?_, fun past => ?_⟩, fun m => ?_, fun held => ?_, fun empty timer => ?_⟩
    · exact performRoute_of_quiet (t := framed s) seq 0x32 ready sending (loadMarker_of_range out)
    · exact performRoute_of_quiet (t := framed s) seq 0x33 ready sending (flushMarkerRequest_of_out_of_range past)
    · intro depth room
      refine ⟨fun range full => ?_, fun range fits used => ?_, fun range fits free => ?_, fun empty => ?_, fun held => ?_⟩
      · exact performRoute_of_quiet (t := framed s) seq 0x32 ready sending (loadMarker_of_full range full)
      · exact performRoute_of_quiet (t := framed s) seq 0x32 ready sending (loadMarker_of_markerInUse range fits used)
      · exact performRoute_of_quiet (t := { framed s with pr := r.loadActions m actions }) seq 0x32 ready sending
          (loadMarker_of_free (a := { s := framed s }) range fits free)
      · exact performRoute_of_quiet (t := framed s) seq 0x33 ready sending (flushMarkerRequest_of_empty empty)
      · exact performRoute_of_quiet (t := { framed s with pr := r.flushMarker m }) seq 0x33 ready sending
          (flushMarkerRequest_of_held (a := { s := framed s }) held)
    · exact performRoute_of_quiet (t := { framed s with pr := r.flushQueue }) seq 0x31 ready sending
        (flushQueueRequest_of_held (a := { s := framed s }) held)
    · exact performRoute_of_quiet (t := framed s) seq 0x31 ready sending (flushQueueRequest_of_empty empty timer)

end Sys2Proof.Machine

namespace Sys2Proof.Machine

/-! SUPPORT. What the Changeover Sequencer tests, and what it asks of the switchgear and the pantographs (08). -/

/-! ## What the sequencer tests -/

theorem reportedIdle_iff (s : State) (d : Dev) (p : Pos) :
    reportedIdle s d p = true ↔ (devOf s d).reported = p ∧ (devOf s d).move = none := by
  rw [reportedIdle, Bool.and_eq_true, beq_iff_eq, idle_iff]

/-- R142: the raise position is reached. -/
theorem raiseReached_iff (s : State) : raiseReached s = true ↔ ∃ p e, s.co.raisePosition = some p ∧ s.co.usable = some true
    ∧ s.pr.position.fresh = true ∧ estimate s = some e ∧ p ≤ e := by
  unfold raiseReached
  cases s.co.raisePosition with
  | none => simp
  | some p => cases estimate s <;> simp [and_assoc]

/-- R142: the raise timer can run while the record has stayed usable. -/
theorem raiseTime_eq_some_iff (s : State) (t : Nat) : raiseTime s = some t ↔
    s.co.usable = some true ∧ ∃ p, s.co.raisePosition = some p ∧ reachTime s.pr.position p = some t := by
  unfold raiseTime
  split <;> simp_all [Option.bind_eq_some_iff]

/-- R141: each requested move has its device reported at its target and IDLE. -/
theorem selectingOver_iff (s : State) : selectingOver s = true ↔
    ∀ m ∈ s.co.requested, (devOf s m.1).reported = m.2 ∧ (devOf s m.1).move = none := by
  simp only [selectingOver, List.all_eq_true, reportedIdle_iff]

/-- R151: ABORTING is over. -/
theorem abortOver_iff (s : State) : abortOver s = true ↔ s.pans.a.state ≠ .raising ∧ s.pans.b.state ≠ .raising
    ∧ (s.sg.mb.reported = .opened ∨ rolePresent s .switchgear = false) := by
  simp [abortOver, and_assoc]

theorem newPanUp_of_some {s : State} {p : Pan} (new : s.co.newPan = some p) :
    newPanUp s = true ↔ (panOf s p).state = .up := by
  simp [newPanUp, new]

/-- R149: the pantograph relied on is the kept one while it is kept, and the new one from RAISING_NEW on. -/
theorem reliesOn_iff (s : State) (p : Pan) : reliesOn s p = true ↔ s.co.newPan = some p
    ∧ (s.co.kept = true ∧ s.co.step ∈ [CoStep.loweringOld, .selecting, .awaitRaise, .raisingNew, .verifying, .halted]
      ∨ s.co.kept = false ∧ s.co.step ∈ [CoStep.raisingNew, .verifying, .halted]) := by
  cases kept : s.co.kept <;> cases step : s.co.step <;> simp [reliesOn, keptPan, kept, step]

/-! ## Requests of the sequencer (R138) -/

theorem seqMove_of_asked {d : Dev} {target : Pos} {a b : Act} {r : MoveResult}
    (asked : moveRequest d target .sequencer a = (b, r)) (taken : moveRefusal r = none) :
    seqMove d target a = (b.modCo fun c => { c with requested := c.requested ++ [(d, target)] }, none) := by
  simp only [seqMove, asked, taken]

theorem seqMove_of_refused {d : Dev} {target : Pos} {a b : Act} {r : MoveResult} {x : AbortReason × Option AbortDetail}
    (asked : moveRequest d target .sequencer a = (b, r)) (refused : moveRefusal r = some x) :
    seqMove d target a = (b, some x) := by
  simp only [seqMove, asked, refused]

/-- R70, R71: a request that is answered ACCEPTED or ALREADY leaves its device MOVING. -/
theorem moveRequest_moving {d : Dev} {target : Pos} {o : Origin} {a b : Act} {r : MoveResult}
    (asked : moveRequest d target o a = (b, r)) (taken : moveRefusal r = none) : (devOf b.s d).move ≠ none := by
  unfold moveRequest at asked
  split at asked
  · split at asked <;> rename_i check
    · obtain ⟨rfl, rfl⟩ := asked
      intro idle
      have free := (moveCheck_free_iff a.s d target).2 (.inl idle)
      rw [check] at free
      cases free
    · obtain ⟨rfl, rfl⟩ := asked
      cases taken
    · split at asked <;> obtain ⟨rfl, rfl⟩ := asked
      · simp [beginMove_eq, devOf]
      · cases taken
      · cases taken
  · obtain ⟨rfl, rfl⟩ := asked
    cases taken

theorem seqMove_moving {d : Dev} {target : Pos} {a b : Act} (asked : seqMove d target a = (b, none)) :
    (devOf b.s d).move ≠ none := by
  obtain ⟨x, r, request⟩ : ∃ x r, moveRequest d target .sequencer a = (x, r) := ⟨_, _, rfl⟩
  cases taken : moveRefusal r with
  | some refusal => simp [seqMove_of_refused request taken] at asked
  | none =>
    rw [seqMove_of_asked request taken] at asked
    obtain ⟨rfl, -⟩ := asked
    exact (moveRequest_moving request taken :)

/-- R102: nothing of the Changeover Record counts in the judgement of a command of the sequencer. -/
theorem judge_sequencer_of_co (s : State) (co : Changeover) (d : Dev) (target : Pos) :
    judge { s with co } (moveCommand d target .sequencer) = judge s (moveCommand d target .sequencer) := by
  have conditions (r : GateRecord) : tableConditions { s with co } r .sequencer = tableConditions s r .sequencer := by
    simp only [tableConditions, beq_self_eq_true, Bool.or_true]
    rfl
  have failure (r : GateRecord) : tableFailure { s with co } r .sequencer = tableFailure s r .sequencer := by
    rw [tableFailure, namedConditions, conditions]
    rfl
  have verdict (k : Kind) : interlockOrTable { s with co } .switchgear k .sequencer
      = interlockOrTable s .switchgear k .sequencer := by
    unfold interlockOrTable
    simp only [failure]
    rfl
  unfold judge
  simp only [moveCommand, verdict]
  rfl

/-- R70, R138: a move of the sequencer has left on a port, is in flight, and is one of those requested. -/
def moveSent (d : Dev) (target : Pos) (port : Nat) (a : Act) : Act :=
  (beginMove d target .sequencer { a with s := a.s.sentOn port (moveCommand d target .sequencer).payload }).modCo
    fun c => { c with requested := c.requested ++ [(d, target)] }

theorem seqMove_of_sent {d : Dev} {target : Pos} {a : Act} {r : DirectoryRecord} (commandable : target ∈ devTargets d)
    (idle : (devOf a.s d).move = none) (admitted : judge a.s (moveCommand d target .sequencer) = none)
    (head : rolePresent a.s .switchgear = true) (directory : directoryOfRole a.s .switchgear = some r) :
    seqMove d target a = (moveSent d target r.port a, none) :=
  seqMove_of_asked
    (moveRequest_of_sent commandable ((moveCheck_free_iff a.s d target).2 (.inl idle)) admitted head directory) rfl

theorem askMoves_of_there {d : Dev} {target : Pos} {rest : List (Dev × Pos)} {a : Act}
    (there : reportedIdle a.s d target = true) : askMoves ((d, target) :: rest) a = askMoves rest a := if_pos there

theorem askMoves_of_asked {d : Dev} {target : Pos} {rest : List (Dev × Pos)} {a b : Act}
    {refusal : Option (AbortReason × Option AbortDetail)} (away : ¬ reportedIdle a.s d target = true)
    (asked : seqMove d target a = (b, refusal)) :
    askMoves ((d, target) :: rest) a = if refusal.isSome then (b, refusal) else askMoves rest b := by
  rw [askMoves, if_neg away, asked]
  cases refusal <;> rfl

/-- R140: the pantographs but the kept one that are up are asked to lower. -/
theorem lowerOld_eq (kept : Option Pan) (a : Act) (p : Pan) : lowerOld kept a p =
    if kept ≠ some p ∧ ((panOf a.s p).state = .raising ∨ (panOf a.s p).state = .up)
    then (lowerPan p .changeover .orderly true a).1 else a := by
  simp only [lowerOld, PanRecord.raised_iff]

/-- R136: a scrape pantograph that is up is asked to lower. -/
theorem lowerScrape_eq (a : Act) (p : Pan) : lowerScrape a p =
    if ((panOf a.s p).state = .raising ∨ (panOf a.s p).state = .up) ∧ (panOf a.s p).role = some .scrape
    then (lowerPan p .changeover .orderly true a).1 else a := by
  simp only [lowerScrape, PanRecord.raised_iff]

/-! ## The ends of a changeover (R151) -/

theorem finishAbort_of_reason {a : Act} {reason : AbortReason} (left : CoStep) (passed : List CoStep)
    (led : a.s.co.abortReason = some reason) :
    finishAbort left passed a = endChangeover (.aborted reason) none left passed a := by
  rw [finishAbort, led]
  rfl

end Sys2Proof.Machine

namespace Sys2Proof.Machine

/-! O42: the entry to and the end of each step of a changeover (R137 to R142, R145, R147, R151). -/

/-! ## The entries (R139 to R142, R145, R147) -/

section
variable {left : CoStep} {passed : List CoStep} {a b : Act}

theorem enterOpening_of_opened (opened : reportedIdle a.s .mb .opened = true) :
    enterOpening left passed a = enterLoweringOld left (passed ++ [.opening]) (toStep .opening a) := if_pos opened

theorem enterOpening_of_refused {reason : AbortReason} {detail : Option AbortDetail}
    (unopened : ¬ reportedIdle a.s .mb .opened = true)
    (asked : seqMove .mb .opened (toStep .opening a) = (b, some (reason, detail))) :
    enterOpening left passed a = abort reason detail left (passed ++ [.opening]) b := by
  refine (if_neg unopened).trans ?_
  rw [asked]

theorem enterOpening_of_asked (unopened : ¬ reportedIdle a.s .mb .opened = true)
    (asked : seqMove .mb .opened (toStep .opening a) = (b, none)) : enterOpening left passed a =
      if b.s.sg.mb.reported = .opened then enterLoweringOld left (passed ++ [.opening]) b else reportStep left passed b := by
  refine (if_neg unopened).trans ?_
  rw [asked]

/-- R140: the kept pan and the new pan are found. -/
def panDecided (kept : Option Pan) (r : SystemRecord) (a : Act) : Act :=
  (toStep .loweringOld a).modCo fun c => { c with newPan := kept <|> r.preferred.value, kept := kept.isSome }

/-- R140: the pantographs but the kept one are asked to lower, and those in LOWERING are awaited. -/
def oldAsked (kept : Option Pan) (a : Act) : Act :=
  let lowered := pansInOrder.foldl (lowerOld kept) a
  lowered.modCo fun c =>
    { c with awaited := pansInOrder.filter fun p => kept != some p && (panOf lowered.s p).state == .lowering }

/-- R138: the record of the target, while one stands. -/
theorem targetRecord_of_some {s : State} {target : Nat} {r : SystemRecord} (aim : s.co.target = some target)
    (record : systemRecord s target = some r) : targetRecord s = some r := by
  rw [targetRecord, aim]
  exact record

theorem enterLoweringOld_of_record {r : SystemRecord} (record : targetRecord a.s = some r) :
    enterLoweringOld left passed a =
      (let asked := oldAsked (keptPanFor a.s r) (panDecided (keptPanFor a.s r) r a)
       if asked.s.co.awaited.isEmpty then enterSelecting left (passed ++ [.loweringOld]) asked else reportStep left passed asked) := by
  have entered : targetRecord (toStep .loweringOld a).s = some r := record
  simp only [enterLoweringOld, entered]
  rfl

/-- R141: SS comes first, then, without a kept pan, the isolating switches of the new pan and of the other. -/
theorem selectingGoals_eq (s : State) (r : SystemRecord) : selectingGoals s r =
    (match r.selector with
      | .named sel => [(Dev.ss, selectorPos sel)]
      | .unnamed _ => [])
    ++ (match s.co.kept, s.co.newPan with
      | false, some p => [(isoOf p, .closed), (isoOf (otherPan p), .opened)]
      | _, _ => []) := by
  unfold selectingGoals
  cases s.co.kept <;> cases s.co.newPan <;> rfl

theorem enterSelecting_of_refused {r : SystemRecord} {reason : AbortReason} {detail : Option AbortDetail}
    (record : targetRecord a.s = some r)
    (asked : askMoves (selectingGoals a.s r) (toStep .selecting a) = (b, some (reason, detail))) :
    enterSelecting left passed a = abort reason detail left (passed ++ [.selecting]) b := by
  have entered : targetRecord (toStep .selecting a).s = some r := record
  have goals : selectingGoals (toStep .selecting a).s r = selectingGoals a.s r := rfl
  simp only [enterSelecting, entered, goals, asked]

theorem enterSelecting_of_asked {r : SystemRecord} (record : targetRecord a.s = some r)
    (asked : askMoves (selectingGoals a.s r) (toStep .selecting a) = (b, none)) : enterSelecting left passed a =
      if selectingOver b.s then leaveSelecting left (passed ++ [.selecting]) b else reportStep left passed b := by
  have entered : targetRecord (toStep .selecting a).s = some r := record
  have goals : selectingGoals (toStep .selecting a).s r = selectingGoals a.s r := rfl
  simp only [enterSelecting, entered, goals, asked]

theorem leaveSelecting_of_kept (kept : a.s.co.kept = true) : leaveSelecting left passed a = enterVerifying left passed a := if_pos kept

theorem leaveSelecting_of_unkept (unkept : a.s.co.kept = false) : leaveSelecting left passed a = enterAwaitRaise left passed a :=
  if_neg (Bool.eq_false_iff.1 unkept)

theorem enterAwaitRaise_of_reached (reached : raiseReached a.s = true) :
    enterAwaitRaise left passed a = enterRaisingNew left (passed ++ [.awaitRaise]) (toStep .awaitRaise a) := if_pos reached

theorem enterAwaitRaise_of_ahead (ahead : raiseReached a.s = false) : enterAwaitRaise left passed a =
    reportStep left passed ((toStep .awaitRaise a).modCo fun c => { c with raiseTimer := raiseTime a.s }) :=
  if_neg (Bool.eq_false_iff.1 ahead)

section
variable {r : SystemRecord} {p : Pan} {answer : RaiseAnswer} (record : targetRecord a.s = some r) (new : a.s.co.newPan = some p)
  (raised : raisePan p .collect r.raiseProfile .sequencer (toStep .raisingNew a) = (b, answer))

include record new raised

theorem enterRaisingNew_of_refused {reason : AbortReason} {detail : Option AbortDetail}
    (refused : raiseRefusalReason answer = some (reason, detail)) :
    enterRaisingNew left passed a = abort reason detail left (passed ++ [.raisingNew]) b := by
  have entered : targetRecord (toStep .raisingNew a).s = some r := record
  have still : (toStep .raisingNew a).s.co.newPan = some p := new
  simp only [enterRaisingNew, entered, still, raised, refused]

theorem enterRaisingNew_of_taken (taken : raiseRefusalReason answer = none) : enterRaisingNew left passed a =
    if newPanUp b.s then enterVerifying left (passed ++ [.raisingNew]) b else reportStep left passed b := by
  have entered : targetRecord (toStep .raisingNew a).s = some r := record
  have still : (toStep .raisingNew a).s.co.newPan = some p := new
  simp only [enterRaisingNew, entered, still, raised, taken]

end

theorem enterClosing_of_refused {reason : AbortReason} {detail : Option AbortDetail}
    (asked : seqMove .mb .closed (toStep .closing a) = (b, some (reason, detail))) :
    enterClosing left passed a = abort reason detail left (passed ++ [.closing]) b := by
  simp only [enterClosing, asked]

/-- R147: CLOSING is not passed through, for the move that the sequencer asks for is in flight. -/
theorem enterClosing_of_asked (asked : seqMove .mb .closed (toStep .closing a) = (b, none)) :
    enterClosing left passed a = reportStep left passed b := by
  have moving : ¬ closingOver b.s = true := fun settled => seqMove_moving asked ((reportedIdle_iff b.s .mb .closed).1 settled).2
  simp only [enterClosing, asked, if_neg moving]

end

/-! ## Events in a step (R139 to R142, R145, R147, R151) -/

section
variable {a : Act}

theorem coSwitch_of_opening (step : a.s.co.step = .opening) :
    coSwitch a = if a.s.sg.mb.reported = .opened then enterLoweringOld .opening [] a else a := by
  simp only [coSwitch, step]

/-- R141, R148: MB is looked at before the moves of SELECTING (assumption log 60). -/
theorem coSwitch_of_selecting (step : a.s.co.step = .selecting) : coSwitch a =
    if mbEngaged a.s then abort .mbClosed none .selecting [] a
    else if selectingOver a.s then leaveSelecting .selecting [] a else a := by
  simp only [coSwitch, step]

theorem coSwitch_of_closing (step : a.s.co.step = .closing) : coSwitch a =
    if a.s.sg.mb.target = some .opened then abort .mbOpened none .closing [] a
    else if closingOver a.s then endChangeover .done none .closing [] a else a := by
  simp only [coSwitch, step]

theorem coSwitch_of_aborting (step : a.s.co.step = .aborting) :
    coSwitch a = if abortOver a.s then finishAbort .aborting [] a else a := by
  simp only [coSwitch, step]

theorem testAwaitRaise_of_reached (step : a.s.co.step = .awaitRaise) (reached : raiseReached a.s = true) :
    testAwaitRaise a = enterRaisingNew .awaitRaise [] a := (if_pos step).trans (if_pos reached)

theorem testAwaitRaise_of_ahead (step : a.s.co.step = .awaitRaise) (ahead : raiseReached a.s = false) :
    testAwaitRaise a = a.modCo fun c => { c with raiseTimer := raiseTime a.s } :=
  (if_pos step).trans (if_neg (Bool.eq_false_iff.1 ahead))

/-- A Pan Record that changed to another state than LOWERING takes its note by the step that stands. -/
theorem coPan_of_other {new : PanState} (p : Pan) (cause : Option LowerCause) (other : new ≠ .lowering) : coPan p new cause a =
    if a.s.co.step = .loweringOld then coPanLowered p new a
    else if a.s.co.step = .raisingNew ∧ newPanUp a.s then enterVerifying .raisingNew [] a
    else if a.s.co.step = .aborting ∧ abortOver a.s then finishAbort .aborting [] a
    else a := if_neg fun lowering => other lowering.1

theorem coPan_of_raisingNew {new : PanState} (p : Pan) (cause : Option LowerCause) (other : new ≠ .lowering)
    (step : a.s.co.step = .raisingNew) : coPan p new cause a = if newPanUp a.s then enterVerifying .raisingNew [] a else a := by
  simp [coPan_of_other p cause other, step]

theorem coPan_of_aborting {new : PanState} (p : Pan) (cause : Option LowerCause) (other : new ≠ .lowering)
    (step : a.s.co.step = .aborting) : coPan p new cause a = if abortOver a.s then finishAbort .aborting [] a else a := by
  simp [coPan_of_other p cause other, step]

theorem coPanLowered_of_unawaited {p : Pan} (new : PanState) (unawaited : p ∉ a.s.co.awaited) : coPanLowered p new a = a :=
  if_neg (by simpa using unawaited)

theorem coPanLowered_of_fault {p : Pan} (awaited : p ∈ a.s.co.awaited) :
    coPanLowered p .fault a = abort .panFault none .loweringOld [] a := (if_pos (by simpa using awaited)).trans (if_pos rfl)

theorem coPanLowered_of_awaited {p : Pan} {new : PanState} (awaited : p ∈ a.s.co.awaited) (whole : new ≠ .fault) :
    coPanLowered p new a =
      (let still := a.modCo fun c => { c with awaited := c.awaited.filter fun q => (panOf a.s q).state == .lowering }
       if still.s.co.awaited.isEmpty then enterSelecting .loweringOld [] still else still) :=
  (if_pos (by simpa using awaited)).trans (if_neg whole)

end

/-- Settles O42: the requests by what refuses them, each entry by its request and its end condition, and each event by the step in
which it finds the changeover. -/
theorem changeoverStepsAreEnteredAndLeft : Obligations.ChangeoverStepsAreEnteredAndLeft := by
  refine ⟨⟨raiseReached_iff, raiseTime_eq_some_iff, fun s p => PanRecord.collecting_iff _⟩,
    ⟨fun a b d target r asked => ⟨?_, fun f e => seqMove_of_refused (e ▸ asked) rfl, fun e => seqMove_of_refused (e ▸ asked) rfl,
      fun e => seqMove_of_refused (e ▸ asked) rfl, fun e => seqMove_of_refused (e ▸ asked) rfl⟩, fun result failed => ?_⟩,
    fun a left passed => ?_, ⟨fun x => rfl, fun d target rest x b refusal => ?_⟩, fun a => ?_⟩
  · rintro (rfl | rfl) <;> exact seqMove_of_asked asked rfl
  · cases result <;> simp [raiseRefusalReason]
  · intro entered waits c
    refine ⟨fun opened idle => enterOpening_of_opened ((reportedIdle_iff a.s .mb .opened).2 ⟨opened, idle⟩),
      fun unopened b refusal asked => ?_, fun target r aim record => ?_, fun target r b refusal aim record => ?_,
      enterAwaitRaise_of_reached, enterAwaitRaise_of_ahead, fun target r p b answer aim record new raised => ?_,
      fun b refusal asked => ⟨fun reason detail e => enterClosing_of_refused (e ▸ asked), fun e => enterClosing_of_asked (e ▸ asked)⟩⟩
    · have away : ¬ reportedIdle a.s .mb .opened = true := by
        rw [reportedIdle_iff, not_and_or]
        exact unopened
      exact ⟨fun reason detail e => enterOpening_of_refused away (e ▸ asked),
        fun e opened => (enterOpening_of_asked away (e ▸ asked)).trans (if_pos opened),
        fun e unreported => (enterOpening_of_asked away (e ▸ asked)).trans (if_neg unreported)⟩
    · intro kept decided lower lowered awaited asked
      have same : oldAsked (keptPanFor a.s r) (panDecided (keptPanFor a.s r) r a) = asked := by
        simp only [oldAsked, pansInOrder, List.foldl_cons, List.foldl_nil, lowerOld_eq]
        rfl
      have entry := enterLoweringOld_of_record (left := left) (passed := passed) (targetRecord_of_some aim record)
      rw [same] at entry
      exact ⟨fun remain => entry.trans (if_neg (mt List.isEmpty_iff.1 remain)),
        fun empty => entry.trans (if_pos (List.isEmpty_iff.2 empty))⟩
    · intro goals settled passed' asked
      have same : goals = selectingGoals a.s r := (selectingGoals_eq a.s r).symm
      have stands := targetRecord_of_some aim record
      rw [same] at asked
      refine ⟨fun reason detail e => enterSelecting_of_refused stands (e ▸ asked), fun e unsettled => ?_, fun e done kept => ?_,
        fun e done unkept => ?_⟩
      all_goals refine (enterSelecting_of_asked stands (e ▸ asked)).trans ?_
      · exact if_neg ((selectingOver_iff b.s).not.2 unsettled)
      · exact (if_pos ((selectingOver_iff b.s).2 done)).trans (leaveSelecting_of_kept kept)
      · exact (if_pos ((selectingOver_iff b.s).2 done)).trans (leaveSelecting_of_unkept unkept)
    · have stands := targetRecord_of_some aim record
      exact ⟨fun reason detail refused => enterRaisingNew_of_refused stands new raised refused, fun taken still =>
        ⟨fun low => (enterRaisingNew_of_taken stands new raised taken).trans (if_neg ((newPanUp_of_some still).not.2 low)),
          fun up => (enterRaisingNew_of_taken stands new raised taken).trans (if_pos ((newPanUp_of_some still).2 up))⟩⟩
  · intro there
    exact ⟨fun at' => askMoves_of_there ((reportedIdle_iff x.s d target).2 at'),
      fun away => askMoves_of_asked ((reportedIdle_iff x.s d target).not.2 away)⟩
  · intro c mb ended engaged settled aborted timer
    have disengaged (free : ¬ engaged) : ¬ mbEngaged a.s = true := by
      rw [mbEngaged_iff, Option.isSome_iff_ne_none]
      exact free
    have finished (reason : AbortReason) (led : c.abortReason = some reason) :
        finishAbort .aborting [] a = ended (.aborted reason) .aborting := finishAbort_of_reason _ _ led
    refine ⟨fun step => ⟨fun opened => ?_, fun unreported => ?_⟩, fun step free => ?_, fun step => ⟨fun opens => ?_,
      fun stays closed idle => ?_, fun stays unclosed => ?_⟩, fun step => ⟨fun reason led done => ?_, fun goesOn => ?_⟩,
      fun step => ⟨testAwaitRaise_of_reached step, testAwaitRaise_of_ahead step⟩, fun step => if_neg step, rfl,
      fun p new cause other => ?_⟩
    · exact (coSwitch_of_opening step).trans (if_pos opened)
    · exact (coSwitch_of_opening step).trans (if_neg unreported)
    · have looks := (coSwitch_of_selecting step).trans (if_neg (disengaged free))
      refine ⟨fun unsettled => ?_, fun done kept => ?_, fun done unkept => ?_⟩
      · exact looks.trans (if_neg ((selectingOver_iff a.s).not.2 unsettled))
      · exact (looks.trans (if_pos ((selectingOver_iff a.s).2 done))).trans (leaveSelecting_of_kept kept)
      · exact (looks.trans (if_pos ((selectingOver_iff a.s).2 done))).trans (leaveSelecting_of_unkept unkept)
    · exact (coSwitch_of_closing step).trans (if_pos opens)
    · exact ((coSwitch_of_closing step).trans (if_neg stays)).trans (if_pos ((reportedIdle_iff a.s .mb .closed).2 ⟨closed, idle⟩))
    · exact ((coSwitch_of_closing step).trans (if_neg stays)).trans (if_neg ((reportedIdle_iff a.s .mb .closed).not.2 unclosed))
    · exact ((coSwitch_of_aborting step).trans (if_pos ((abortOver_iff a.s).2 done))).trans (finished reason led)
    · exact (coSwitch_of_aborting step).trans (if_neg ((abortOver_iff a.s).not.2 goesOn))
    · intro note lowering
      have changed : new ≠ .lowering := by
        rintro rfl
        simp at other
      have inLowering (step : c.step = .loweringOld) : takeNote note a = coPanLowered p new a :=
        (coPan_of_other p cause changed).trans (if_pos step)
      refine ⟨fun step unawaited => ?_, fun step awaited fault => ?_, fun step awaited whole remain => ?_,
        fun step awaited whole empty => ?_, fun q step raises => ⟨fun up => ?_, fun low => ?_⟩, fun reason step led done => ?_,
        fun step goesOn => ?_⟩
      · exact (inLowering step).trans (coPanLowered_of_unawaited new unawaited)
      · subst fault
        exact (inLowering step).trans (coPanLowered_of_fault awaited)
      · exact ((inLowering step).trans (coPanLowered_of_awaited awaited whole)).trans (if_neg (mt List.isEmpty_iff.1 remain))
      · refine ((inLowering step).trans (coPanLowered_of_awaited awaited whole)).trans ((if_pos (List.isEmpty_iff.2 empty)).trans ?_)
        change enterSelecting .loweringOld [] (a.modCo fun c => { c with awaited := lowering }) = _
        rw [empty]
      · exact (coPan_of_raisingNew p cause changed step).trans (if_pos ((newPanUp_of_some raises).2 up))
      · exact (coPan_of_raisingNew p cause changed step).trans (if_neg ((newPanUp_of_some raises).not.2 low))
      · exact ((coPan_of_aborting p cause changed step).trans (if_pos ((abortOver_iff a.s).2 done))).trans (finished reason led)
      · exact (coPan_of_aborting p cause changed step).trans (if_neg ((abortOver_iff a.s).not.2 goesOn))

end Sys2Proof.Machine

namespace Sys2Proof.Machine

/-! O43: what refuses a CHANGEOVER_START, the NOOP, and every accepted start (R53, R134 to R136, R139). -/

/-! ## The NOOP (R135) -/

/-- A field that names a value is tested by it. -/
theorem Coded.test_iff {α : Type} (f : α → Bool) (c : Coded α) : c.test f = true ↔ ∃ v, c = .named v ∧ f v = true := by
  cases c <;> simp [Coded.test, Coded.value]

theorem selector_reported_iff (c : Coded Selector) (reported : Pos) : (c.test fun sel => reported == selectorPos sel) = true ↔
    c = .named .ac ∧ reported = .ac ∨ c = .named .dc ∧ reported = .dc := by
  rw [Coded.test_iff]
  refine ⟨?_, ?_⟩
  · rintro ⟨sel, rfl, at'⟩
    cases sel <;> simpa [selectorPos] using at'
  · rintro (⟨rfl, rfl⟩ | ⟨rfl, rfl⟩)
    · exact ⟨.ac, rfl, rfl⟩
    · exact ⟨.dc, rfl, rfl⟩

theorem panSet_holds_iff (c : Coded PanSet) (p : Pan) : (c.test fun set => set.holds p) = true ↔
    c = .named .aOrB ∨ c = .named .a ∧ p = .a ∨ c = .named .b ∧ p = .b := by
  rw [Coded.test_iff]
  refine ⟨?_, ?_⟩
  · rintro ⟨set, rfl, holds⟩
    cases set <;> cases p <;> simp_all [PanSet.holds]
  · rintro (rfl | ⟨rfl, rfl⟩ | ⟨rfl, rfl⟩)
    · exact ⟨.aOrB, rfl, by cases p <;> rfl⟩
    · exact ⟨.a, rfl, rfl⟩
    · exact ⟨.b, rfl, rfl⟩

theorem mem_pansInOrder (p : Pan) : p ∈ pansInOrder := by cases p <;> simp [pansInOrder]

/-- R135: what a start finds as its target wants it, the pantograph apart. -/
def StandsAsTarget (s : State) (target : Nat) (r : SystemRecord) : Prop :=
  s.lm.confirmed = .system target
    ∧ (r.selector.test fun sel => s.sg.ss.reported == selectorPos sel) = true ∧ s.sg.mb.reported = .closed

theorem noopPan_of_stands {s : State} {target : Nat} {r : SystemRecord} (stands : StandsAsTarget s target r) :
    noopPan s target r = pansInOrder.find? fun p => (panOf s p).collecting && r.panSet.test fun set => set.holds p :=
  if_pos stands

theorem noopPan_of_not_stands {s : State} {target : Nat} {r : SystemRecord} (differs : ¬ StandsAsTarget s target r) :
    noopPan s target r = none := if_neg differs

theorem noopPan_eq_none_iff (s : State) (target : Nat) (r : SystemRecord) : noopPan s target r = none ↔
    ¬ (StandsAsTarget s target r ∧ ∃ p, ((panOf s p).collecting && r.panSet.test fun set => set.holds p) = true) := by
  by_cases stands : StandsAsTarget s target r
  · rw [noopPan_of_stands stands, List.find?_eq_none, not_and, not_exists]
    exact ⟨fun none _ p => none p (mem_pansInOrder p), fun none p _ => none stands p⟩
  · exact iff_of_true (noopPan_of_not_stands stands) fun both => stands both.1

theorem noopPan_eq_some {s : State} {target : Nat} {r : SystemRecord} {p : Pan} (found : noopPan s target r = some p) :
    StandsAsTarget s target r ∧ ((panOf s p).collecting && r.panSet.test fun set => set.holds p) = true := by
  by_cases stands : StandsAsTarget s target r
  · rw [noopPan_of_stands stands] at found
    exact ⟨stands, (List.find?_some found :)⟩
  · rw [noopPan_of_not_stands stands] at found
    cases found

/-! ## The checks of a start (R134) -/

section
variable {s : State} {target : Nat}

theorem startRefusal_of_standby (mode : s.vl.mode = .standby) : startRefusal s target = some .mode := by
  simp [startRefusal, mode]

variable (mode : s.vl.mode = .run)

include mode

theorem startRefusal_of_busy (busy : s.co.step ≠ .idle) : startRefusal s target = some .busy := by
  simp [startRefusal, mode, busy]

variable (idle : s.co.step = .idle)

include idle

theorem startRefusal_of_unknown (unknown : systemRecord s target = none) : startRefusal s target = some .unknownSystem := by
  simp [startRefusal, mode, idle, unknown]

variable {r : SystemRecord} (record : systemRecord s target = some r)

include record

theorem startRefusal_of_absent (absent : rolePresent s .switchgear = false ∨ rolePresent s .line = false) :
    startRefusal s target = some .headAbsent := by
  obtain absent | absent := absent <;> simp [startRefusal, mode, idle, record, absent]

theorem startRefusal_of_ready (switchgear : rolePresent s .switchgear = true) (line : rolePresent s .line = true) :
    startRefusal s target = none := by
  simp [startRefusal, mode, idle, record, switchgear, line]

end

/-! ## A start (R135, R136) -/

section
variable {a : Act} {target : Nat} {raisePosition : Option Nat} {o : CoOrigin}

theorem startChangeover_of_refused {result : Result} (refused : startRefusal a.s target = some result) :
    startChangeover target raisePosition o a = (a, result) := by
  simp only [startChangeover, refused]

theorem startChangeover_of_noop {r : SystemRecord} {p : Pan} (passed : startRefusal a.s target = none)
    (record : systemRecord a.s target = some r) (noop : noopPan a.s target r = some p) :
    startChangeover target raisePosition o a = (takeNoop target raisePosition o p a, .noop) := by
  simp only [startChangeover, passed, record, Option.bind_some, noop]

theorem startChangeover_of_taken {r : SystemRecord} (passed : startRefusal a.s target = none)
    (record : systemRecord a.s target = some r) (differs : noopPan a.s target r = none) :
    startChangeover target raisePosition o a = (takeStart target raisePosition o a, .accepted) := by
  simp only [startChangeover, passed, record, Option.bind_some, differs]

/-- R136: the Changeover Record of an accepted start. -/
def startTaken (target : Nat) (raisePosition : Option Nat) (o : CoOrigin) (a : Act) : Act :=
  a.modCo fun c =>
    { c with
      target := some target, origin := some o, raisePosition, usable := some true, oldSystem := confirmedCode a.s, newPan := none,
      kept := false, abortReason := none, detail := none, abortStep := none }

theorem takeStart_eq : takeStart target raisePosition o a =
    enterOpening .idle [] (lowerScrape (lowerScrape (startTaken target raisePosition o a) .a) .b) := rfl

theorem lowerScrape_of_none {p : Pan} (none : ¬ ((panOf a.s p).raised = true ∧ (panOf a.s p).role = some .scrape)) :
    lowerScrape a p = a := if_neg none

end

/-- The request as its owner answers it. -/
theorem execChangeoverStart_of_ready {s : State} {target : Nat} {raisePosition : Option Nat} {a : Act} {r : Result} (seq : Nat)
    (ready : Ready s) (owned : startChangeover target raisePosition .vehicle { s := framed s } = (a, r)) :
    exec (.changeoverStart seq target raisePosition) s = .next (complete (reply seq 0x20 { result := r } a)).s :=
  perform_request seq 0x20 (plain (startChangeover target raisePosition .vehicle)) ready (plain_eq _ _ owned)

/-- A start that tells no block, at a busy transmitter, leaves what it has written and its reply. -/
theorem execChangeoverStart_of_quiet {s t : State} {target : Nat} {raisePosition : Option Nat} {r : Result} (seq : Nat)
    (ready : Ready s) (sending : Sending t)
    (owned : startChangeover target raisePosition .vehicle { s := framed s } = ({ s := t }, r)) :
    exec (.changeoverStart seq target raisePosition) s = .next (t.replied seq 0x20 r) :=
  perform_request_of_quiet seq 0x20 (plain (startChangeover target raisePosition .vehicle)) ready sending (plain_eq _ _ owned)

/-- R139: a start with MB reported CLOSED and IDLE, and no scrape pantograph up, asks MB to open. -/
theorem takeStart_of_closed {a : Act} {target : Nat} {raisePosition : Option Nat} {o : CoOrigin} {d : DirectoryRecord}
    (head : rolePresent a.s .switchgear = true) (directory : directoryOfRole a.s .switchgear = some d)
    (closed : a.s.sg.mb.reported = .closed) (idle : a.s.sg.mb.move = none)
    (none : ∀ p, ¬ ((panOf a.s p).raised = true ∧ (panOf a.s p).role = some .scrape)) :
    takeStart target raisePosition o a =
      reportStep .idle [] (moveSent .mb .opened d.port (toStep .opening (startTaken target raisePosition o a))) := by
  have asked := seqMove_of_sent (d := .mb) (target := .opened) (a := toStep .opening (startTaken target raisePosition o a))
    (by decide) idle (judge_mbOpen _ _) head directory
  have away : ¬ reportedIdle a.s .mb .opened = true := fun opened =>
    absurd (closed.symm.trans ((reportedIdle_iff a.s .mb .opened).1 opened).1) (by decide)
  have still : a.s.sg.mb.reported ≠ .opened := by simp [closed]
  have scrapeless (p : Pan) : lowerScrape (startTaken target raisePosition o a) p = startTaken target raisePosition o a :=
    lowerScrape_of_none (none p)
  rw [takeStart_eq, scrapeless, scrapeless]
  exact (enterOpening_of_asked (a := startTaken target raisePosition o a) away asked).trans (if_neg still)

/-- R53: an orderly cause takes a pantograph raised in role SCRAPE into VENTING at once. -/
theorem lowerPan_of_scrape {a : Act} {p : Pan} {d : DirectoryRecord} (cause : LowerCause) (quiet : Bool)
    (raised : (panOf a.s p).state = .raising ∨ (panOf a.s p).state = .up) (role : (panOf a.s p).role = some .scrape)
    (present : rolePresent a.s (panRole p) = true) (directory : directoryOfRole a.s (panRole p) = some d) :
    lowerPan p cause .orderly quiet a =
      (let begun := loweringBegun p cause .venting none (panOf a.s p).vent quiet a
       ({ begun with s := begun.s.sentOn d.port (ventCommand p).payload }, true)) := by
  have free : ¬ ((panOf a.s p).role = some .collect ∧ mbEngaged a.s = true) := by simp [role]
  have vents := presentVent_of_present p (loweringBegun p cause .venting none (panOf a.s p).vent quiet a) d present directory
  rw [lowerPan_of_raised p cause .orderly quiet a raised, beginLowering_orderly p cause quiet a free, vents]

/-- The system code that is confirmed, if one is. -/
theorem confirmedCode_eq (s : State) : confirmedCode s =
    match s.lm.confirmed with
    | .system c => some c
    | _ => none := by
  unfold confirmedCode
  cases s.lm.confirmed <;> rfl

/-- Settles O43: the NOOP by what the start finds, the checks in their order (`startRefusal_of_standby` to `startRefusal_of_ready`),
the accepted start by its entry to OPENING, and the scrape pantograph by its orderly lowering. -/
theorem changeoverStartByItsChecks : Obligations.ChangeoverStartByItsChecks := by
  refine ⟨fun s target r => ?_, fun s seq target raisePosition ready sending => ?_,
    fun s seq target raisePosition r d ready mode idle record switchgear line directory differs closed still low => ?_,
    fun s seq target raisePosition o r mode idle record switchgear line differs => ?_, fun a p d raised role present directory => ?_⟩
  · intro there serves
    have stands : StandsAsTarget s target r ↔ there := by rw [StandsAsTarget, selector_reported_iff]
    have served (p : Pan) : ((panOf s p).collecting && r.panSet.test fun set => set.holds p) = true ↔ serves p := by
      rw [Bool.and_eq_true, PanRecord.collecting_iff, panSet_holds_iff, and_assoc]
    refine ⟨?_, fun p found => ?_⟩
    · rw [noopPan_eq_none_iff, stands]
      simp only [served]
    · obtain ⟨as, serving⟩ := noopPan_eq_some found
      exact ⟨stands.1 as, (served p).1 serving⟩
  · intro answered
    have refused {result : Result} (refusal : startRefusal s target = some result) : answered result :=
      execChangeoverStart_of_quiet seq ready (t := framed s) sending (startChangeover_of_refused refusal)
    refine ⟨fun mode => refused (startRefusal_of_standby mode), fun mode busy => refused (startRefusal_of_busy mode busy),
      fun mode idle => ⟨fun unknown => refused (startRefusal_of_unknown mode idle unknown), fun r sel record =>
        ⟨fun absent => refused (startRefusal_of_absent mode idle record absent),
          fun p switchgear line selector confirmed ss mb found => ?_⟩⟩⟩
    have stands : StandsAsTarget (framed s) target r :=
      ⟨confirmed, (Coded.test_iff _ _).2 ⟨sel, selector, beq_iff_eq.2 ss⟩, mb⟩
    have owned := startChangeover_of_noop (raisePosition := raisePosition) (o := .vehicle) (a := { s := framed s })
      (startRefusal_of_ready mode idle record switchgear line) record ((noopPan_of_stands stands).trans found)
    refine (execChangeoverStart_of_quiet seq ready (t := (takeNoop target raisePosition .vehicle p { s := framed s }).s) sending
      owned).trans ?_
    rw [← confirmed, ← mb]
    rfl
  · intro timeout
    have owned := startChangeover_of_taken (raisePosition := raisePosition) (o := .vehicle) (a := { s := framed s })
      (startRefusal_of_ready mode idle record switchgear line) record differs
    rw [execChangeoverStart_of_ready seq ready owned, takeStart_of_closed (a := { s := framed s }) switchgear directory closed still low]
    rfl
  · intro begun lower
    have begins (o : CoOrigin) (x : State) : startTaken target raisePosition o { s := x } = begun o x := by
      simp only [startTaken, confirmedCode_eq]
      rfl
    have starts (o : CoOrigin) (x : State) :
        takeStart target raisePosition o { s := x } = enterOpening .idle [] (lower .b (lower .a (begun o x))) := by
      simp only [takeStart_eq, begins, lowerScrape_eq]
      rfl
    have accepted (o : CoOrigin) (x : State) (passed : startRefusal x target = none) (same : systemRecord x target = some r)
        (other : noopPan x target r = none) : startChangeover target raisePosition o { s := x } =
          (enterOpening .idle [] (lower .b (lower .a (begun o x))), .accepted) := by
      rw [startChangeover_of_taken passed same other, starts]
    have passed := startRefusal_of_ready mode idle record switchgear line
    exact ⟨accepted o s passed record differs, fun ready =>
      execChangeoverStart_of_ready seq ready (accepted .vehicle (framed s) passed record differs)⟩
  · intro r
    rw [lowerPan_of_scrape .changeover true raised role present directory]
    rfl

end Sys2Proof.Machine

namespace Sys2Proof.Machine

/-! O44: the raise timer, CHANGEOVER_PROCEED, VERIFYING and CLOSING (R137, R142, R144, R146, R147). -/

/-! ## The deadlines (R142, R146) -/

section
variable {s : State} {t : Nat} (powered : s.powered = true)

include powered

theorem execRaiseTimerExpiry_of_running (timer : s.co.raiseTimer = some t) :
    exec .raiseTimerExpiry s = .next (complete (testAwaitRaise { s := { s with now := max s.now t } })).s := by
  change perform (atDeadline s.co.raiseTimer testAwaitRaise) s = _
  rw [timer, perform_atDeadline t _ s powered]

theorem execVerifyDeadlineExpiry_of_running (deadline : s.co.verifyDeadline = some t) :
    exec .verifyDeadlineExpiry s = .next (complete (verifyTimedOut { s := { s with now := max s.now t } })).s := by
  change perform (atDeadline s.co.verifyDeadline verifyTimedOut) s = _
  rw [deadline, perform_atDeadline t _ s powered]

end

/-! ## CHANGEOVER_PROCEED (R144) -/

section
variable {a : Act}

theorem proceedChangeover_of_awaitRaise (step : a.s.co.step = .awaitRaise) :
    proceedChangeover a = (enterRaisingNew .awaitRaise [] a, .accepted) := by
  simp only [proceedChangeover, step]

theorem proceedChangeover_of_halted (step : a.s.co.step = .halted) :
    proceedChangeover a = (enterVerifying .halted [] a, .accepted) := by
  simp only [proceedChangeover, step]

theorem proceedChangeover_of_other (await : a.s.co.step ≠ .awaitRaise) (halted : a.s.co.step ≠ .halted) :
    proceedChangeover a = (a, .notActive) := by
  unfold proceedChangeover
  split
  · exact absurd ‹_› await
  · exact absurd ‹_› halted
  all_goals rfl

end

theorem execChangeoverProceed_of_ready {s : State} {a : Act} {r : Result} (seq : Nat) (ready : Ready s)
    (owned : proceedChangeover { s := framed s } = (a, r)) :
    exec (.changeoverProceed seq) s = .next (complete (reply seq 0x21 { result := r } a)).s :=
  perform_request seq 0x21 (plain proceedChangeover) ready (plain_eq _ _ owned)

/-! ## The outcomes of VERIFYING (R146) -/

section
variable {s : State} {c : Nat}

theorem verdict_of_target (confirmed : s.lm.confirmed = .system c) (aim : s.co.target = some c) : verdict s = .confirmed := by
  simp only [verdict, confirmed, if_pos aim]

/-- R146: under a kept pan the old system may still be confirmed. -/
theorem verdict_of_old (confirmed : s.lm.confirmed = .system c) (other : s.co.target ≠ some c) (kept : s.co.kept = true)
    (old : s.co.oldSystem = some c) : verdict s = .wait := by
  simp only [verdict, confirmed, if_neg other, if_pos (And.intro kept old)]

theorem verdict_of_wrong (confirmed : s.lm.confirmed = .system c) (other : s.co.target ≠ some c)
    (new : ¬ (s.co.kept = true ∧ s.co.oldSystem = some c)) : verdict s = .stop .wrongSystem := by
  simp only [verdict, confirmed, if_neg other, if_neg new]

theorem verdict_of_over (confirmed : s.lm.confirmed = .over) : verdict s = .stop .over := by simp only [verdict, confirmed]

theorem verdict_of_uncertain (confirmed : s.lm.confirmed = .dead ∨ s.lm.confirmed = .unknown ∨ s.lm.confirmed = .noSense) :
    verdict s = .wait := by
  obtain confirmed | confirmed | confirmed := confirmed <;> simp only [verdict, confirmed]

end

/-! ## VERIFYING (R146) -/

/-- R146: VERIFYING is entered, with its deadline. -/
def verifyingEntered (a : Act) : Act :=
  (toStep .verifying a).modCo fun c => { c with verifyDeadline := some (a.s.now + (settings a.s).verifyTimeout) }

theorem enterVerifying_eq (left : CoStep) (passed : List CoStep) (a : Act) : enterVerifying left passed a =
    match verdict a.s with
    | .wait => reportStep left passed (verifyingEntered a)
    | .confirmed => enterClosing left (passed ++ [.verifying]) (verifyingEntered a)
    | .stop reason => abort reason none left (passed ++ [.verifying]) (verifyingEntered a) := rfl

theorem testVerifying_of_verifying {a : Act} (step : a.s.co.step = .verifying) : testVerifying a =
    match verdict a.s with
    | .wait => a
    | .confirmed => enterClosing .verifying [] a
    | .stop reason => abort reason none .verifying [] a := if_pos step

/-! ## CLOSING (R147) -/

/-- R147: the breaker is asked to close, and CLOSING waits for it. -/
theorem enterClosing_of_sent {a : Act} {d : DirectoryRecord} (left : CoStep) (passed : List CoStep)
    (head : rolePresent a.s .switchgear = true) (directory : directoryOfRole a.s .switchgear = some d)
    (idle : a.s.sg.mb.move = none) (admitted : judge a.s (moveCommand .mb .closed .sequencer) = none) :
    enterClosing left passed a = reportStep left passed (moveSent .mb .closed d.port (toStep .closing a)) :=
  enterClosing_of_asked (seqMove_of_sent (a := toStep .closing a) (by decide) idle
    ((judge_sequencer_of_co a.s _ .mb .closed).trans admitted) head directory)

/-- Settles O44: the raise timer by whether the position is reached, PROCEED by the step, and VERIFYING by its verdict, of which each
outcome of the table has its lemma (`verdict_of_target` to `verdict_of_uncertain`). -/
theorem changeoverWaitsAndProceeds : Obligations.ChangeoverWaitsAndProceeds := by
  refine ⟨raiseReached_iff, fun s seq t => ⟨fun powered timer step => ?_, fun ready => ⟨fun step => ?_, fun step => ?_,
      fun await halted sending => ?_⟩⟩,
    ⟨fun s t powered deadline step => ?_, fun a left wait => ?_, fun s => ⟨fun c confirmed => ⟨verdict_of_target confirmed,
      verdict_of_old confirmed, verdict_of_wrong confirmed⟩, verdict_of_over, verdict_of_uncertain⟩⟩,
    fun a left => ?_, fun a left passed d head directory idle admitted => ?_⟩
  · intro s'
    refine ⟨fun reached => ?_, fun ahead sending => ?_⟩
    · rw [execRaiseTimerExpiry_of_running powered timer, testAwaitRaise_of_reached (a := { s := s' }) step reached]
    · rw [execRaiseTimerExpiry_of_running powered timer, testAwaitRaise_of_ahead (a := { s := s' }) step ahead,
        complete_of_quiet _ rfl sending]
      rfl
  · exact execChangeoverProceed_of_ready seq ready (proceedChangeover_of_awaitRaise (a := { s := framed s }) step)
  · exact execChangeoverProceed_of_ready seq ready (proceedChangeover_of_halted (a := { s := framed s }) step)
  · exact perform_request_of_quiet seq 0x21 (plain proceedChangeover) ready (t := framed s) sending
      (plain_eq _ _ (proceedChangeover_of_other (a := { s := framed s }) await halted))
  · have halts : verifyTimedOut { s := { s with now := max s.now t } } =
        reportStep .verifying [] (toStep .halted { s := { s with now := max s.now t } }) := if_pos step
    rw [execVerifyDeadlineExpiry_of_running powered deadline, halts]
    rfl
  · rw [enterVerifying_eq, wait]
    rfl
  · intro entered
    refine ⟨fun confirmed => ?_, fun reason stop => ?_, fun step => ⟨fun confirmed => ?_, fun reason stop => ?_, fun wait => ?_⟩,
      fun step => if_neg step⟩
    · rw [enterVerifying_eq, confirmed]
      rfl
    · rw [enterVerifying_eq, stop]
      rfl
    · rw [takeNote, testVerifying_of_verifying step, confirmed]
    · rw [takeNote, testVerifying_of_verifying step, stop]
    · rw [takeNote, testVerifying_of_verifying step, wait]
  · intro timeout
    rw [enterClosing_of_sent left passed head directory idle admitted]
    exact congrArg (Act.mk _) (List.append_assoc a.notes _ _)

end Sys2Proof.Machine

namespace Sys2Proof.Machine

/-! O45: CHANGEOVER_ABORT, the acts of an abort, and the events that abort (R139, R141, R147 to R153). -/

/-! ## The acts of an abort (R150) -/

/-- R150: ABORTING is entered with the reason, the detail and the step in which the abort came. -/
def abortBegun (reason : AbortReason) (detail : Option AbortDetail) (a : Act) : Act :=
  toStep .aborting (a.modCo fun c =>
    { c with abortReason := some reason, detail, abortStep := some a.s.co.step, usable := none })

/-- R150: what an abort asks of the new pantograph, of MB and of each RAISING pantograph, in this order. -/
def abortAsked (reason : AbortReason) (detail : Option AbortDetail) (a : Act) : Act :=
  abortRaise (abortRaise (abortOpen (abortWrongPan reason (abortBegun reason detail a))) .a) .b

theorem abort_eq (reason : AbortReason) (detail : Option AbortDetail) (left : CoStep) (passed : List CoStep) (a : Act) :
    abort reason detail left passed a =
      if abortOver (abortAsked reason detail a).s then finishAbort left (passed ++ [.aborting]) (abortAsked reason detail a)
      else reportStep left passed (abortAsked reason detail a) := rfl

theorem abortWrongPan_eq (reason : AbortReason) (a : Act) : abortWrongPan reason a =
    match a.s.co.newPan with
    | none => a
    | some p => if reason = .wrongSystem then (lowerPan p .changeover .orderly true a).1 else a := by
  unfold abortWrongPan
  cases a.s.co.newPan <;> cases reason <;> rfl

theorem abortOpen_eq (a : Act) : abortOpen a =
    if a.s.sg.mb.reported = .opened ∧ a.s.sg.mb.move = none ∨ rolePresent a.s .switchgear = false then a
    else (moveRequest .mb .opened .sequencer a).1.modCo fun c => { c with requested := [(.mb, .opened)] } := by
  have there : (reportedIdle a.s .mb .opened || !rolePresent a.s .switchgear) = true ↔
      a.s.sg.mb.reported = .opened ∧ a.s.sg.mb.move = none ∨ rolePresent a.s .switchgear = false := by
    rw [Bool.or_eq_true, reportedIdle_iff, Bool.not_eq_true']
    rfl
  rw [abortOpen, requestMbOpen]
  simp only [there]

/-- What of the Changeover Record the acts of an abort leave as they are. -/
def Changeover.unasked (c : Changeover) : Changeover := { c with requested := [], awaited := [] }

theorem Changeover.eq_of_unasked {c d : Changeover} (same : c.unasked = d.unasked) : c.step = d.step
    ∧ c.abortReason = d.abortReason ∧ c.detail = d.detail ∧ c.abortStep = d.abortStep ∧ c.usable = d.usable :=
  ⟨(congrArg Changeover.step same :), (congrArg Changeover.abortReason same :), (congrArg Changeover.detail same :),
    (congrArg Changeover.abortStep same :), (congrArg Changeover.usable same :)⟩

theorem abortWrongPan_unasked (reason : AbortReason) (a : Act) :
    (abortWrongPan reason a).s.co.unasked = a.s.co.unasked := by
  rw [abortWrongPan_eq]
  split
  · rfl
  · split
    · exact congrArg Changeover.unasked (lowerPan_actuates _ .changeover .orderly true a).changeover
    · rfl

theorem abortOpen_unasked (a : Act) : (abortOpen a).s.co.unasked = a.s.co.unasked := by
  rw [abortOpen_eq]
  split
  · rfl
  · have kept := (moveRequest_actuates .mb .opened .sequencer a).changeover
    exact (congrArg Changeover.unasked kept :)

theorem abortRaise_unasked (a : Act) (p : Pan) : (abortRaise a p).s.co.unasked = a.s.co.unasked := by
  unfold abortRaise
  split
  · have kept := (lowerPan_actuates p .changeover .orderly true a).changeover
    exact (congrArg Changeover.unasked kept :)
  · rfl

theorem abortAsked_unasked (reason : AbortReason) (detail : Option AbortDetail) (a : Act) :
    (abortAsked reason detail a).s.co.unasked = (abortBegun reason detail a).s.co.unasked := by
  rw [abortAsked, abortRaise_unasked, abortRaise_unasked, abortOpen_unasked, abortWrongPan_unasked]

/-- R150: through its acts the abort keeps the reason, the detail and the step it came in, and stands in ABORTING. -/
theorem abortAsked_co (reason : AbortReason) (detail : Option AbortDetail) (a : Act) :
    (let c := (abortAsked reason detail a).s.co
     c.step = .aborting ∧ c.abortReason = some reason ∧ c.detail = detail ∧ c.abortStep = some a.s.co.step ∧ c.usable = none) := by
  exact Changeover.eq_of_unasked (abortAsked_unasked reason detail a)

/-! ## CHANGEOVER_ABORT (R152) -/

section
variable {a : Act}

theorem abortChangeover_of_idle (step : a.s.co.step = .idle) : abortChangeover a = (a, .notActive) := if_pos step

theorem abortChangeover_of_aborting (step : a.s.co.step = .aborting) : abortChangeover a = (a, .already) := by
  simp [abortChangeover, step]

theorem abortChangeover_of_progress (idle : a.s.co.step ≠ .idle) (aborting : a.s.co.step ≠ .aborting) :
    abortChangeover a = (abort .vehicle none a.s.co.step [] a, .accepted) := (if_neg idle).trans (if_neg aborting)

/-! ## The events that abort (R148, R149, R153) -/

theorem abortOnEvent_of_over (reason : AbortReason) (step : a.s.co.step = .idle ∨ a.s.co.step = .aborting) :
    abortOnEvent reason a = a := if_neg (by obtain step | step := step <;> simp [inProgress, step])

theorem abortOnEvent_of_progress (reason : AbortReason) (idle : a.s.co.step ≠ .idle) (aborting : a.s.co.step ≠ .aborting) :
    abortOnEvent reason a = abort reason none a.s.co.step [] a := if_pos (by simp [inProgress, idle, aborting])

/-- R148: MB is held open from LOWERING_OLD to HALTED. -/
theorem coSwitch_of_engaged (engaged : mbEngaged a.s = true)
    (held : a.s.co.step ∈ [CoStep.loweringOld, .selecting, .awaitRaise, .raisingNew, .verifying, .halted]) :
    coSwitch a = abort .mbClosed none a.s.co.step [] a := by
  simp only [List.mem_cons, List.not_mem_nil, or_false] at held
  obtain step | step | step | step | step | step := held <;> simp only [coSwitch, step, engaged, if_true]

/-- R149: a pantograph relied on that is lowered. -/
theorem coPan_of_relied {p : Pan} (cause : Option LowerCause) (relied : reliesOn a.s p = true)
    (lowered : (panOf a.s p).raised = false) :
    coPan p .lowering cause a = abort (lowerReason cause) none a.s.co.step [] a := if_pos ⟨rfl, relied, by simp [lowered]⟩

theorem coPan_of_unrelied {p : Pan} (new : PanState) (cause : Option LowerCause) (unrelied : ¬ reliesOn a.s p = true)
    (step : a.s.co.step ∉ [CoStep.loweringOld, .raisingNew, .aborting]) : coPan p new cause a = a := by
  simp only [List.mem_cons, List.not_mem_nil, or_false, not_or] at step
  simp [coPan, unrelied, step]

theorem abort_abortReason (reason : AbortReason) (detail : Option AbortDetail) (left : CoStep) (passed : List CoStep) :
    (abort reason detail left passed a).s.co.abortReason = some reason := by
  obtain ⟨-, led, -⟩ := abortAsked_co reason detail a
  rw [abort_eq]
  generalize abortAsked reason detail a = asked at led
  split <;> exact led

end

/-- R153: at the loss of the SWITCHGEAR head the abort may end at once, and keeps its reason. -/
theorem coRole_abortReason {a : Act} (idle : a.s.co.step ≠ .idle) (aborting : a.s.co.step ≠ .aborting) :
    (coRole .switchgear false a).s.co.abortReason = some .headLost := by
  have led := abort_abortReason (a := a) .headLost none a.s.co.step []
  simp only [coRole, abortOnEvent_of_progress .headLost idle aborting]
  generalize abort .headLost none a.s.co.step [] a = aborted at led
  split <;> exact led

/-! ## A move given up (R139, R141, R147, R151) -/

section
variable {a : Act}

theorem coGaveUp_of_opening (step : a.s.co.step = .opening) : coGaveUp .mb .opened a = abort .mbStuck none .opening [] a := by
  unfold coGaveUp
  rw [step]

theorem coGaveUp_of_closing (step : a.s.co.step = .closing) : coGaveUp .mb .closed a = abort .mbStuck none .closing [] a := by
  unfold coGaveUp
  rw [step]

theorem coGaveUp_of_selecting {d : Dev} (target : Pos) (step : a.s.co.step = .selecting) (device : d ∈ [Dev.ss, .isoA, .isoB]) :
    coGaveUp d target a = abort .switchgearFault none .selecting [] a := by
  simp only [List.mem_cons, List.not_mem_nil, or_false] at device
  unfold coGaveUp
  rw [step]
  obtain rfl | rfl | rfl := device <;> rfl

theorem coGaveUp_of_aborting (step : a.s.co.step = .aborting) :
    coGaveUp .mb .opened a = endChangeover (.aborted .mbStuck) a.s.co.abortReason .aborting [] a := by
  unfold coGaveUp
  rw [step]

/-- The moves whose giving up counts in a step: MB to OPEN in OPENING and ABORTING, MB to CLOSED in CLOSING, and those of SELECTING. -/
def OwnMove (step : CoStep) (d : Dev) (target : Pos) : Prop :=
  (step = .opening ∨ step = .aborting) ∧ d = .mb ∧ target = .opened ∨ step = .closing ∧ d = .mb ∧ target = .closed
    ∨ step = .selecting ∧ d ∈ [Dev.ss, .isoA, .isoB]

section
variable {step : CoStep} {d : Dev} {target : Pos}

theorem not_ownMove_of_step (other : step ∉ [CoStep.opening, .closing, .selecting, .aborting]) : ¬ OwnMove step d target := by
  rintro (⟨rfl | rfl, -⟩ | ⟨rfl, -⟩ | ⟨rfl, -⟩) <;> simp at other

theorem not_ownMove_es : ¬ OwnMove step .es target := by simp [OwnMove]

theorem not_ownMove_selecting_mb : ¬ OwnMove .selecting .mb target := by simp [OwnMove]

theorem not_ownMove_of_device (among : step ∈ [CoStep.opening, .closing, .aborting]) (other : d ≠ .mb) : ¬ OwnMove step d target := by
  rintro (⟨-, mb, -⟩ | ⟨-, mb, -⟩ | ⟨rfl, -⟩)
  · exact other mb
  · exact other mb
  · simp at among

theorem not_ownMove_of_not_opened (among : step ∈ [CoStep.opening, .aborting]) (away : target ≠ .opened) :
    ¬ OwnMove step d target := by
  rintro (⟨-, -, opened⟩ | ⟨rfl, -⟩ | ⟨rfl, -⟩)
  · exact away opened
  · simp at among
  · simp at among

theorem not_ownMove_closing (away : target ≠ .closed) : ¬ OwnMove .closing d target := by simp [OwnMove, away]

end

theorem coGaveUp_of_other {d : Dev} {target : Pos} (other : ¬ OwnMove a.s.co.step d target) : coGaveUp d target a = a := by
  unfold coGaveUp
  split
  · exact absurd (.inl ⟨.inl ‹_›, rfl, rfl⟩) other
  · exact absurd (.inr (.inl ⟨‹_›, rfl, rfl⟩)) other
  · exact absurd (.inl ⟨.inr ‹_›, rfl, rfl⟩) other
  · exact absurd (.inr (.inr ⟨‹_›, by decide⟩)) other
  · exact absurd (.inr (.inr ⟨‹_›, by decide⟩)) other
  · exact absurd (.inr (.inr ⟨‹_›, by decide⟩)) other
  · rfl

end

/-! ## The two notes that may come in either order (R153) -/

/-- Without a choice the oldest note is taken (assumption log 3). -/
theorem takeNext_of_oldest {a : Act} {n : Note} {rest : List Note} (notes : a.notes = n :: rest) (choices : a.s.choices = []) :
    takeNext a = takeNote n { a with notes := rest } := by
  have picked : pickOrder inOrder 1 a.s.choices a.notes = (n :: rest, []) := by
    rw [notes, choices]
    rfl
  have unchosen : ({ a with notes := rest } : Act).setChoices [] = { a with notes := rest } := by
    rw [← choices]
    rfl
  rw [takeNext, picked]
  exact congrArg (takeNote n) unchosen

/-- R153: a choice takes the note of a lowering before that of the silence. -/
theorem takeNext_of_pan {a : Act} {p : Pan} {new : PanState} {cause : Option LowerCause} {rest : List Note} {cs : List Nat}
    (notes : a.notes = .coLinkLost :: .coPan p new cause :: rest) (choices : a.s.choices = 1 :: cs) :
    takeNext a = takeNote (.coPan p new cause) { s := { a.s with choices := cs }, notes := .coLinkLost :: rest } := by
  have second : 1 % ((Note.coPan p new cause :: rest).length + 1) = 1 := Nat.mod_eq_of_lt (by simp)
  have picked : pickOrder inOrder 1 a.s.choices a.notes = (.coPan p new cause :: .coLinkLost :: rest, cs) := by
    rw [notes, choices, pickOrder, second]
    rfl
  rw [takeNext, picked]
  rfl

/-- Settles O45: the acts of an abort in their order (`abort_eq`, `abortAsked`), through which its record stands (`abortAsked_co`),
the request by the step, and each event by the step and the reason that it aborts with. -/
theorem changeoverAborts : Obligations.ChangeoverAborts := by
  refine ⟨abortOver_iff, fun s seq ready => ⟨fun step sending => ?_, fun step sending => ?_, fun idle aborting => ?_⟩,
    fun reason detail left passed a => ?_, fun reason detail left passed a => ?_,
    fun a p new cause rest notes => ⟨takeNext_of_oldest notes, fun cs => takeNext_of_pan notes⟩,
    fun a => ⟨fun step => ⟨abortOnEvent_of_over .linkLost step, abortOnEvent_of_over .standby step⟩, fun idle aborting =>
      ⟨abortOnEvent_of_progress .linkLost idle aborting, abortOnEvent_of_progress .standby idle aborting,
        abortOnEvent_of_progress .senseLost idle aborting, coRole_abortReason idle aborting⟩⟩,
    fun a p cause => ?_, fun a d target => ?_⟩
  · exact perform_request_of_quiet seq 0x22 (plain abortChangeover) ready (t := framed s) sending
      (plain_eq _ _ (abortChangeover_of_idle (a := { s := framed s }) step))
  · exact perform_request_of_quiet seq 0x22 (plain abortChangeover) ready (t := framed s) sending
      (plain_eq _ _ (abortChangeover_of_aborting (a := { s := framed s }) step))
  · exact perform_request seq 0x22 (plain abortChangeover) ready
      (plain_eq _ _ (abortChangeover_of_progress (a := { s := framed s }) idle aborting))
  · obtain ⟨step, led, told, came, usable⟩ := abortAsked_co reason detail a
    rw [abort_eq]
    generalize abortAsked reason detail a = asked at step led told came usable
    by_cases done : abortOver asked.s = true
    · rw [if_pos done, finishAbort_of_reason _ _ led]
      exact ⟨led, told, came, rfl, .inr ⟨rfl, rfl⟩, fun _ => done⟩
    · rw [if_neg done]
      exact ⟨led, told, came, usable, .inl step, fun idle => absurd (step.symm.trans idle) (by decide)⟩
  · intro begun lowered wrong opened down asked c finished
    have wronged : abortWrongPan reason begun = wrong := abortWrongPan_eq reason begun
    have opens (x : Act) : abortOpen x = opened x := abortOpen_eq x
    have raises (x : Act) (p : Pan) : abortRaise x p = down p x := rfl
    have same : abortAsked reason detail a = asked := by
      change abortRaise (abortRaise (abortOpen (abortWrongPan reason begun)) .a) .b = down .b (down .a (opened wrong))
      rw [raises, raises, opens, wronged]
    obtain ⟨step, led, told, came, -⟩ := abortAsked_co reason detail a
    rw [same] at step led told came
    rw [abort_eq, same]
    clear_value asked
    refine ⟨fun goesOn => ?_, fun done => ?_⟩
    · rw [if_neg ((abortOver_iff asked.s).not.2 goesOn), reportStep, step]
      rfl
    · rw [if_pos ((abortOver_iff asked.s).2 done), finishAbort_of_reason _ _ led, ← told, ← came]
      rfl
  · intro c held relied reason mb engaged
    refine ⟨fun relies lowered => ?_, fun unrelied step => ?_, fun engages step => ?_⟩
    · have same : lowerReason (some cause) = reason := by cases cause <;> rfl
      exact (coPan_of_relied (some cause) ((reliesOn_iff a.s p).2 relies) lowered).trans (by rw [same])
    · exact coPan_of_unrelied .lowering (some cause) ((reliesOn_iff a.s p).not.2 unrelied) step
    · refine coSwitch_of_engaged ?_ step
      rw [mbEngaged_iff, Option.isSome_iff_ne_none]
      exact engages
  · intro c given stuck
    refine ⟨?_, ?_, fun step device => ?_, ?_, fun other => ?_, ?_, fun step device => ?_, fun step away => ?_, fun step away => ?_⟩
    · rintro step rfl rfl
      exact coGaveUp_of_opening step
    · rintro step rfl rfl
      exact coGaveUp_of_closing step
    · exact coGaveUp_of_selecting target step device
    · rintro step rfl rfl
      exact coGaveUp_of_aborting step
    · obtain stranger | rfl := other
      · exact coGaveUp_of_other (not_ownMove_of_step stranger)
      · exact coGaveUp_of_other not_ownMove_es
    · rintro step rfl
      exact coGaveUp_of_other (step ▸ not_ownMove_selecting_mb)
    · exact coGaveUp_of_other (not_ownMove_of_device step device)
    · exact coGaveUp_of_other (not_ownMove_of_not_opened step away)
    · exact coGaveUp_of_other (step ▸ not_ownMove_closing away)

end Sys2Proof.Machine

namespace Sys2Proof.Machine

/-! SUPPORT. A recomputation of the heater allocation, and the heater head (09). -/

/-! ## The heater allocation (R169, R170) -/

/-- The Ice Record apart from what a recomputation of the heater allocation writes. -/
def Ice.course (i : Ice) : Ice := { i with headroom := 0, budget := 0, allocated := 0, commanded := none }

/-- R169: the Ice Record with the budget and the on-set of a recomputation. -/
def Ice.recomputed (s : State) : Ice :=
  { s.ice with
    headroom := (heaterBudget s).1
    budget := (heaterBudget s).2
    allocated := firstFit (heaterBudget s).2 ((validRecords s.vl.tables.heater).filter (isCandidate s.ice.state)) }

theorem allocate_eq (a : Act) : allocate a = presentGroups (a.modIce fun _ => Ice.recomputed a.s) := rfl

/-- R170: an on-set that stands, or that finds no head, is not presented. -/
theorem presentGroups_of_quiet {a : Act}
    (quiet : rolePresent a.s .heater = false ∨ a.s.ice.commanded = some a.s.ice.allocated) : presentGroups a = a := by
  refine if_neg fun ⟨present, differs⟩ => ?_
  obtain absent | same := quiet
  · simp [absent] at present
  · exact differs same

/-- R170: an on-set that the gate refuses leaves its GATE report. -/
theorem presentGroups_of_refused {a : Act} {f : Failed} (present : rolePresent a.s .heater = true)
    (differs : a.s.ice.commanded ≠ some a.s.ice.allocated) (refused : judge a.s (groupsCommand a.s.ice.allocated) = some f) :
    presentGroups a = refuse (groupsCommand a.s.ice.allocated) f a := by
  rw [presentGroups, if_pos ⟨present, differs⟩, present_of_refused _ a f rfl refused]

/-- R170: an on-set that is sent is the one last commanded. -/
theorem presentGroups_of_sent {a : Act} {d : DirectoryRecord} (present : rolePresent a.s .heater = true)
    (directory : directoryOfRole a.s .heater = some d) (differs : a.s.ice.commanded ≠ some a.s.ice.allocated)
    (admitted : judge a.s (groupsCommand a.s.ice.allocated) = none) :
    presentGroups a = ({ a with s := a.s.sentOn d.port (groupsCommand a.s.ice.allocated).payload } : Act).modIce fun i =>
      { i with commanded := some a.s.ice.allocated } := by
  rw [presentGroups, if_pos ⟨present, differs⟩, present_of_sent _ a d rfl admitted present directory]

/-! ## The heater head (R170) -/

theorem statusGroups_bit (payload : List Byte) (g : Fin 6) :
    (statusGroups payload).getLsbD g.val = (byteAt payload 0).getLsbD g.val := by
  simp [statusGroups, g.isLt]

/-- R170: a group of a STATUS is newly on without command where its bit is on in the STATUS alone. -/
theorem uncommanded_ne_zero_iff (i : Ice) (new : Groups) : uncommandedGroups i new &&& ~~~ (i.actual.getD 0) ≠ 0 ↔
    ∃ g : Fin 6, new.getLsbD g.val = true ∧ (i.commanded.getD 0).getLsbD g.val = false
      ∧ (i.actual.getD 0).getLsbD g.val = false := by
  have bit (g : Fin 6) : (uncommandedGroups i new &&& ~~~ (i.actual.getD 0)).getLsbD g.val = true ↔
      new.getLsbD g.val = true ∧ (i.commanded.getD 0).getLsbD g.val = false ∧ (i.actual.getD 0).getLsbD g.val = false := by
    simp [uncommandedGroups, g.isLt, and_assoc]
  simp only [← bit]
  rw [← not_iff_not, not_exists, not_not]
  refine ⟨fun zero g => ?_, fun off => BitVec.eq_of_getLsbD_eq fun k hk => ?_⟩
  · rw [zero, BitVec.ofNat_eq_ofNat, BitVec.getLsbD_zero]
    exact Bool.false_ne_true
  · simpa using off ⟨k, hk⟩

/-- Settles O48: the recomputation is `presentGroups` on the recomputed record, case by case of what becomes of the on-set; the
STATUS by its bits (`uncommanded_ne_zero_iff`). -/
theorem heatersAreAllocatedAndWatched : Obligations.HeatersAreAllocatedAndWatched := by
  refine ⟨fun a => ?_, fun payload a => ?_⟩
  · intro i table candidates budget g new c
    have listed : table.filter (isCandidate i.state) = candidates := by
      cases state : i.state
      all_goals simp only [candidates, state]
      · exact List.filter_eq_nil_iff.2 fun _ _ => Bool.false_ne_true
      · exact List.filter_congr fun r _ => by simp [isCandidate, beq_eq_decide]
      · exact List.filter_eq_self.2 fun _ _ => rfl
      · exact List.filter_eq_self.2 fun _ _ => rfl
    have recomputed : Ice.recomputed a.s = new := by
      simp only [Ice.recomputed, new, g, ← listed]
      rfl
    have begun : allocate a = presentGroups (a.modIce fun _ => new) := by rw [allocate_eq, recomputed]
    refine ⟨rfl, fun quiet => ?_, fun d present directory differs admitted => ?_, fun f present differs refused => ?_, rfl⟩
    · exact begun.trans (presentGroups_of_quiet quiet)
    · exact begun.trans (presentGroups_of_sent present directory differs admitted)
    · exact begun.trans (presentGroups_of_refused present differs refused)
  · intro i new mismatch fresh taken'
    have decides : fresh ↔ ¬ uncommandedGroups i new &&& ~~~ (i.actual.getD 0) = 0 := (uncommanded_ne_zero_iff i new).symm
    refine ⟨statusGroups_bit payload, fun stands => ?_, fun found => ?_, rfl⟩
    · exact if_pos (not_not.1 (decides.not.1 stands))
    · exact if_neg (decides.1 found)

end Sys2Proof.Machine

namespace Sys2Proof.Machine

/-! O46: the ice score, the climate head, and the heater budget with its first fit (R157, R159, R168, R169). -/

/-! ## The ice score (R159) -/

theorem recomputeScore_of_absent {a : Act} (h : a.s.ice.climate = none) : recomputeScore a = (a, false) := by
  simp only [recomputeScore, h]

theorem recomputeScore_of_aged {a : Act} {c : Climate} (h : a.s.ice.climate = some c) (aged : c.current = false) :
    recomputeScore a = (a, false) := by
  simp [recomputeScore, h, aged]

/-- R159, R163: the Ice Record with its score recomputed under climate values. -/
def Ice.scored (s : State) (c : Climate) : Ice :=
  { s.ice with
    base := basePoints s c
    arcCount := arcsInWindow s
    score := iceScore (settings s) (basePoints s c) (arcsInWindow s)
    holdOff := s.ice.holdOff && decide ((settings s).scrapeOff < iceScore (settings s) (basePoints s c) (arcsInWindow s)) }

theorem recomputeScore_of_current {a : Act} {c : Climate} (h : a.s.ice.climate = some c) (current : c.current = true) :
    recomputeScore a = (a.modIce fun _ => Ice.scored a.s c, true) := by
  simp only [recomputeScore, h, current]
  rfl

/-- A CLIMATE record whose band holds the ambient and whose humidity is reached. -/
@[reducible] def ClimateRecord.fits (c : Climate) (r : ClimateRecord) : Prop :=
  r.tempLo ≤ c.ambient ∧ c.ambient ≤ r.tempHi ∧ r.humMin ≤ c.humidity

theorem basePoints_of_first {s : State} {c : Climate} {before after : List ClimateRecord} {r : ClimateRecord}
    (table : validRecords s.vl.tables.climate = before ++ r :: after) (others : ∀ x ∈ before, ¬ x.fits c) (first : r.fits c) :
    basePoints s c = r.points := by
  have found : (validRecords s.vl.tables.climate).find?
      (fun r => decide (r.tempLo ≤ c.ambient ∧ c.ambient ≤ r.tempHi ∧ r.humMin ≤ c.humidity)) = some r :=
    List.find?_eq_some_iff_append.2 ⟨decide_eq_true first, before, after, table, fun x hx => by
      rw [decide_eq_false (others x hx)]
      rfl⟩
  rw [basePoints, found]
  rfl

theorem basePoints_of_none {s : State} {c : Climate} (none : ∀ r ∈ validRecords s.vl.tables.climate, ¬ r.fits c) :
    basePoints s c = 0 := by
  have missed : (validRecords s.vl.tables.climate).find?
      (fun r => decide (r.tempLo ≤ c.ambient ∧ c.ambient ≤ r.tempHi ∧ r.humMin ≤ c.humidity)) = Option.none :=
    List.find?_eq_none.2 fun r hr => by simpa only [decide_eq_true_eq] using none r hr
  rw [basePoints, missed]
  rfl

theorem arcsInWindow_of_lost {s : State} (h : estimate s = none) : arcsInWindow s = 0 := by
  simp only [arcsInWindow, h]

theorem arcsInWindow_of_estimate {s : State} {e : Nat} (h : estimate s = some e) : arcsInWindow s =
    (s.lm.arcs.filter fun arc => arc.position.any fun p => decide (e - (settings s).arcWindow ≤ p ∧ p ≤ e)).length := by
  simp only [arcsInWindow, h]

/-! ## The climate head (R157) and the Arc Ring (R159) -/

theorem climateLost_of_some {a : Act} {c : Climate} (h : a.s.ice.climate = some c) :
    climateLost a = a.modIce fun i => { i with climate := some { c with current := false } } := by
  simp only [climateLost, Act.modIce, h, Option.map_some]

theorem climateLost_of_none {a : Act} (h : a.s.ice.climate = none) : climateLost a = a := by
  have kept : (a.s.ice.climate.map fun c => { c with current := false }) = a.s.ice.climate := by rw [h]; rfl
  simp only [climateLost, Act.modIce, kept]

theorem arcAppended_of_current {a : Act} {c : Climate} (h : a.s.ice.climate = some c) (current : c.current = true) :
    arcAppended a = iceEvent .other (recomputeScore a).1 := by
  rw [arcAppended, recomputeScore_of_current h current]

theorem arcAppended_of_unscored {a : Act} (h : recomputeScore a = (a, false)) : arcAppended a = a := by
  rw [arcAppended, h]

/-! ## First fit (R169) -/

theorem groupBit_bit {g k : Nat} (hg : 1 ≤ g ∧ g ≤ 6) (hk : 1 ≤ k ∧ k ≤ 6) :
    (groupBit g).getLsbD (k - 1) = decide (g = k) := by
  obtain ⟨⟨g1, g6⟩, k1, k6⟩ := And.intro hg hk
  simp only [groupBit, BitVec.getLsbD_shiftLeft]
  by_cases same : g = k
  · subst same
    simp
    omega
  · simp [same]
    omega

/-- A group of the HEATER table (R167). -/
def HeaterRecord.inRange (r : HeaterRecord) : Prop := 1 ≤ r.group ∧ r.group ≤ 6

/-- A group is on in an on-set. -/
def HeaterRecord.isOn (g : Groups) (r : HeaterRecord) : Bool := g.getLsbD (r.group - 1)

/-- The power that an on-set draws from the records of a list. -/
def onPower (g : Groups) (l : List HeaterRecord) : Nat := ((l.filter (·.isOn g)).map (·.power)).sum

/-- R169: a record's own turn sets its bit where its power is at or below what remains. -/
theorem isOn_allocateGroup_self {acc : Groups × Nat} {r : HeaterRecord} (range : r.inRange) (off : r.isOn acc.1 = false) :
    r.isOn (allocateGroup acc r).1 = decide (r.power ≤ acc.2) := by
  unfold HeaterRecord.isOn at *
  unfold allocateGroup
  split <;> rename_i fits <;> simp [fits, off, groupBit_bit range range]

/-- R169: the turn of another group leaves a record's bit. -/
theorem isOn_allocateGroup_other {acc : Groups × Nat} {r x : HeaterRecord} (range : r.inRange) (rangeX : x.inRange)
    (other : r.group ≠ x.group) : x.isOn (allocateGroup acc r).1 = x.isOn acc.1 := by
  unfold HeaterRecord.isOn allocateGroup
  split
  · simp [groupBit_bit range rangeX, other]
  · rfl

/-- R169: the turns of other groups leave a record's bit. -/
theorem isOn_foldl_other {l : List HeaterRecord} {acc : Groups × Nat} {x : HeaterRecord} (range : ∀ r ∈ l, r.inRange)
    (rangeX : x.inRange) (other : ∀ r ∈ l, r.group ≠ x.group) : x.isOn (l.foldl allocateGroup acc).1 = x.isOn acc.1 := by
  induction l generalizing acc with
  | nil => rfl
  | cons r l ih =>
    rw [List.forall_mem_cons] at range other
    rw [List.foldl_cons, ih range.2 other.2, isOn_allocateGroup_other range.1 rangeX other.1]

/-- R169: what remains of a budget and what its on-set draws are the budget. -/
theorem onPower_add_remains {l : List HeaterRecord} {acc : Groups × Nat} (range : ∀ r ∈ l, r.inRange)
    (distinct : l.Pairwise fun x y => x.group ≠ y.group) (off : ∀ r ∈ l, r.isOn acc.1 = false) :
    onPower (l.foldl allocateGroup acc).1 l + (l.foldl allocateGroup acc).2 = acc.2 := by
  induction l generalizing acc with
  | nil => exact Nat.zero_add _
  | cons r l ih =>
    rw [List.forall_mem_cons] at range off
    rw [List.pairwise_cons] at distinct
    have later : ∀ x ∈ l, x.isOn (allocateGroup acc r).1 = false := fun x hx =>
      (isOn_allocateGroup_other range.1 (range.2 x hx) (distinct.1 x hx)).trans (off.2 x hx)
    have rest := ih range.2 distinct.2 later
    have own : r.isOn (l.foldl allocateGroup (allocateGroup acc r)).1 = decide (r.power ≤ acc.2) :=
      (isOn_foldl_other range.2 range.1 fun x hx => (distinct.1 x hx).symm).trans (isOn_allocateGroup_self range.1 off.1)
    rw [List.foldl_cons]
    by_cases fits : r.power ≤ acc.2
    · have spent : (allocateGroup acc r).2 = acc.2 - r.power := by simp [allocateGroup, fits]
      simp only [onPower, List.filter_cons, own, fits, decide_true, if_true, List.map_cons, List.sum_cons] at rest ⊢
      omega
    · have kept : (allocateGroup acc r).2 = acc.2 := by simp [allocateGroup, fits]
      simp only [onPower, List.filter_cons, own, fits, decide_false, Bool.false_eq_true, if_false] at rest ⊢
      omega

section

variable {budget : Nat} {candidates : List HeaterRecord} (range : ∀ r ∈ candidates, r.inRange)
  (distinct : candidates.Pairwise fun x y => x.group ≠ y.group)

include range distinct

/-- R169: the power of the allocated groups never exceeds the budget. -/
theorem onPower_le_budget : onPower (firstFit budget candidates) candidates ≤ budget := by
  have sum := onPower_add_remains (acc := (0, budget)) range distinct fun r _ => by simp [HeaterRecord.isOn]
  have spent : onPower (firstFit budget candidates) candidates + _ = budget := sum
  omega

/-- R169: a group is on where its power fits beside those before it in table order that are on. -/
theorem isOn_firstFit_iff {before after : List HeaterRecord} {r : HeaterRecord} (split : candidates = before ++ r :: after) :
    r.isOn (firstFit budget candidates) = true ↔ onPower (firstFit budget candidates) before + r.power ≤ budget := by
  subst split
  obtain ⟨distinctBefore, distinctRest, apart⟩ := List.pairwise_append.1 distinct
  obtain ⟨distinctAfter, -⟩ := List.pairwise_cons.1 distinctRest
  have rangeBefore : ∀ x ∈ before, x.inRange := fun x hx => range x (List.mem_append_left _ hx)
  have rangeRest : ∀ x ∈ r :: after, x.inRange := fun x hx => range x (List.mem_append_right _ hx)
  obtain ⟨rangeR, rangeAfter⟩ := List.forall_mem_cons.1 rangeRest
  have rest (x : HeaterRecord) (hx : x ∈ before) :
      x.isOn (firstFit budget (before ++ r :: after)) = x.isOn (before.foldl allocateGroup (0, budget)).1 := by
    rw [firstFit, List.foldl_append]
    exact isOn_foldl_other rangeRest (rangeBefore x hx) fun y hy => (apart x hx y hy).symm
  have same : onPower (firstFit budget (before ++ r :: after)) before =
      onPower (before.foldl allocateGroup (0, budget)).1 before := by
    rw [onPower, onPower, List.filter_congr rest]
  have off : r.isOn (before.foldl allocateGroup (0, budget)).1 = false :=
    (isOn_foldl_other rangeBefore rangeR fun x hx => apart x hx r List.mem_cons_self).trans (by simp [HeaterRecord.isOn])
  have own : r.isOn (firstFit budget (before ++ r :: after)) = decide (r.power ≤ (before.foldl allocateGroup (0, budget)).2) := by
    rw [firstFit, List.foldl_append, List.foldl_cons, isOn_foldl_other rangeAfter rangeR fun x hx => (distinctAfter x hx).symm,
      isOn_allocateGroup_self rangeR off]
  have sum := onPower_add_remains (acc := (0, budget)) rangeBefore distinctBefore fun x _ => by simp [HeaterRecord.isOn]
  rw [own, same, decide_eq_true_iff]
  omega

/-- Those that are on and stand before a record are the ones before it that are on. -/
theorem onBefore_eq {before after : List HeaterRecord} {r : HeaterRecord} (split : candidates = before ++ r :: after) (g : Groups)
    [DecidablePred (· ∈ before)] :
    (candidates.filter (·.isOn g)).filter (· ∈ before) = before.filter (·.isOn g) := by
  subst split
  obtain ⟨-, -, apart⟩ := List.pairwise_append.1 distinct
  have none : ((r :: after).filter (·.isOn g)).filter (· ∈ before) = [] :=
    List.filter_eq_nil_iff.2 fun x hx => by
      simpa using fun hb => apart x hb x (List.mem_of_mem_filter hx) rfl
  rw [List.filter_append, List.filter_append, none, List.append_nil]
  exact List.filter_eq_self.2 fun x hx => by simpa using List.mem_of_mem_filter hx

end

/-! ## The heater budget (R168) -/

theorem heaterBudget_of_not_closed {s : State} (h : s.sg.mb.reported ≠ .closed) : heaterBudget s = (0, 0) := by
  unfold heaterBudget
  split
  · rename_i closed _ _
    exact absurd closed h
  · rfl

theorem heaterBudget_of_no_window {s : State} (h : s.lm.last = none) : heaterBudget s = (0, 0) := by
  unfold heaterBudget
  split
  · rename_i window
    simp [h] at window
  · rfl

theorem heaterBudget_of_no_record {s : State} (h : (confirmedCode s).bind (systemRecord s) = none) : heaterBudget s = (0, 0) := by
  simp [heaterBudget, h]

theorem heaterBudget_of_record {s : State} {r : SystemRecord} {w : WindowResult} (closed : s.sg.mb.reported = .closed)
    (record : (confirmedCode s).bind (systemRecord s) = some r) (window : s.lm.last = some w) :
    (let headroom := (r.iMax - w.iw) * ((if r.selector = .named .ac then w.vac else w.m.natAbs) * 3 / 2) / 1000
     heaterBudget s = (headroom, min r.budget headroom)) := by
  simp only [heaterBudget, closed, record, window]

/-- The record of the confirmed state, where that is a system code. -/
theorem confirmedRecord_of_system {s : State} {c : Nat} (h : s.lm.confirmed = .system c) :
    (confirmedCode s).bind (systemRecord s) = systemRecord s c := by
  rw [(confirmedCode_eq_some_iff s c).2 h]
  rfl

theorem confirmedCode_of_no_system {s : State} (h : ∀ c, s.lm.confirmed ≠ .system c) : confirmedCode s = none :=
  Option.eq_none_iff_forall_ne_some.2 fun c code => h c ((confirmedCode_eq_some_iff s c).1 code)

/-- Settles O46: the score by `recomputeScore_of_current`, the events of the climate head and of the Arc Ring by whether the values
are CURRENT, first fit by the budget that each turn leaves (`onPower_add_remains`), and the budget by what is known of the line. -/
theorem iceScoreAndHeaterBudget : Obligations.IceScoreAndHeaterBudget := by
  refine ⟨fun a c climate => ?_, ⟨fun payload a => rfl, fun a => ⟨fun c climate => ⟨?_, fun current => ?_, fun aged => ?_⟩,
    fun absent => ⟨?_, ?_, ?_⟩⟩⟩, fun budget candidates range distinct => ?_, fun s => heaterBudget_of_not_closed,
    fun s unknown => heaterBudget_of_no_record ?_, fun s c confirmed unlisted => heaterBudget_of_no_record ?_,
    fun s => heaterBudget_of_no_window, fun s c r w closed confirmed record window => ?_⟩
  · intro st fits table i near
    refine ⟨recomputeScore_of_aged climate, fun current => ?_⟩
    have scored : i = Ice.scored a.s c := congrArg (·.1.s.ice) (recomputeScore_of_current climate current)
    rw [scored]
    refine ⟨rfl, Nat.min_le_left _ _, fun before r after => basePoints_of_first, basePoints_of_none, arcsInWindow_of_lost,
      fun e => arcsInWindow_of_estimate, ?_⟩
    exact (Bool.and_eq_true_iff).trans (and_congr_right fun _ => decide_eq_true_iff)
  · exact climateLost_of_some climate
  · exact arcAppended_of_current climate current
  · exact arcAppended_of_unscored (recomputeScore_of_aged climate aged)
  · exact climateLost_of_none absent
  · exact arcAppended_of_unscored (recomputeScore_of_absent absent)
  · exact recomputeScore_of_absent absent
  · intro on
    refine ⟨onPower_le_budget range distinct, fun before r after split => ?_⟩
    have listed : r ∈ candidates := split ▸ List.mem_append_right _ List.mem_cons_self
    have member : r ∈ on ↔ r.isOn (firstFit budget candidates) = true := List.mem_filter.trans (and_iff_right listed)
    rw [member, isOn_firstFit_iff range distinct split, onPower, ← onBefore_eq range distinct split]
    rfl
  · rw [confirmedCode_of_no_system unknown]
    rfl
  · rw [confirmedRecord_of_system confirmed, unlisted]
  · exact heaterBudget_of_record closed ((confirmedRecord_of_system confirmed).trans record) window

end Sys2Proof.Machine

namespace Sys2Proof.Machine

/-! SUPPORT. What the parts of an evaluation of Ice Control make of the Ice Record, and what they leave of the state besides it (R162
to R166, R171). -/

/-! ## What Ice Control tests besides its own record -/

/-- What Ice Control tests of other blocks, the pantographs and the switchgear apart, stands. -/
structure SameGround (s t : State) : Prop where
  vl : t.vl = s.vl
  lm : t.lm = s.lm
  step : t.co.step = s.co.step
  position : t.pr.position = s.pr.position

theorem SameGround.refl (s : State) : SameGround s s := ⟨rfl, rfl, rfl, rfl⟩

theorem SameGround.trans {s t u : State} (h : SameGround s t) (g : SameGround t u) : SameGround s u :=
  ⟨g.vl.trans h.vl, g.lm.trans h.lm, g.step.trans h.step, g.position.trans h.position⟩

theorem Actuates.ground {a b : Act} (h : Actuates a b) (outside : b.s.outside = a.s.outside)
    (lm : b.s.read State.lm = a.s.read State.lm) : SameGround a.s b.s :=
  ⟨congrArg Outside.vl outside, lm, congrArg Changeover.step h.changeover, congrArg Route.position h.route⟩

theorem modIce_ground (f : Ice → Ice) (a : Act) : SameGround a.s (a.modIce f).s := ⟨rfl, rfl, rfl, rfl⟩

theorem lowerPan_ground (p : Pan) (cause : LowerCause) (kind : CauseKind) (quiet : Bool) (a : Act) :
    SameGround a.s (lowerPan p cause kind quiet a).1.s :=
  (lowerPan_actuates p cause kind quiet a).ground (lowerPan_outside ..) (lowerPan_read blind_lm ..)

theorem raisePan_ground (p : Pan) (role : PanRole) (profile : Nat) (o : Origin) (a : Act) :
    SameGround a.s (raisePan p role profile o a).1.s :=
  (raisePan_actuates p role profile o a).ground (raisePan_outside ..) (raisePan_read blind_lm ..)

theorem moveRequest_ground (d : Dev) (target : Pos) (o : Origin) (a : Act) :
    SameGround a.s (moveRequest d target o a).1.s :=
  (moveRequest_actuates d target o a).ground (moveRequest_outside ..) (moveRequest_read blind_lm ..)

theorem SameGround.settings {s t : State} (h : SameGround s t) : settings t = settings s := by
  rw [Machine.settings, h.vl]
  rfl

/-! ## The end of a scrape (R166) -/

theorem leaveScrape_ice (a : Act) : (leaveScrape a).s.ice = { a.s.ice with scrapePan := none, phase := none } := by
  unfold leaveScrape
  dsimp only
  split
  · rfl
  · rw [Act.modIce_ice, (lowerPan_actuates ..).ice]

theorem leaveScrape_ground (a : Act) : SameGround a.s (leaveScrape a).s := by
  unfold leaveScrape
  dsimp only
  split
  · exact modIce_ground _ a
  · exact (lowerPan_ground ..).trans (modIce_ground _ _)

/-- R166: the scrape pan is no longer raised, and no pantograph is raised that was not. -/
theorem leaveScrape_raised (a : Act) (p : Pan) : (panOf (leaveScrape a).s p).raised = true →
    a.s.ice.scrapePan ≠ some p ∧ panOf (leaveScrape a).s p = panOf a.s p := by
  unfold leaveScrape
  dsimp only
  cases scrapes : a.s.ice.scrapePan with
  | none => exact fun _ => ⟨nofun, rfl⟩
  | some q =>
    obtain ⟨lowered, down⟩ := lowerPan_lowers q .scrapeEnd .orderly false a
    intro up
    obtain rfl | rfl := eq_or_eq_otherPan q p
    · exact absurd (up.symm.trans down) (by simp)
    · exact ⟨by cases q <;> simp [otherPan], lowered.other⟩

theorem failEntry_ice (a : Act) :
    (failEntry a).s.ice = { a.s.ice with scrapePan := none, phase := none, state := .heat, holdOff := true } := by
  rw [failEntry, Act.modIce_ice, leaveScrape_ice]

/-! ## The raise and the move of an entry (R165) -/

/-- The raise profile of the record that permits scraping. -/
def scrapeProfile (s : State) : Nat := ((scrapeRecord s).bind (·.scrapeProfile)).getD 0

/-- R165: the raise of a scrape pan, with the phase RAISING set. -/
def scrapeRaised (p : Pan) (a : Act) : Act × RaiseAnswer :=
  raisePan p .scrape (scrapeProfile a.s) .ice (a.modIce fun i => { i with phase := some .raising })

theorem askScrapeRaise_eq (p : Pan) (a : Act) : askScrapeRaise p a =
    ((scrapeRaised p a).1,
      if (scrapeRaised p a).2.result = .accepted then none else some (scrapeRaised p a).2.result) := by
  rw [askScrapeRaise]
  change (if (scrapeRaised p a).2.result = .accepted then ((scrapeRaised p a).1, none)
    else ((scrapeRaised p a).1, some (scrapeRaised p a).2.result)) = _
  split <;> rfl

theorem scrapeRaised_ice (p : Pan) (a : Act) : (scrapeRaised p a).1.s.ice = { a.s.ice with phase := some .raising } :=
  (raisePan_actuates ..).ice

theorem scrapeRaised_ground (p : Pan) (a : Act) : SameGround a.s (scrapeRaised p a).1.s :=
  (modIce_ground _ a).trans (raisePan_ground ..)

/-- R165: the act in which SCRAPE is entered, before the raise or the move is asked for. -/
def scrapeEntered (p : Pan) (a : Act) : Act :=
  a.modIce fun i => { i with state := .scrape, scrapePan := some p, phase := some .isoOpening }

/-- R165: what the entry asks for, with the answer where it is refused. -/
def entryAsked (p : Pan) (a : Act) : Act × Option Result :=
  if reportedIdle a.s (isoOf p) .opened then askScrapeRaise p (scrapeEntered p a)
  else ((moveRequest (isoOf p) .opened .ice (scrapeEntered p a)).1,
    moveAnswer (moveRequest (isoOf p) .opened .ice (scrapeEntered p a)).2)

/-- R165: what an entry comes to by the answer to what it asked for; a refusal fails it. -/
def IceMove.ofAsked : Act × Option Result → IceMove
  | (b, none) => { act := b }
  | (b, some answer) => { act := failEntry b, cause := some (.entryFailed (some answer)) }

theorem enterScrape_eq (p : Pan) (a : Act) : enterScrape p a = .ofAsked (entryAsked (otherPan p) a) := rfl

/-- R165: an isolating switch that has come to OPEN asks for the raise. -/
theorem testIsoOpening_of_opened {p : Pan} {a : Act} (idle : (devOf a.s (isoOf p)).move = none)
    (opened : (devOf a.s (isoOf p)).reported = .opened) : testIsoOpening p a = some (.ofAsked (askScrapeRaise p a)) := by
  rw [testIsoOpening, (idle_iff _).2 idle, if_neg (by simp), if_pos opened]
  cases e : askScrapeRaise p a with
  | mk b answer => cases answer <;> rfl

/-- R165: one that has come to another position fails the entry, with no answer (assumption log 48). -/
theorem testIsoOpening_of_missed {p : Pan} {a : Act} (idle : (devOf a.s (isoOf p)).move = none)
    (missed : (devOf a.s (isoOf p)).reported ≠ .opened) :
    testIsoOpening p a = some { act := failEntry a, cause := some (.entryFailed none) } := by
  rw [testIsoOpening, (idle_iff _).2 idle, if_neg (by simp), if_neg missed]

/-- R165: one that still moves is waited for. -/
theorem testIsoOpening_of_moving {p : Pan} {a : Act} (moving : (devOf a.s (isoOf p)).move ≠ none) : testIsoOpening p a = none :=
  if_pos (by simpa [Device.idle, Option.isSome_iff_ne_none] using moving)

/-! ## What an evaluation writes of the Ice Record -/

/-- The Ice Record apart from the state and the scrape, which a transition writes. -/
def Ice.standing (i : Ice) : Ice := { i with state := .inactive, scrapePan := none, phase := none, holdOff := false }

theorem leaveScrape_standing (a : Act) : (leaveScrape a).s.ice.standing = a.s.ice.standing := by
  rw [leaveScrape_ice]
  rfl

theorem failEntry_standing (a : Act) : (failEntry a).s.ice.standing = a.s.ice.standing := by
  rw [failEntry_ice]
  rfl

theorem askScrapeRaise_standing (p : Pan) (a : Act) : (askScrapeRaise p a).1.s.ice.standing = a.s.ice.standing := by
  rw [askScrapeRaise_eq, scrapeRaised_ice]
  rfl

theorem entryAsked_standing (p : Pan) (a : Act) : (entryAsked p a).1.s.ice.standing = a.s.ice.standing := by
  unfold entryAsked
  split
  · exact askScrapeRaise_standing p _
  · have moved := (moveRequest_actuates (isoOf p) .opened .ice (scrapeEntered p a)).ice
    exact (congrArg Ice.standing moved :)

theorem IceMove.ofAsked_standing (x : Act × Option Result) : (ofAsked x).act.s.ice.standing = x.1.s.ice.standing :=
  match x with
  | (_, none) => rfl
  | (b, some _) => failEntry_standing b

theorem enterScrape_standing (p : Pan) (a : Act) : (enterScrape p a).act.s.ice.standing = a.s.ice.standing :=
  (IceMove.ofAsked_standing _).trans (entryAsked_standing (otherPan p) a)

theorem testIsoOpening_standing {p : Pan} {a : Act} {m : IceMove} (e : testIsoOpening p a = some m) :
    m.act.s.ice.standing = a.s.ice.standing := by
  by_cases idle : (devOf a.s (isoOf p)).move = none
  · by_cases opened : (devOf a.s (isoOf p)).reported = .opened
    · cases (testIsoOpening_of_opened idle opened).symm.trans e
      exact (IceMove.ofAsked_standing _).trans (askScrapeRaise_standing p a)
    · cases (testIsoOpening_of_missed idle opened).symm.trans e
      exact failEntry_standing a
  · simp [testIsoOpening_of_moving idle] at e

theorem promotePhase_standing (a : Act) : (promotePhase a).s.ice.standing = a.s.ice.standing := by
  unfold promotePhase
  split
  · split <;> rfl
  · rfl

theorem scrapeStep_standing {trigger : IceTrigger} {a : Act} {m : IceMove} (e : scrapeStep trigger a = some m) :
    m.act.s.ice.standing = a.s.ice.standing := by
  unfold scrapeStep at e
  split at e
  · cases e
    exact leaveScrape_standing a
  · split at e
    · cases e
      exact leaveScrape_standing a
    · split at e
      · split at e
        · exact testIsoOpening_standing e
        · cases e
      · cases e
        exact failEntry_standing a

theorem autoStep_standing {trigger : IceTrigger} {a : Act} {m : IceMove} (e : autoStep trigger a = some m) :
    m.act.s.ice.standing = a.s.ice.standing := by
  unfold autoStep at e
  dsimp only at e
  split at e
  · cases e
    rfl
  · split at e <;> cases e
    rfl
  · split at e
    · cases e
      rfl
    · split at e
      · obtain ⟨p, -, rfl⟩ := Option.map_eq_some_iff.1 e
        exact enterScrape_standing p a
      · cases e
  · exact scrapeStep_standing e

theorem autoSteps_standing (trigger : IceTrigger) (fuel : Nat) (a : Act) (cause : Option IceCause) :
    (autoSteps trigger fuel a cause).1.s.ice.standing = a.s.ice.standing := by
  induction fuel generalizing a cause with
  | zero => rfl
  | succ n ih =>
    unfold autoSteps
    split
    · rfl
    · rename_i m e
      exact (ih _ _).trans (autoStep_standing e)

theorem iceTransition_standing (trigger : IceTrigger) (a : Act) :
    (iceTransition trigger a).1.s.ice.standing = a.s.ice.standing := by
  unfold iceTransition
  split
  · split
    · rfl
    · exact leaveScrape_standing a
  · split
    · split
      · rfl
      · exact leaveScrape_standing a
    · exact (autoSteps_standing trigger 8 _ none).trans (promotePhase_standing a)

/-! ## The recomputation and the report at the end of an evaluation (R169, R171) -/

theorem presentGroups_course (a : Act) : (presentGroups a).s.ice.course = a.s.ice.course := by
  unfold presentGroups
  dsimp only
  split
  · split <;> rename_i e <;> have same := congrArg Ice.course (present_eq_actuates e).ice <;> exact same
  · rfl

theorem allocate_course (a : Act) : (allocate a).s.ice.course = a.s.ice.course := presentGroups_course _

/-- R169: presenting the on-set leaves the budget that it was allocated under. -/
theorem presentGroups_budget (a : Act) :
    (presentGroups a).s.ice.headroom = a.s.ice.headroom ∧ (presentGroups a).s.ice.budget = a.s.ice.budget := by
  unfold presentGroups
  dsimp only
  split
  · split <;> rename_i e <;> have same := (present_eq_actuates e).ice <;> simp [same]
  · exact ⟨rfl, rfl⟩

/-- A command to a head leaves the Switchgear Record. -/
theorem present_sg (c : Command) (a : Act) : (present c a).1.s.sg = a.s.sg := by
  have delivered : (deliver c a).1.s.sg = a.s.sg := by
    unfold deliver
    split <;> rfl
  unfold present
  split
  · split
    · rfl
    · split <;> rename_i e <;> rw [e] at delivered <;> exact delivered
  · rfl

theorem presentGroups_sg (a : Act) : (presentGroups a).s.sg = a.s.sg := by
  have presented := present_sg (groupsCommand a.s.ice.allocated) a
  unfold presentGroups
  dsimp only
  split
  · split <;> rename_i e <;> rw [e] at presented <;> exact presented
  · rfl

theorem systemRecord_congr {s t : State} (vl : t.vl = s.vl) : systemRecord t = systemRecord s := by
  funext c
  rw [systemRecord, systemRecord, vl]

theorem confirmedCode_congr {s t : State} (lm : t.lm = s.lm) : confirmedCode t = confirmedCode s := by
  rw [confirmedCode, confirmedCode, lm]

/-- The heater budget reads the Switchgear Record, the Line Monitor and the tables. -/
theorem heaterBudget_congr {s t : State} (sg : t.sg = s.sg) (lm : t.lm = s.lm) (vl : t.vl = s.vl) :
    heaterBudget t = heaterBudget s := by
  rw [heaterBudget, heaterBudget, confirmedCode_congr lm, systemRecord_congr vl, sg, lm]

theorem allocate_budget (a : Act) :
    ((allocate a).s.ice.headroom, (allocate a).s.ice.budget) = heaterBudget (allocate a).s := by
  obtain ⟨headroom, budget⟩ := presentGroups_budget (a.modIce fun _ => Ice.recomputed a.s)
  have lm : (allocate a).s.lm = a.s.lm := allocate_read blind_lm a
  have sg : (allocate a).s.sg = a.s.sg := presentGroups_sg _
  rw [heaterBudget_congr sg lm (congrArg Outside.vl (allocate_outside a)), allocate_eq, headroom, budget]
  rfl

/-- R171: the ICE report that a state holds, with the values of its Ice Record. -/
def IceTold (s : State) (before after : IceState) (cause : IceCause) : Prop :=
  s.ru.slots[(20 : Fin 44)].report =
    some (.ice before after cause s.ice.score s.ice.base s.ice.arcCount s.ice.budget s.ice.allocated)

theorem reportIce_told (before : IceState) (cause : IceCause) (a : Act) :
    IceTold (reportIce before cause a).s before a.s.ice.state cause :=
  congrArg Slot.report (placeReport_slot (.ice before a.s.ice.state cause a.s.ice.score a.s.ice.base a.s.ice.arcCount
    a.s.ice.budget a.s.ice.allocated) a)

theorem evaluateIce_of_moved {trigger : IceTrigger} {a b : Act} {cause : Option IceCause} (e : iceTransition trigger a = (b, cause))
    (moved : b.s.ice.state ≠ a.s.ice.state ∨ cause.isSome) : evaluateIce trigger a =
      reportIce a.s.ice.state (cause.getD (plainCause b.s a.s.ice.state trigger)) (allocate b) := by
  rw [evaluateIce, e]
  exact if_pos moved

theorem evaluateIce_of_still {trigger : IceTrigger} {a b : Act} (e : iceTransition trigger a = (b, none))
    (still : b.s.ice.state = a.s.ice.state) : evaluateIce trigger a = b := by
  rw [evaluateIce, e]
  exact if_neg (by simp [still])

/-- An evaluation that a transition has led to `b`: the state with which it ends has the Pan Records and the Ice Record of `b`, up to
the heater allocation, and a change of the state or a named cause has its report and its recomputed budget. -/
structure Resolved (trigger : IceTrigger) (a b : Act) (cause : Option IceCause) : Prop where
  course : (evaluateIce trigger a).s.ice.course = b.s.ice.course
  pans : (evaluateIce trigger a).s.pans = b.s.pans
  told : b.s.ice.state ≠ a.s.ice.state ∨ cause.isSome →
    IceTold (evaluateIce trigger a).s a.s.ice.state b.s.ice.state (cause.getD (plainCause b.s a.s.ice.state trigger))
  budget : b.s.ice.state ≠ a.s.ice.state ∨ cause.isSome →
    ((evaluateIce trigger a).s.ice.headroom, (evaluateIce trigger a).s.ice.budget) = heaterBudget (evaluateIce trigger a).s

theorem resolved {trigger : IceTrigger} {a b : Act} {cause : Option IceCause} (e : iceTransition trigger a = (b, cause)) :
    Resolved trigger a b cause := by
  by_cases moved : b.s.ice.state ≠ a.s.ice.state ∨ cause.isSome
  · have state : (allocate b).s.ice.state = b.s.ice.state := (congrArg Ice.state (allocate_course b) :)
    constructor <;> rw [evaluateIce_of_moved e moved]
    · exact allocate_course b
    · exact (allocate_aside b).pans
    · exact fun _ => state ▸ reportIce_told ..
    · exact fun _ => allocate_budget b
  · obtain ⟨still, unnamed⟩ := not_or.1 moved
    obtain rfl : cause = none := by simpa using unnamed
    have same := evaluateIce_of_still e (not_not.1 still)
    exact ⟨by rw [same], by rw [same], fun h => absurd h moved, fun h => absurd h moved⟩

theorem Resolved.state {trigger : IceTrigger} {a b : Act} {cause : Option IceCause} (h : Resolved trigger a b cause) :
    (evaluateIce trigger a).s.ice.state = b.s.ice.state := (congrArg Ice.state h.course :)

theorem Resolved.scrapePan {trigger : IceTrigger} {a b : Act} {cause : Option IceCause} (h : Resolved trigger a b cause) :
    (evaluateIce trigger a).s.ice.scrapePan = b.s.ice.scrapePan := (congrArg Ice.scrapePan h.course :)

theorem Resolved.phase {trigger : IceTrigger} {a b : Act} {cause : Option IceCause} (h : Resolved trigger a b cause) :
    (evaluateIce trigger a).s.ice.phase = b.s.ice.phase := (congrArg Ice.phase h.course :)

theorem Resolved.holdOff {trigger : IceTrigger} {a b : Act} {cause : Option IceCause} (h : Resolved trigger a b cause) :
    (evaluateIce trigger a).s.ice.holdOff = b.s.ice.holdOff := (congrArg Ice.holdOff h.course :)

/-- An evaluation writes the state, the scrape and the allocation of the Ice Record, and no more. -/
theorem evaluateIce_standing (trigger : IceTrigger) (a : Act) :
    (evaluateIce trigger a).s.ice.course.standing = a.s.ice.course.standing := by
  have course := congrArg Ice.standing (resolved (rfl : iceTransition trigger a = (_, _))).course
  exact course.trans (congrArg Ice.course (iceTransition_standing trigger a))

theorem evaluateIce_setting (trigger : IceTrigger) (a : Act) : (evaluateIce trigger a).s.ice.setting = a.s.ice.setting :=
  (congrArg Ice.setting (evaluateIce_standing trigger a) :)

theorem evaluateIce_score (trigger : IceTrigger) (a : Act) : (evaluateIce trigger a).s.ice.score = a.s.ice.score :=
  (congrArg Ice.score (evaluateIce_standing trigger a) :)

end Sys2Proof.Machine

namespace Sys2Proof.Machine

/-! O49: ICE_MODE (R161). -/

theorem iceSettingOf_of_out_of_range {v : Nat} (h : 3 ≤ v) : iceSettingOf v = none := by
  obtain ⟨n, rfl⟩ := Nat.exists_eq_add_of_le' h
  rfl

/-- R161: a byte that names no setting is refused. -/
theorem iceReply_of_range {v : Nat} {a : Act} (h : iceSettingOf v = none) : iceReply v a = (a, { result := .range }) := by
  simp only [iceReply, takeIceMode, h]

/-- R161: a setting is taken, the hold-off cleared and the state evaluated. -/
theorem iceReply_of_setting {v : Nat} {a : Act} {setting : IceSetting} (h : iceSettingOf v = some setting) :
    (let b := iceEvent .setting (a.modIce fun i => { i with setting, holdOff := false })
     iceReply v a = (b, { result := if a.s.ice.setting = setting then .already else .done
                          data := putPlace iceStates b.s.ice.state })) := by
  by_cases same : a.s.ice.setting = setting <;> simp [iceReply, takeIceMode, h, same]

theorem recomputeScore_setting (a : Act) : (recomputeScore a).1.s.ice.setting = a.s.ice.setting := by
  unfold recomputeScore
  dsimp only
  split
  · rfl
  · split <;> rfl

theorem restartIce_setting (a : Act) : (restartIce a).s.ice.setting = a.s.ice.setting := by
  let left := a.modIce fun i => { i with inhibit := false, holdOff := false, scrapePan := none, phase := none }
  have allocated : (restartIce a).s.ice.setting = (recomputeScore left).1.s.ice.setting :=
    (congrArg Ice.setting (allocate_course _) :)
  exact allocated.trans (recomputeScore_setting left)

/-- R161, R173: RESTART leaves the setting. -/
theorem restartEffects_setting (a : Act) : (restartEffects a).s.ice.setting = a.s.ice.setting := by
  have lowered (b : Act) : (requestMbOpen .protection (restartPans b)).s.ice = b.s.ice :=
    ((lowerBoth_actuates .protect .immediate b).trans (requestMbOpen_actuates .protection _)).ice
  exact (restartIce_setting _).trans (congrArg Ice.setting (lowered _))

/-- Settles O49: the reply of a setting (`iceReply_of_setting`), which no evaluation changes (`evaluateIce_setting`), and of a byte
that names none; RESTART by its blocks. -/
theorem iceModeTakesTheSetting : Obligations.IceModeTakesTheSetting := by
  refine ⟨fun s seq v ready => ?_, restartEffects_setting⟩
  intro taken'
  have takes (setting : IceSetting) (named : iceSettingOf v = some setting) : taken' setting := by
    refine ⟨_, rfl, evaluateIce_setting _ _, ?_⟩
    have owned := iceReply_of_setting (a := { s := framed s }) named
    dsimp only at owned
    rw [iceEvent_of_noStep _ _ rfl] at owned
    exact perform_request seq 0x40 (iceReply v) ready owned
  refine ⟨?_, ?_, ?_, fun above sending => ?_⟩
  · rintro rfl
    exact takes .off rfl
  · rintro rfl
    exact takes .auto rfl
  · rintro rfl
    exact takes .forceHeat rfl
  · exact perform_request_of_quiet seq 0x40 (iceReply v) ready (t := framed s) sending
      (iceReply_of_range (iceSettingOf_of_out_of_range above))

end Sys2Proof.Machine

namespace Sys2Proof.Machine

/-! SUPPORT. The transitions of the ice state one by one, and what they come to (R162 to R166). -/

/-! ## The conditions of a scrape (R164) -/

/-- The record of the confirmed code, where it permits scraping. -/
def Permits (s : State) (c : Nat) (r : SystemRecord) : Prop :=
  s.lm.confirmed = .system c ∧ systemRecord s c = some r ∧ r.scrapePermitted = .named true

/-- A pantograph is UP in role COLLECT. -/
def Collects (s : State) (p : Pan) : Prop := (panOf s p).state = .up ∧ (panOf s p).role = some .collect

/-- R164: conditions 1 to 5. -/
def groundClauses (trigger : IceTrigger) (s : State) : List Prop :=
  [s.vl.mode = .run, s.co.step = .idle ∧ trigger ≠ .step, s.ice.inhibit = false, ∃ c r, Permits s c r,
   ∃ c r, Permits s c r ∧ (if s.pr.position.last = none then 0 else s.pr.position.speed) ≤ r.scrapeSpeed.getD 0]

/-- R164: conditions 1 to 6. -/
def scrapeClauses (trigger : IceTrigger) (s : State) : List Prop := groundClauses trigger s ++ [∃ p, Collects s p]

theorem scrapeRecord_eq_some_iff (s : State) (r : SystemRecord) : scrapeRecord s = some r ↔ ∃ c, Permits s c r := by
  simp [scrapeRecord, Permits, Option.filter_eq_some_iff, Option.bind_eq_some_iff, confirmedCode_eq_some_iff, ← and_assoc]

theorem collects_of_collectingPan {s : State} {p : Pan} (h : collectingPan s = some p) : Collects s p := by
  rw [Collects, ← PanRecord.collecting_iff]
  unfold collectingPan at h
  split at h
  · rename_i up
    cases h
    exact up
  · split at h <;> cases h
    assumption

theorem collectingPan_isSome_iff (s : State) : (collectingPan s).isSome = true ↔ ∃ p, Collects s p := by
  refine ⟨fun h => ?_, fun ⟨p, collects⟩ => ?_⟩
  · obtain ⟨p, found⟩ := Option.isSome_iff_exists.1 h
    exact ⟨p, collects_of_collectingPan found⟩
  · have up := (PanRecord.collecting_iff _).2 collects
    unfold collectingPan
    cases p with
    | a => rw [if_pos (show s.pans.a.collecting = true from up)]; rfl
    | b => rw [if_pos (show s.pans.b.collecting = true from up)]; split <;> rfl

/-- The tests of R164 decide its conditions one by one. -/
theorem scrapeConditions_decide (trigger : IceTrigger) (s : State) :
    List.Forall₂ (fun b c => b = true ↔ c) (scrapeConditions trigger s) (scrapeClauses trigger s) := by
  have slow : ((scrapeRecord s).any fun r => decide (speed s ≤ r.scrapeSpeed.getD 0)) = true ↔ ∃ c r, Permits s c r ∧
      (if s.pr.position.last = none then 0 else s.pr.position.speed) ≤ r.scrapeSpeed.getD 0 := by
    have still : speed s = if s.pr.position.last = none then 0 else s.pr.position.speed := by simp [speed]
    simp only [Option.any_eq_true, decide_eq_true_eq, scrapeRecord_eq_some_iff, still, exists_and_right.symm]
    exact exists_comm
  have permitted : (scrapeRecord s).isSome = true ↔ ∃ c r, Permits s c r := by
    simp only [Option.isSome_iff_exists, scrapeRecord_eq_some_iff]
    exact exists_comm
  simp [scrapeConditions, scrapeClauses, groundClauses, slow, permitted, collectingPan_isSome_iff]

/-- The first test that fails after tests that pass is the one found. -/
theorem findIdx_of_first {tests : List Bool} {before after : List Prop} {c : Prop}
    (decided : List.Forall₂ (fun b c => b = true ↔ c) tests (before ++ c :: after)) (stand : ∀ x ∈ before, x) (fails : ¬ c) :
    tests.findIdx? (fun holds => !holds) = some before.length := by
  induction before generalizing tests with
  | nil =>
    obtain ⟨b, rest, same, -, rfl⟩ := List.forall₂_cons_right_iff.1 decided
    simp [List.findIdx?_cons, mt same.1 fails]
  | cons x before ih =>
    obtain ⟨b, rest, same, later, rfl⟩ := List.forall₂_cons_right_iff.1 decided
    rw [List.forall_mem_cons] at stand
    simp [List.findIdx?_cons, same.2 stand.1, ih later stand.2]

theorem findIdx_none_iff {tests : List Bool} {clauses : List Prop}
    (decided : List.Forall₂ (fun b c => b = true ↔ c) tests clauses) :
    tests.findIdx? (fun holds => !holds) = none ↔ ∀ c ∈ clauses, c := by
  induction decided with
  | nil => exact iff_of_true rfl nofun
  | @cons b c tests clauses same _ ih =>
    rw [List.forall_mem_cons, ← ih, ← same]
    cases b <;> simp [List.findIdx?_cons]

/-- R164: the first condition that fails after conditions that stand is the one found, numbered from 1. -/
theorem failingCondition_of_first {trigger : IceTrigger} {s : State} {before after : List Prop} {c : Prop}
    (split : scrapeClauses trigger s = before ++ c :: after) (stand : ∀ x ∈ before, x) (fails : ¬ c) :
    failingCondition trigger s = some (before.length + 1) := by
  rw [failingCondition, findIdx_of_first (split ▸ scrapeConditions_decide trigger s) stand fails]
  rfl

theorem failingCondition_none_iff (trigger : IceTrigger) (s : State) :
    failingCondition trigger s = none ↔ ∀ c ∈ scrapeClauses trigger s, c := by
  rw [failingCondition, Option.map_eq_none_iff, findIdx_none_iff (scrapeConditions_decide trigger s)]

/-- Conditions 1 to 5 read the ground and the inhibit. -/
theorem groundClauses_congr (trigger : IceTrigger) {s t : State} (ground : SameGround s t)
    (inhibit : t.ice.inhibit = s.ice.inhibit) : groundClauses trigger t = groundClauses trigger s := by
  simp only [groundClauses, Permits, systemRecord_congr ground.vl, ground.vl, ground.lm, ground.step, ground.position, inhibit]

/-- R164: the conditions that stood stand where a pantograph still collects. -/
theorem scrapeClauses_of_ground {trigger : IceTrigger} {s t : State} (ground : SameGround s t)
    (inhibit : t.ice.inhibit = s.ice.inhibit) (collects : (∃ p, Collects s p) → ∃ p, Collects t p)
    (allowed : ∀ c ∈ scrapeClauses trigger s, c) : ∀ c ∈ scrapeClauses trigger t, c := by
  rw [scrapeClauses, List.forall_mem_append, List.forall_mem_singleton] at *
  rw [groundClauses_congr trigger ground inhibit]
  exact ⟨allowed.1, collects allowed.2⟩

/-- R163, R164: SCRAPE is entered with a pantograph that is DOWN beside one that collects. -/
structure Enters (trigger : IceTrigger) (s : State) (p : Pan) : Prop where
  allowed : ∀ c ∈ scrapeClauses trigger s, c
  collects : Collects s (otherPan p)
  down : (panOf s p).state = .down
  score : (settings s).scrapeOn ≤ s.ice.score
  free : s.ice.holdOff = false

theorem otherPan_otherPan (p : Pan) : otherPan (otherPan p) = p := by cases p <;> rfl

theorem Enters.collecting {trigger : IceTrigger} {s : State} {p : Pan} (h : Enters trigger s p) :
    collectingPan s = some (otherPan p) := by
  have up := (PanRecord.collecting_iff _).2 h.collects
  have down : (panOf s p).collecting = false := by simp [PanRecord.collecting, h.down]
  unfold collectingPan
  cases p with
  | a =>
    rw [if_neg (by rw [show s.pans.a.collecting = false from down]; simp)]
    exact if_pos up
  | b => exact if_pos up

theorem enters_iff (trigger : IceTrigger) (s : State) : (∃ p, Enters trigger s p) ↔
    (settings s).scrapeOn ≤ s.ice.score ∧ scrapeEntry trigger s ∧ !s.ice.holdOff := by
  simp only [scrapeEntry, Bool.and_eq_true, Option.isNone_iff_eq_none, failingCondition_none_iff, otherDown]
  constructor
  · rintro ⟨p, h⟩
    refine ⟨h.score, ⟨h.allowed, ?_⟩, by simp [h.free]⟩
    simp [h.collecting, otherPan_otherPan, h.down]
  · rintro ⟨score, ⟨allowed, down⟩, free⟩
    obtain ⟨q, found, down⟩ := (Option.any_eq_true ..).1 down
    refine ⟨otherPan q, allowed, ?_, by simpa using down, score, by simpa using free⟩
    rw [otherPan_otherPan]
    exact collects_of_collectingPan found

/-! ## One transition (R163) -/

section

variable {trigger : IceTrigger} {a : Act}

theorem autoStep_of_inactive (state : a.s.ice.state = .inactive) :
    autoStep trigger a = some { act := a.modIce fun i => { i with state := .watch } } := by simp only [autoStep, state]

theorem autoStep_of_watch_cold (state : a.s.ice.state = .watch) (cold : a.s.ice.score < (settings a.s).heatOn) :
    autoStep trigger a = none := by simp only [autoStep, state, if_neg (Nat.not_le.2 cold)]

theorem autoStep_of_watch_warm (state : a.s.ice.state = .watch) (warm : (settings a.s).heatOn ≤ a.s.ice.score) :
    autoStep trigger a = some { act := a.modIce fun i => { i with state := .heat } } := by simp only [autoStep, state, if_pos warm]

theorem autoStep_of_heat_cool (state : a.s.ice.state = .heat) (cool : a.s.ice.score ≤ (settings a.s).heatOff) :
    autoStep trigger a = some { act := a.modIce fun i => { i with state := .watch } } := by simp only [autoStep, state, if_pos cool]

theorem autoStep_of_heat_stays (state : a.s.ice.state = .heat) (hot : (settings a.s).heatOff < a.s.ice.score)
    (stays : ¬ ∃ p, Enters trigger a.s p) : autoStep trigger a = none := by
  simp only [autoStep, state, if_neg (Nat.not_le.2 hot), if_neg ((enters_iff trigger a.s).not.1 stays)]

theorem autoStep_of_heat_enters {p : Pan} (state : a.s.ice.state = .heat) (hot : (settings a.s).heatOff < a.s.ice.score)
    (enters : Enters trigger a.s p) : autoStep trigger a = some (.ofAsked (entryAsked p a)) := by
  simp only [autoStep, state, if_neg (Nat.not_le.2 hot), if_pos ((enters_iff trigger a.s).1 ⟨p, enters⟩), enters.collecting,
    Option.map_some, enterScrape_eq, otherPan_otherPan]

theorem autoStep_of_scrape (state : a.s.ice.state = .scrape) : autoStep trigger a = scrapeStep trigger a := by
  simp only [autoStep, state]

theorem scrapeStep_of_score (low : a.s.ice.score ≤ (settings a.s).scrapeOff) :
    scrapeStep trigger a = some { act := (leaveScrape a).modIce fun i => { i with state := .heat } } := if_pos low

theorem scrapeStep_of_failing {k : Nat} (high : (settings a.s).scrapeOff < a.s.ice.score)
    (failing : failingCondition trigger a.s = some k) : scrapeStep trigger a =
      some { act := (leaveScrape a).modIce fun i => { i with state := .heat }, cause := some (.permission k) } := by
  rw [scrapeStep, if_neg (Nat.not_le.2 high), failing]

theorem scrapeStep_of_unexpected {p : Pan} (high : (settings a.s).scrapeOff < a.s.ice.score)
    (allowed : ∀ c ∈ scrapeClauses trigger a.s, c) (unexpected : scrapePanExpected a.s = false)
    (pan : a.s.ice.scrapePan = some p) : scrapeStep trigger a =
      some { act := failEntry a, cause := some (.scrapePan (panOf a.s p).state) } := by
  rw [scrapeStep, if_neg (Nat.not_le.2 high), (failingCondition_none_iff _ _).2 allowed]
  simp [unexpected, pan]

theorem scrapeStep_of_opening {p : Pan} (high : (settings a.s).scrapeOff < a.s.ice.score)
    (allowed : ∀ c ∈ scrapeClauses trigger a.s, c) (expected : scrapePanExpected a.s = true)
    (pan : a.s.ice.scrapePan = some p) (phase : a.s.ice.phase = some .isoOpening) :
    scrapeStep trigger a = testIsoOpening p a := by
  rw [scrapeStep, if_neg (Nat.not_le.2 high), (failingCondition_none_iff _ _).2 allowed]
  simp [expected, pan, phase]

theorem scrapeStep_of_raised (high : (settings a.s).scrapeOff < a.s.ice.score)
    (allowed : ∀ c ∈ scrapeClauses trigger a.s, c) (expected : scrapePanExpected a.s = true)
    (phase : a.s.ice.phase ≠ some .isoOpening) : scrapeStep trigger a = none := by
  rw [scrapeStep, if_neg (Nat.not_le.2 high), (failingCondition_none_iff _ _).2 allowed]
  simp only [expected, if_true]
  split
  · rename_i opening
    exact absurd opening phase
  · rfl

/-! ## The transitions in their order (R163) -/

theorem autoSteps_of_none {n : Nat} {cause : Option IceCause} (e : autoStep trigger a = none) :
    autoSteps trigger n a cause = (a, cause) := by
  cases n with
  | zero => rfl
  | succ n => rw [autoSteps, e]

theorem autoSteps_of_some {n : Nat} {cause : Option IceCause} {m : IceMove} (e : autoStep trigger a = some m) :
    autoSteps trigger (n + 1) a cause = autoSteps trigger n m.act (m.cause <|> cause) := by rw [autoSteps, e]

/-- R163: HEAT with its score at or below heat_off passes to WATCH. -/
def cooled (a : Act) : Act :=
  if a.s.ice.score ≤ (settings a.s).heatOff then a.modIce fun i => { i with state := .watch } else a

theorem cooled_of_hot (hot : (settings a.s).heatOff < a.s.ice.score) : cooled a = a := if_neg (Nat.not_le.2 hot)

/-- R160, R163: from HEAT, with no entry of SCRAPE to follow, the transitions end in HEAT or in WATCH. -/
theorem autoSteps_of_heat {n : Nat} {cause : Option IceCause} (state : a.s.ice.state = .heat)
    (order : (settings a.s).heatOff < (settings a.s).heatOn)
    (stays : (settings a.s).heatOff < a.s.ice.score → ¬ ∃ p, Enters trigger a.s p) :
    autoSteps trigger (n + 2) a cause = (cooled a, cause) := by
  unfold cooled
  split <;> rename_i score
  · rw [autoSteps_of_some (autoStep_of_heat_cool state score)]
    exact autoSteps_of_none (autoStep_of_watch_cold (a := a.modIce fun i => { i with state := .watch }) rfl
      (score.trans_lt order))
  · exact autoSteps_of_none (autoStep_of_heat_stays state (Nat.not_le.1 score) (stays (Nat.not_le.1 score)))

/-- R163: the transitions from INACTIVE and WATCH pass through HEAT at a score that reaches heat_on. -/
theorem autoSteps_to_heat (state : a.s.ice.state ≠ .scrape)
    (warm : a.s.ice.state = .heat ∨ (settings a.s).heatOn ≤ a.s.ice.score) :
    ∃ n, autoSteps trigger 8 a none = autoSteps trigger (n + 3) (a.modIce fun i => { i with state := .heat }) none := by
  let watching := a.modIce fun i => { i with state := .watch }
  cases now : a.s.ice.state with
  | inactive =>
    have warm := warm.resolve_left (by simp [now])
    refine ⟨3, (autoSteps_of_some (autoStep_of_inactive now)).trans ?_⟩
    exact autoSteps_of_some (autoStep_of_watch_warm (a := watching) rfl warm)
  | watch => exact ⟨4, autoSteps_of_some (autoStep_of_watch_warm now (warm.resolve_left (by simp [now])))⟩
  | heat =>
    have same : (a.modIce fun i => { i with state := .heat }) = a := by simp only [Act.modIce, ← now]
    exact ⟨5, by rw [same]⟩
  | scrape => exact absurd now state

end

end Sys2Proof.Machine

namespace Sys2Proof.Machine

/-! SUPPORT. The entry to SCRAPE, and its end, as an evaluation comes to them (R163 to R166). -/

/-! ## What a raise and a move request answer (R44 to R46, R70, R71, R96) -/

/-- R95, R96, R183: the answer to a command that a block presents, read from the state. -/
def answerTo (c : Command) (s : State) : Answer :=
  if c.content.taken c.role then
    match judge s c with
    | some f => .refused f
    | none => if rolePresent s c.role && (directoryOfRole s c.role).isSome then .sent else .absent
  else .refused .kind

theorem deliver_answer (c : Command) (a : Act) :
    (deliver c a).2 = (rolePresent a.s c.role && (directoryOfRole a.s c.role).isSome) := by
  unfold deliver
  split
  · rename_i present record
    simp [present, record]
  · rename_i away
    cases present : rolePresent a.s c.role with
    | false => rfl
    | true =>
      cases record : directoryOfRole a.s c.role with
      | none => rfl
      | some r => exact (away r present record).elim

theorem present_answer (c : Command) (a : Act) : (present c a).2 = answerTo c a.s := by
  have delivered := deliver_answer c a
  obtain ⟨b, ok, sent⟩ : ∃ b ok, deliver c a = (b, ok) := ⟨_, _, rfl⟩
  rw [sent] at delivered
  by_cases taken : c.content.taken c.role = true
  · cases judged : judge a.s c with
    | some f => simp only [present, answerTo, taken, judged, if_true]
    | none =>
      simp only [present, answerTo, taken, judged, sent, ← delivered, if_true]
      cases ok <;> rfl
  · simp only [present, answerTo, taken]
    rfl

/-- R44 to R46: the answer to a raise, read from the state. -/
def raiseAnswer (p : Pan) (role : PanRole) (profile : Nat) (o : Origin) (s : State) : RaiseAnswer :=
  match raiseRefusal s p role profile with
  | some r => { result := r }
  | none =>
    match firstFailed (raiseClauses s p role) with
    | some f => { result := .interlock, failed := some f }
    | none =>
      match profileRecord s profile with
      | none => { result := .range }
      | some pr =>
        let first := pr.stages.headD { target := 0, rate := 10 }
        match answerTo (rampCommand p first.target first.rate o) s with
        | .refused f => { result := .interlock, failed := some f }
        | .sent => { result := .accepted }
        | .absent => { result := .accepted }

theorem raisePan_answer (p : Pan) (role : PanRole) (profile : Nat) (o : Origin) (a : Act) :
    (raisePan p role profile o a).2 = raiseAnswer p role profile o a.s := by
  cases checked : raiseRefusal a.s p role profile with
  | some r => simp only [raisePan, raiseAnswer, checked]
  | none =>
    cases passed : firstFailed (raiseClauses a.s p role) with
    | some f => simp only [raisePan, raiseAnswer, checked, passed]
    | none =>
      cases record : profileRecord a.s profile with
      | none => simp only [raisePan, raiseAnswer, checked, passed, record]
      | some pr =>
        simp only [raisePan, raiseAnswer, checked, passed, record, ← present_answer]
        split <;> rename_i e <;> simp only [e]

/-- The answer to a raise does not read the Ice Record. -/
theorem raisePan_answer_modIce (p : Pan) (role : PanRole) (profile : Nat) (o : Origin) (f : Ice → Ice) (a : Act) :
    (raisePan p role profile o (a.modIce f)).2 = (raisePan p role profile o a).2 :=
  (raisePan_answer ..).trans (raisePan_answer p role profile o a).symm

/-- R70, R71: the answer to a move request of an internal origin, read from the state. -/
def moveAnswerTo (d : Dev) (target : Pos) (o : Origin) (s : State) : MoveResult :=
  if (devTargets d).contains target then
    match moveCheck s d target with
    | .join => .already
    | .busy => .busy
    | .free =>
      match answerTo (moveCommand d target o) s with
      | .sent => .accepted
      | .absent => .headAbsent
      | .refused f => .interlock f
  else .range

theorem moveRequest_answer (d : Dev) (target : Pos) (o : Origin) (a : Act) :
    (moveRequest d target o a).2 = moveAnswerTo d target o a.s := by
  by_cases commandable : (devTargets d).contains target = true
  · cases check : moveCheck a.s d target with
    | join => simp only [moveRequest, moveAnswerTo, commandable, check, if_true]
    | busy => simp only [moveRequest, moveAnswerTo, commandable, check, if_true]
    | free =>
      simp only [moveRequest, moveAnswerTo, commandable, check, if_true, ← present_answer]
      split <;> rename_i e <;> simp only [e]
  · simp only [moveRequest, moveAnswerTo, commandable]
    rfl

/-- The answer to a move request does not read the Ice Record. -/
theorem moveRequest_answer_modIce (d : Dev) (target : Pos) (o : Origin) (f : Ice → Ice) (a : Act) :
    (moveRequest d target o (a.modIce f)).2 = (moveRequest d target o a).2 :=
  (moveRequest_answer ..).trans (moveRequest_answer d target o a).symm

/-- R70, R71: a request that is not refused leaves its device MOVING. -/
theorem moveRequest_leaves_moving {d : Dev} {target : Pos} {o : Origin} {a : Act}
    (taken : moveAnswer (moveRequest d target o a).2 = none) : (devOf (moveRequest d target o a).1.s d).move ≠ none := by
  refine moveRequest_moving (r := (moveRequest d target o a).2) rfl ?_
  cases answer : (moveRequest d target o a).2 with
  | accepted => rfl
  | already => rfl
  | _ =>
    rw [answer] at taken
    cases taken

theorem raiseRefusal_ne_accepted (s : State) (p : Pan) (role : PanRole) (profile : Nat) :
    raiseRefusal s p role profile ≠ some .accepted := by
  intro accepted
  unfold raiseRefusal at accepted
  dsimp only at accepted
  split at accepted
  · cases accepted
  · split at accepted
    · cases accepted
    · split at accepted
      · cases accepted
      · split at accepted
        case h_3 => split at accepted <;> cases accepted
        case h_4 => split at accepted <;> cases accepted
        all_goals cases accepted

/-- R46: a raise that is accepted, with the strip switch inactive, raises a pantograph that was DOWN, and that alone. -/
theorem raisePan_of_accepted {p : Pan} {role : PanRole} {profile : Nat} {o : Origin} {a : Act}
    (accepted : (raisePan p role profile o a).2.result = .accepted) (strip : stripActive a.s p = false) :
    (panOf a.s p).state = .down ∧ (panOf (raisePan p role profile o a).1.s p).state = .raising
      ∧ (panOf (raisePan p role profile o a).1.s p).role = some role
      ∧ panOf (raisePan p role profile o a).1.s (otherPan p) = panOf a.s (otherPan p) := by
  cases checked : raiseRefusal a.s p role profile with
  | some r =>
    rw [raisePan_of_refusal checked] at accepted
    exact absurd (checked.trans (congrArg some accepted)) (raiseRefusal_ne_accepted _ _ _ _)
  | none =>
    obtain ⟨-, -, -, down⟩ := (raiseRefusal_none_iff _ _ _ _).1 checked
    have taken (b : Act) (pr : ProfileRecord) (first : Stage) (aside : Aside a b) (outside : b.s.outside = a.s.outside) :
        (panOf (takeRaise p role pr first o b).s p).state = .raising
          ∧ (panOf (takeRaise p role pr first o b).s p).role = some role
          ∧ panOf (takeRaise p role pr first o b).s (otherPan p) = panOf a.s (otherPan p) := by
      have unstripped : stripActive b.s p = false := (functionActive_of_outside outside _).trans strip
      rw [takeRaise_eq, unstripped, if_neg Bool.false_ne_true]
      simp [raiseTaken, panOf, State.reported, raisedRecord, aside.pans]
    refine ⟨down, ?_⟩
    unfold raisePan at accepted ⊢
    rw [checked] at accepted ⊢
    dsimp only at accepted ⊢
    split at accepted
    · cases accepted
    · split at accepted
      · cases accepted
      · split at accepted <;> rename_i e
        · cases accepted
        · exact taken _ _ _ (present_eq_aside e) (present_eq_outside e)
        · exact taken _ _ _ (present_eq_aside e) (present_eq_outside e)

end Sys2Proof.Machine

namespace Sys2Proof.Machine

/-! SUPPORT. The transitions that one evaluation makes, from each state of the Ice Record (R162 to R166). -/

/-! ## The evaluation by the mode, the setting and the tables (R162) -/

theorem iceOff_iff (s : State) : iceOff s = true ↔ s.vl.mode = .standby ∨ s.ice.setting = .off
    ∨ s.vl.tables.heater.load ≠ .valid ∨ s.vl.tables.climate.load ≠ .valid := by
  simp [iceOff, or_assoc]

section

variable {trigger : IceTrigger} {a : Act}

theorem iceTransition_of_off (off : iceOff a.s = true) (state : a.s.ice.state ≠ .inactive) :
    iceTransition trigger a = ((leaveScrape a).modIce fun i => { i with state := .inactive }, none) := by
  rw [iceTransition, if_pos off, if_neg state]

theorem iceTransition_of_off_inactive (off : iceOff a.s = true) (state : a.s.ice.state = .inactive) :
    iceTransition trigger a = (a, none) := by
  rw [iceTransition, if_pos off, if_pos state]

theorem iceTransition_of_force (on : ¬ iceOff a.s = true) (force : a.s.ice.setting = .forceHeat) (state : a.s.ice.state ≠ .heat) :
    iceTransition trigger a = ((leaveScrape a).modIce fun i => { i with state := .heat }, none) := by
  rw [iceTransition, if_neg on, if_pos force, if_neg state]

theorem iceTransition_of_force_heat (on : ¬ iceOff a.s = true) (force : a.s.ice.setting = .forceHeat)
    (state : a.s.ice.state = .heat) : iceTransition trigger a = (a, none) := by
  rw [iceTransition, if_neg on, if_pos force, if_pos state]

theorem iceTransition_of_auto (on : ¬ iceOff a.s = true) (auto : a.s.ice.setting = .auto) :
    iceTransition trigger a = autoSteps trigger 8 (promotePhase a) none := by
  rw [iceTransition, if_neg on, if_neg (by simp [auto])]

/-! ## The phase of a scrape (R166) -/

theorem promotePhase_modIce (a : Act) : ∃ phase, promotePhase a = a.modIce fun i => { i with phase } := by
  unfold promotePhase
  split
  · split
    · exact ⟨some .active, rfl⟩
    · exact ⟨a.s.ice.phase, rfl⟩
  · exact ⟨a.s.ice.phase, rfl⟩

theorem promotePhase_of_up {p : Pan} (phase : a.s.ice.phase = some .raising) (pan : a.s.ice.scrapePan = some p)
    (up : (panOf a.s p).state = .up ∧ (panOf a.s p).role = some .scrape) :
    promotePhase a = a.modIce fun i => { i with phase := some .active } := by
  rw [promotePhase, phase, pan]
  exact if_pos up

theorem promotePhase_of_still {p : Pan} (pan : a.s.ice.scrapePan = some p)
    (still : a.s.ice.phase = some .raising → ¬ ((panOf a.s p).state = .up ∧ (panOf a.s p).role = some .scrape)) :
    promotePhase a = a := by
  unfold promotePhase
  split
  · rename_i q phase found
    cases pan.symm.trans found
    exact if_neg (still phase)
  · rfl

/-- R164 condition 7: what a phase expects of the scrape pan. -/
def ScrapePhase.expects (r : PanRecord) : ScrapePhase → Prop
  | .isoOpening => r.state = .down
  | .raising => r.state = .raising ∧ r.role = some .scrape
  | .active => r.state = .up ∧ r.role = some .scrape

theorem scrapePanExpected_iff {s : State} {p : Pan} {phase : ScrapePhase} (pan : s.ice.scrapePan = some p)
    (now : s.ice.phase = some phase) : scrapePanExpected s = true ↔ phase.expects (panOf s p) := by
  cases phase <;> simp [scrapePanExpected, ScrapePhase.expects, pan, now]

/-- R163 to R166: SCRAPE stands at a score, conditions and a scrape pan that keep it, while its switch moves or once it has
opened. -/
theorem autoStep_of_standing {p : Pan} {phase : ScrapePhase} (state : a.s.ice.state = .scrape)
    (high : (settings a.s).scrapeOff < a.s.ice.score) (allowed : ∀ c ∈ scrapeClauses trigger a.s, c)
    (pan : a.s.ice.scrapePan = some p) (now : a.s.ice.phase = some phase) (expected : phase.expects (panOf a.s p))
    (moving : phase = .isoOpening → (devOf a.s (isoOf p)).move ≠ none) : autoStep trigger a = none := by
  have expected := (scrapePanExpected_iff pan now).2 expected
  rw [autoStep_of_scrape state]
  by_cases opening : phase = .isoOpening
  · rw [scrapeStep_of_opening high allowed expected pan (opening ▸ now), testIsoOpening_of_moving (moving opening)]
  · exact scrapeStep_of_raised high allowed expected (by simpa [now] using opening)

/-! ## INACTIVE, WATCH and HEAT (R163) -/

/-- R163: the evaluation ends in WATCH. -/
theorem iceTransition_to_watch (on : ¬ iceOff a.s = true) (auto : a.s.ice.setting = .auto)
    (order : (settings a.s).heatOff < (settings a.s).heatOn)
    (cold : (a.s.ice.state = .inactive ∨ a.s.ice.state = .watch) ∧ a.s.ice.score < (settings a.s).heatOn
      ∨ a.s.ice.state = .heat ∧ a.s.ice.score ≤ (settings a.s).heatOff) :
    ∃ phase, iceTransition trigger a = (a.modIce fun i => { i with phase, state := .watch }, none) := by
  obtain ⟨phase, promoted⟩ := promotePhase_modIce a
  let x := a.modIce fun i => { i with phase }
  let watching := a.modIce fun i => { i with phase, state := .watch }
  have stays (score : a.s.ice.score < (settings a.s).heatOn) (n : Nat) : autoSteps trigger n watching none = (watching, none) :=
    autoSteps_of_none (autoStep_of_watch_cold (a := watching) rfl score)
  refine ⟨phase, ?_⟩
  rw [iceTransition_of_auto on auto, promoted]
  obtain ⟨state | state, score⟩ | ⟨state, score⟩ := cold
  · exact (autoSteps_of_some (autoStep_of_inactive (a := x) state)).trans (stays score 7)
  · have same : x = watching := by simp only [x, watching, Act.modIce, ← state]
    exact (congrArg (autoSteps trigger 8 · none) same).trans (stays score 8)
  · exact (autoSteps_of_some (autoStep_of_heat_cool (a := x) state score)).trans (stays (score.trans_lt order) 7)

/-- R163: from another state than SCRAPE, at a score that leads to HEAT, the transitions go on from HEAT. -/
theorem iceTransition_through_heat (on : ¬ iceOff a.s = true) (auto : a.s.ice.setting = .auto) (state : a.s.ice.state ≠ .scrape)
    (warm : a.s.ice.state = .heat ∨ (settings a.s).heatOn ≤ a.s.ice.score) :
    ∃ phase n, iceTransition trigger a = autoSteps trigger (n + 3) (a.modIce fun i => { i with phase, state := .heat }) none := by
  obtain ⟨phase, promoted⟩ := promotePhase_modIce a
  obtain ⟨n, steps⟩ := autoSteps_to_heat (trigger := trigger) (a := a.modIce fun i => { i with phase }) state warm
  refine ⟨phase, n, ?_⟩
  rw [iceTransition_of_auto on auto, promoted]
  exact steps

/-- R163: the evaluation ends in HEAT where no pantograph lets SCRAPE be entered. -/
theorem iceTransition_to_heat (on : ¬ iceOff a.s = true) (auto : a.s.ice.setting = .auto) (state : a.s.ice.state ≠ .scrape)
    (warm : a.s.ice.state = .heat ∨ (settings a.s).heatOn ≤ a.s.ice.score) (hot : (settings a.s).heatOff < a.s.ice.score)
    (stays : ¬ ∃ p, Enters trigger a.s p) :
    ∃ phase, iceTransition trigger a = (a.modIce fun i => { i with phase, state := .heat }, none) := by
  obtain ⟨phase, n, steps⟩ := iceTransition_through_heat (trigger := trigger) on auto state warm
  have none : ¬ ∃ p, Enters trigger (a.modIce fun i => { i with phase, state := .heat }).s p := fun ⟨p, h⟩ =>
    stays ⟨p, ⟨h.allowed, h.collects, h.down, h.score, h.free⟩⟩
  exact ⟨phase, steps.trans (autoSteps_of_none
    (autoStep_of_heat_stays (a := a.modIce fun i => { i with phase, state := .heat }) rfl hot none))⟩

/-- R163, R165: the evaluation enters SCRAPE. -/
theorem iceTransition_of_entry {p : Pan} (on : ¬ iceOff a.s = true) (auto : a.s.ice.setting = .auto)
    (state : a.s.ice.state ≠ .scrape) (hot : (settings a.s).heatOff < (settings a.s).heatOn)
    (order : (settings a.s).heatOn ≤ (settings a.s).scrapeOn) (enters : Enters trigger a.s p) :
    ∃ n, iceTransition trigger a =
      autoSteps trigger (n + 2) (IceMove.ofAsked (entryAsked p a)).act (IceMove.ofAsked (entryAsked p a)).cause := by
  have warm := order.trans enters.score
  obtain ⟨phase, n, steps⟩ := iceTransition_through_heat (trigger := trigger) on auto state (.inr warm)
  let x := a.modIce fun i => { i with phase, state := .heat }
  have entered : Enters trigger x.s p := ⟨enters.allowed, enters.collects, enters.down, enters.score, enters.free⟩
  have step : autoStep trigger x = some (.ofAsked (entryAsked p a)) :=
    autoStep_of_heat_enters (a := x) rfl (hot.trans_le warm) entered
  refine ⟨n, steps.trans ((autoSteps_of_some step).trans ?_)⟩
  cases (IceMove.ofAsked (entryAsked p a)).cause <;> rfl

/-! ## The end of SCRAPE (R163 to R166) -/

/-- R166: SCRAPE is left for HEAT, with a hold-off. -/
def endScrape (holdOff : Bool) (x : Act) : Act := (leaveScrape x).modIce fun i => { i with state := .heat, holdOff }

theorem failEntry_eq (x : Act) : failEntry x = endScrape true x := rfl

theorem leaveForHeat_eq (x : Act) : ((leaveScrape x).modIce fun i => { i with state := .heat }) = endScrape x.s.ice.holdOff x := by
  have kept : (leaveScrape x).s.ice.holdOff = x.s.ice.holdOff := by rw [leaveScrape_ice]
  simp only [endScrape, Act.modIce, ← kept]

theorem endScrape_ice (holdOff : Bool) (x : Act) :
    (endScrape holdOff x).s.ice = { x.s.ice with scrapePan := none, phase := none, state := .heat, holdOff } := by
  rw [endScrape, Act.modIce_ice, leaveScrape_ice]

theorem endScrape_ground (holdOff : Bool) (x : Act) : SameGround x.s (endScrape holdOff x).s :=
  (leaveScrape_ground x).trans (modIce_ground _ _)

theorem endScrape_raised {holdOff : Bool} {x : Act} {p : Pan} (up : (panOf (endScrape holdOff x).s p).raised = true) :
    x.s.ice.scrapePan ≠ some p ∧ panOf (endScrape holdOff x).s p = panOf x.s p := leaveScrape_raised x p up

theorem endScrape_collects {holdOff : Bool} {x : Act} {p : Pan} (h : Collects (endScrape holdOff x).s p) : Collects x.s p := by
  have up : (panOf (endScrape holdOff x).s p).raised = true := (PanRecord.raised_iff _).2 (.inr h.1)
  rwa [Collects, (endScrape_raised up).2] at h

/-- With the hold-off set SCRAPE is not entered. -/
theorem not_enters_of_holdOff (x : Act) : ¬ ∃ p, Enters trigger (endScrape true x).s p := fun ⟨p, h⟩ => by
  have free := h.free
  simp [endScrape_ice] at free

/-- R164: a condition that failed in SCRAPE fails once it is left, so that SCRAPE is not entered again. -/
theorem not_enters_of_failing {holdOff : Bool} {x : Act} (failing : ¬ ∀ c ∈ scrapeClauses trigger x.s, c) :
    ¬ ∃ p, Enters trigger (endScrape holdOff x).s p := fun ⟨p, h⟩ => by
  have inhibit : x.s.ice.inhibit = (endScrape holdOff x).s.ice.inhibit := by rw [endScrape_ice]
  have back : SameGround (endScrape holdOff x).s x.s :=
    let ⟨vl, lm, step, position⟩ := endScrape_ground holdOff x
    ⟨vl.symm, lm.symm, step.symm, position.symm⟩
  exact failing (scrapeClauses_of_ground back inhibit (fun ⟨q, collects⟩ => ⟨q, endScrape_collects collects⟩) h.allowed)

/-- The cause that an evaluation names where no permission and no entry does, out of INACTIVE (assumption log 23). -/
def activeCause (trigger : IceTrigger) (before : IceState) : IceCause :=
  match trigger with
  | .mode => .mode
  | .setting => .setting
  | .step => if before = .inactive then .mode else .score
  | .other => if before = .inactive then .mode else .score

theorem plainCause_of_inactive {s : State} (trigger : IceTrigger) (before : IceState) (inactive : s.ice.state = .inactive) :
    plainCause s before trigger = if s.vl.mode = .standby then .mode else .setting := if_pos inactive

theorem plainCause_of_active {s : State} (trigger : IceTrigger) (before : IceState) (active : s.ice.state ≠ .inactive) :
    plainCause s before trigger = activeCause trigger before := if_neg active

/-- R166: neither scrape pan nor phase is left, and the scrape pan of before is not raised. -/
def ScrapeOver (before : Ice) (t : State) : Prop :=
  t.ice.scrapePan = none ∧ t.ice.phase = none ∧ ∀ p, before.scrapePan = some p → (panOf t p).raised = false

/-- An evaluation that has left SCRAPE, for WATCH or HEAT by its score, with its report. -/
structure LeftScrape (trigger : IceTrigger) (a : Act) (holdOff : Bool) (cause : IceCause) : Prop where
  ended : ScrapeOver a.s.ice (evaluateIce trigger a).s
  cool : a.s.ice.score ≤ (settings a.s).heatOff → (evaluateIce trigger a).s.ice.state = .watch
  hot : (settings a.s).heatOff < a.s.ice.score → (evaluateIce trigger a).s.ice.state = .heat
  holdOff : (evaluateIce trigger a).s.ice.holdOff = holdOff
  told : IceTold (evaluateIce trigger a).s .scrape (evaluateIce trigger a).s.ice.state cause

theorem cooled_ice (a : Act) : (cooled a).s.ice = { a.s.ice with state := (cooled a).s.ice.state } := by
  unfold cooled
  split <;> rfl

theorem cooled_pans (a : Act) : (cooled a).s.pans = a.s.pans := by
  unfold cooled
  split <;> rfl

/-- R163, R166: SCRAPE is left by one transition, after a phase that may have become ACTIVE or a raise that was asked for. -/
theorem leftScrape_of_step {x : Act} {holdOff : Bool} {cause : Option IceCause} (on : ¬ iceOff a.s = true)
    (auto : a.s.ice.setting = .auto) (state : a.s.ice.state = .scrape) (ground : SameGround a.s x.s)
    (pan : x.s.ice.scrapePan = a.s.ice.scrapePan) (score : x.s.ice.score = a.s.ice.score)
    (order : (settings a.s).heatOff < (settings a.s).heatOn)
    (step : autoStep trigger (promotePhase a) = some { act := endScrape holdOff x, cause })
    (stays : ¬ ∃ p, Enters trigger (endScrape holdOff x).s p) :
    LeftScrape trigger a holdOff (cause.getD (activeCause trigger .scrape)) := by
  have ice := endScrape_ice holdOff x
  have same : settings (endScrape holdOff x).s = settings a.s := (ground.trans (endScrape_ground holdOff x)).settings
  have scored : (endScrape holdOff x).s.ice.score = a.s.ice.score := by rw [ice]; exact score
  have steps : iceTransition trigger a = (cooled (endScrape holdOff x), cause) := by
    have named : (cause <|> none) = cause := by cases cause <;> rfl
    rw [iceTransition_of_auto on auto, autoSteps_of_some step, named]
    exact autoSteps_of_heat (by rw [ice]) (same ▸ order) fun _ => stays
  have done := resolved steps
  have cool : a.s.ice.score ≤ (settings a.s).heatOff → (cooled (endScrape holdOff x)).s.ice.state = .watch := fun low => by
    rw [cooled, if_pos (by rw [same, scored]; exact low)]
    rfl
  have hot : (settings a.s).heatOff < a.s.ice.score → (cooled (endScrape holdOff x)).s.ice.state = .heat := fun high => by
    rw [cooled_of_hot (by rw [same, scored]; exact high), ice]
  have left : (cooled (endScrape holdOff x)).s.ice.state ≠ .scrape ∧ (cooled (endScrape holdOff x)).s.ice.state ≠ .inactive := by
    obtain low | high := Nat.lt_or_ge (settings a.s).heatOff a.s.ice.score
    · simp [hot low]
    · simp [cool high]
  refine ⟨⟨?_, ?_, fun p scraping => ?_⟩, fun low => done.state.trans (cool low), fun high => done.state.trans (hot high), ?_, ?_⟩
  · rw [done.scrapePan, cooled_ice, ice]
  · rw [done.phase, cooled_ice, ice]
  · rw [panOf, done.pans, cooled_pans]
    exact Bool.eq_false_iff.2 fun up => (endScrape_raised (p := p) up).1 (pan.trans scraping)
  · rw [done.holdOff, cooled_ice, ice]
  · have told := done.told (.inl (state ▸ left.1))
    rwa [plainCause_of_active _ _ left.2, state, ← done.state] at told

end

end Sys2Proof.Machine

namespace Sys2Proof.Machine

/-! O47: what an event and its evaluation make of the ice state (R160, R162 to R166, R169, R171). -/

/-! ## An entry to SCRAPE (R165) -/

section

variable {trigger : IceTrigger} {a : Act} {p : Pan}

theorem scrapeProfile_of_permits {s : State} {c : Nat} {r : SystemRecord} (permits : Permits s c r) :
    scrapeProfile s = r.scrapeProfile.getD 0 := by
  rw [scrapeProfile, (scrapeRecord_eq_some_iff s r).2 ⟨c, permits⟩]
  rfl

theorem scrapeRaised_answer {c : Nat} {r : SystemRecord} (permits : Permits a.s c r) :
    (scrapeRaised p a).2 = (raisePan p .scrape (r.scrapeProfile.getD 0) .ice a).2 := by
  rw [scrapeRaised, scrapeProfile_of_permits permits, raisePan_answer_modIce]

theorem askScrapeRaise_of_accepted (accepted : (scrapeRaised p a).2.result = .accepted) :
    askScrapeRaise p a = ((scrapeRaised p a).1, none) := by
  rw [askScrapeRaise_eq, if_pos accepted]

theorem askScrapeRaise_of_refused (refused : (scrapeRaised p a).2.result ≠ .accepted) :
    askScrapeRaise p a = ((scrapeRaised p a).1, some (scrapeRaised p a).2.result) := by
  rw [askScrapeRaise_eq, if_neg refused]

theorem entryAsked_of_opened (opened : (devOf a.s (isoOf p)).reported = .opened) (idle : (devOf a.s (isoOf p)).move = none) :
    entryAsked p a = askScrapeRaise p (scrapeEntered p a) :=
  if_pos (by simp [reportedIdle, opened, (idle_iff _).2 idle])

theorem entryAsked_of_not_opened
    (shut : ¬ ((devOf a.s (isoOf p)).reported = .opened ∧ (devOf a.s (isoOf p)).move = none)) : entryAsked p a =
      ((moveRequest (isoOf p) .opened .ice (scrapeEntered p a)).1, moveAnswer (moveRequest (isoOf p) .opened .ice a).2) := by
  rw [← moveRequest_answer_modIce (isoOf p) .opened .ice
    (fun i => { i with state := .scrape, scrapePan := some p, phase := some .isoOpening }) a]
  exact if_neg (by simpa [reportedIdle, idle_iff] using shut)

theorem entryAsked_ground (p : Pan) (a : Act) : SameGround a.s (entryAsked p a).1.s := by
  refine (modIce_ground _ a : SameGround a.s (scrapeEntered p a).s).trans ?_
  unfold entryAsked
  split
  · rw [askScrapeRaise_eq]
    exact scrapeRaised_ground ..
  · exact moveRequest_ground ..

theorem entryAsked_score (p : Pan) (a : Act) : (entryAsked p a).1.s.ice.score = a.s.ice.score :=
  (congrArg Ice.score (entryAsked_standing p a) :)

/-- R165: a raise that has been taken keeps SCRAPE: its pantograph is RAISING to scrape, and the other still collects. -/
theorem autoStep_of_raise (state : a.s.ice.state = .scrape) (pan : a.s.ice.scrapePan = some p)
    (high : (settings a.s).scrapeOff < a.s.ice.score) (allowed : ∀ c ∈ scrapeClauses trigger a.s, c)
    (accepted : (scrapeRaised p a).2.result = .accepted) (strip : stripActive a.s p = false) :
    autoStep trigger (scrapeRaised p a).1 = none := by
  obtain ⟨down, raising, role, other⟩ :=
    raisePan_of_accepted (a := a.modIce fun i => { i with phase := some .raising }) accepted strip
  have ice := scrapeRaised_ice p a
  have ground := scrapeRaised_ground p a
  have collects : (∃ q, Collects a.s q) → ∃ q, Collects (scrapeRaised p a).1.s q := by
    rintro ⟨q, up, collect⟩
    obtain rfl | rfl := eq_or_eq_otherPan p q
    · exact absurd (up.symm.trans down) (by simp)
    · exact ⟨_, (congrArg PanRecord.state other).trans up, (congrArg PanRecord.role other).trans collect⟩
  refine autoStep_of_standing (p := p) (phase := .raising) ?_ ?_
    (scrapeClauses_of_ground ground (by rw [ice]) collects allowed) ?_ ?_ ⟨raising, role⟩ nofun
  · rw [ice]; exact state
  · rw [ground.settings, ice]; exact high
  · rw [ice]; exact pan
  · rw [ice]

/-- An evaluation that ends in SCRAPE, in a phase. -/
structure InScrape (trigger : IceTrigger) (a : Act) (p : Pan) (phase : ScrapePhase) : Prop where
  state : (evaluateIce trigger a).s.ice.state = .scrape
  pan : (evaluateIce trigger a).s.ice.scrapePan = some p
  phase : (evaluateIce trigger a).s.ice.phase = some phase

theorem inScrape_of_resolved {b : Act} {cause : Option IceCause} {phase : ScrapePhase} (h : Resolved trigger a b cause)
    (state : b.s.ice.state = .scrape) (pan : b.s.ice.scrapePan = some p) (now : b.s.ice.phase = some phase) :
    InScrape trigger a p phase :=
  ⟨h.state.trans state, h.scrapePan.trans pan, h.phase.trans now⟩

section

variable (on : ¬ iceOff a.s = true) (auto : a.s.ice.setting = .auto) (order : (settings a.s).heatOff < (settings a.s).heatOn)

include on auto order

section

variable (state : a.s.ice.state ≠ .scrape) (above : (settings a.s).heatOn ≤ (settings a.s).scrapeOn)

include state above

/-- R165: an entry whose request is taken, and that then stands, is the transition of the evaluation. -/
theorem iceTransition_of_taken {b : Act} (enters : Enters trigger a.s p) (asked : entryAsked p a = (b, none))
    (stands : autoStep trigger b = none) : iceTransition trigger a = (b, none) := by
  obtain ⟨n, steps⟩ := iceTransition_of_entry on auto state order above enters
  rw [steps, asked]
  exact autoSteps_of_none stands

/-- An entry that a refusal fails: HEAT with the hold-off set, and the refusing answer reported. -/
theorem failedEntry_of_refused {answer : Result} (enters : Enters trigger a.s p)
    (asked : (entryAsked p a).2 = some answer) :
    (let t := (evaluateIce trigger a).s
     t.ice.state = .heat ∧ t.ice.scrapePan = none ∧ t.ice.phase = none ∧ t.ice.holdOff = true
      ∧ IceTold t a.s.ice.state .heat (.entryFailed (some answer))) := by
  obtain ⟨n, steps⟩ := iceTransition_of_entry on auto state order above enters
  have ground := entryAsked_ground p a
  have score := entryAsked_score p a
  obtain ⟨b, refused, e⟩ : ∃ b refused, entryAsked p a = (b, refused) := ⟨_, _, rfl⟩
  rw [e] at steps asked ground score
  obtain rfl : refused = some answer := asked
  have ice := endScrape_ice true b
  have same : settings (endScrape true b).s = settings a.s := (ground.trans (endScrape_ground true b)).settings
  have hot : (settings (endScrape true b).s).heatOff < (endScrape true b).s.ice.score := by
    rw [same, ice]
    exact (order.trans_le (above.trans enters.score)).trans_eq score.symm
  have left : iceTransition trigger a = (endScrape true b, some (.entryFailed (some answer))) := by
    rw [steps, ← cooled_of_hot hot]
    exact autoSteps_of_heat (a := endScrape true b) (by rw [ice]) (same ▸ order) fun _ => not_enters_of_holdOff b
  have done := resolved left
  refine ⟨done.state.trans ?_, done.scrapePan.trans ?_, done.phase.trans ?_, done.holdOff.trans ?_, ?_⟩
  · rw [ice]
  · rw [ice]
  · rw [ice]
  · rw [ice]
  · have told := done.told (.inr rfl)
    rwa [show (endScrape true b).s.ice.state = .heat by rw [ice]] at told

/-- R165: an entry at an isolating switch that is OPEN, whose raise is taken. -/
theorem entry_of_raise (low : (settings a.s).scrapeOff < (settings a.s).scrapeOn) (enters : Enters trigger a.s p)
    (opened : (devOf a.s (isoOf p)).reported = .opened) (idle : (devOf a.s (isoOf p)).move = none)
    (accepted : (scrapeRaised p (scrapeEntered p a)).2.result = .accepted) (strip : stripActive a.s p = false) :
    InScrape trigger a p .raising
      ∧ IceTold (evaluateIce trigger a).s a.s.ice.state .scrape (activeCause trigger a.s.ice.state) := by
  have asked := (entryAsked_of_opened opened idle).trans (askScrapeRaise_of_accepted accepted)
  have stands := autoStep_of_raise (trigger := trigger) (a := scrapeEntered p a) rfl rfl (low.trans_le enters.score)
    enters.allowed accepted strip
  have ice := scrapeRaised_ice p (scrapeEntered p a)
  have done := resolved (iceTransition_of_taken on auto order state above enters asked stands)
  have scrape : (scrapeRaised p (scrapeEntered p a)).1.s.ice.state = .scrape := by rw [ice]; rfl
  refine ⟨inScrape_of_resolved done scrape (by rw [ice]; rfl) (by rw [ice]), ?_⟩
  have told := done.told (.inl (scrape ▸ state.symm))
  rwa [scrape, plainCause_of_active _ _ (by simp [scrape])] at told

/-- R165: an entry at another switch, whose move to OPEN is not refused. -/
theorem entry_of_move (low : (settings a.s).scrapeOff < (settings a.s).scrapeOn) (enters : Enters trigger a.s p)
    (shut : ¬ ((devOf a.s (isoOf p)).reported = .opened ∧ (devOf a.s (isoOf p)).move = none))
    (taken : moveAnswer (moveRequest (isoOf p) .opened .ice a).2 = none) :
    InScrape trigger a p .isoOpening
      ∧ IceTold (evaluateIce trigger a).s a.s.ice.state .scrape (activeCause trigger a.s.ice.state) := by
  let b := (moveRequest (isoOf p) .opened .ice (scrapeEntered p a)).1
  have asked : entryAsked p a = (b, none) := by rw [entryAsked_of_not_opened shut, taken]
  have ice : b.s.ice = (scrapeEntered p a).s.ice := (moveRequest_actuates ..).ice
  have ground : SameGround a.s b.s := (modIce_ground _ a).trans (moveRequest_ground ..)
  have pans (q : Pan) : panOf b.s q = panOf a.s q := congrArg (·.get q) (moveRequest_pans ..)
  have collects : (∃ q, Collects a.s q) → ∃ q, Collects b.s q := fun ⟨q, up, collect⟩ =>
    ⟨q, (congrArg PanRecord.state (pans q)).trans up, (congrArg PanRecord.role (pans q)).trans collect⟩
  have moving : (devOf b.s (isoOf p)).move ≠ none :=
    moveRequest_leaves_moving ((congrArg moveAnswer (moveRequest_answer_modIce ..)).trans taken)
  have stands : autoStep trigger b = none := by
    refine autoStep_of_standing (p := p) (phase := .isoOpening) (by rw [ice]; rfl) ?_
      (scrapeClauses_of_ground ground (by rw [ice]; rfl) collects enters.allowed) (by rw [ice]; rfl) (by rw [ice]; rfl)
      ((congrArg PanRecord.state (pans p)).trans enters.down) fun _ => moving
    rw [ground.settings, ice]
    exact low.trans_le enters.score
  have done := resolved (iceTransition_of_taken on auto order state above enters asked stands)
  have scrape : b.s.ice.state = .scrape := by rw [ice]; rfl
  refine ⟨inScrape_of_resolved done scrape (by rw [ice]; rfl) (by rw [ice]; rfl), ?_⟩
  have told := done.told (.inl (scrape ▸ state.symm))
  rwa [scrape, plainCause_of_active _ _ (by simp [scrape])] at told

end

end

end

/-! ## SCRAPE under AUTO (R163 to R166) -/

/-- R164 condition 7: what keeps a scrape in its phase; a scrape pan that has come UP in RAISING makes it ACTIVE. -/
def ScrapePhase.keeps (r : PanRecord) : ScrapePhase → Prop
  | .isoOpening => r.state = .down
  | .raising => (r.state = .raising ∨ r.state = .up) ∧ r.role = some .scrape
  | .active => r.state = .up ∧ r.role = some .scrape

section

variable {trigger : IceTrigger} {a : Act} {p : Pan} {phase : ScrapePhase}

section

variable (on : ¬ iceOff a.s = true) (auto : a.s.ice.setting = .auto) (state : a.s.ice.state = .scrape)
  (order : (settings a.s).heatOff < (settings a.s).heatOn)

include on auto state order

/-- R163, assumption log 24: the score ends SCRAPE before its conditions are looked at. -/
theorem leftScrape_by_score (low : a.s.ice.score ≤ (settings a.s).scrapeOff)
    (above : (settings a.s).scrapeOff < (settings a.s).scrapeOn) :
    LeftScrape trigger a a.s.ice.holdOff (activeCause trigger .scrape) := by
  obtain ⟨phase, promoted⟩ := promotePhase_modIce a
  let x := a.modIce fun i => { i with phase }
  have step : autoStep trigger x = some { act := endScrape x.s.ice.holdOff x } := by
    rw [autoStep_of_scrape (a := x) state, scrapeStep_of_score (a := x) low, leaveForHeat_eq]
  refine leftScrape_of_step (x := x) (cause := none) on auto state (modIce_ground _ a) rfl rfl order (promoted ▸ step) ?_
  rintro ⟨p, enters⟩
  have score := enters.score
  rw [(endScrape_ground _ x).settings, endScrape_ice] at score
  exact absurd (low.trans_lt above) (Nat.not_lt.2 score)

/-- R164: the first condition that fails ends SCRAPE. -/
theorem leftScrape_by_condition {before after : List Prop} {c : Prop} (high : (settings a.s).scrapeOff < a.s.ice.score)
    (split : scrapeClauses trigger a.s = before ++ c :: after) (stand : ∀ x ∈ before, x) (fails : ¬ c) :
    LeftScrape trigger a a.s.ice.holdOff (.permission (before.length + 1)) := by
  obtain ⟨phase, promoted⟩ := promotePhase_modIce a
  let x := a.modIce fun i => { i with phase }
  have step : autoStep trigger x =
      some { act := endScrape x.s.ice.holdOff x, cause := some (.permission (before.length + 1)) } := by
    rw [autoStep_of_scrape (a := x) state, scrapeStep_of_failing (a := x) high (failingCondition_of_first split stand fails),
      leaveForHeat_eq]
  have failing : ¬ ∀ c ∈ scrapeClauses trigger x.s, c := fun allowed =>
    fails (allowed c ((show scrapeClauses trigger x.s = _ from split) ▸ List.mem_append_right _ List.mem_cons_self))
  exact leftScrape_of_step (x := x) (cause := some (.permission (before.length + 1))) on auto state (modIce_ground _ a) rfl rfl
    order (promoted ▸ step) (not_enters_of_failing failing)

variable (high : (settings a.s).scrapeOff < a.s.ice.score) (allowed : ∀ c ∈ scrapeClauses trigger a.s, c)
  (pan : a.s.ice.scrapePan = some p)

include high allowed pan

/-- R164 condition 7: a scrape pan in another state than its phase expects ends SCRAPE, with the hold-off. -/
theorem leftScrape_by_pan (now : a.s.ice.phase = some phase) (strays : ¬ phase.keeps (panOf a.s p)) :
    LeftScrape trigger a true (.scrapePan (panOf a.s p).state) := by
  have promoted : promotePhase a = a := promotePhase_of_still pan fun raising up => by
    cases now.symm.trans raising
    exact strays ⟨.inr up.1, up.2⟩
  have unexpected : scrapePanExpected a.s = false := by
    rw [Bool.eq_false_iff]
    refine (scrapePanExpected_iff pan now).not.2 fun expected => strays ?_
    cases phase with
    | isoOpening => exact expected
    | raising => exact ⟨.inl expected.1, expected.2⟩
    | active => exact expected
  have step : autoStep trigger a = some { act := endScrape true a, cause := some (.scrapePan (panOf a.s p).state) } := by
    rw [autoStep_of_scrape state, scrapeStep_of_unexpected high allowed unexpected pan, failEntry_eq]
  exact leftScrape_of_step (cause := some (.scrapePan (panOf a.s p).state)) on auto state (.refl _) rfl rfl order
    (promoted.symm ▸ step) (not_enters_of_holdOff a)

section

variable (now : a.s.ice.phase = some .isoOpening) (down : (panOf a.s p).state = .down)
  (idle : (devOf a.s (isoOf p)).move = none)

include now down

omit on auto order in
theorem autoStep_of_opening : autoStep trigger a = testIsoOpening p a :=
  (autoStep_of_scrape state).trans
    (scrapeStep_of_opening high allowed ((scrapePanExpected_iff pan now).2 down) pan now)

include idle

/-- R165: a switch that came to another position fails the entry, with no answer (assumption log 48). -/
theorem leftScrape_by_switch (missed : (devOf a.s (isoOf p)).reported ≠ .opened) :
    LeftScrape trigger a true (.entryFailed none) := by
  have promoted : promotePhase a = a := promotePhase_of_still pan (by simp [now])
  have step : autoStep trigger a = some { act := endScrape true a, cause := some (.entryFailed none) } :=
    (autoStep_of_opening state high allowed pan now down).trans (testIsoOpening_of_missed idle missed)
  exact leftScrape_of_step (cause := some (.entryFailed none)) on auto state (.refl _) rfl rfl order (promoted.symm ▸ step)
    (not_enters_of_holdOff a)

/-- R165: a raise that is refused at the open switch fails the entry. -/
theorem leftScrape_by_raise (opened : (devOf a.s (isoOf p)).reported = .opened)
    (refused : (scrapeRaised p a).2.result ≠ .accepted) :
    LeftScrape trigger a true (.entryFailed (some (scrapeRaised p a).2.result)) := by
  have promoted : promotePhase a = a := promotePhase_of_still pan (by simp [now])
  have ice := scrapeRaised_ice p a
  have step : autoStep trigger a =
      some (.ofAsked ((scrapeRaised p a).1, some (scrapeRaised p a).2.result)) := by
    rw [autoStep_of_opening state high allowed pan now down, testIsoOpening_of_opened idle opened,
      askScrapeRaise_of_refused refused]
  exact leftScrape_of_step (x := (scrapeRaised p a).1) (cause := some (.entryFailed (some (scrapeRaised p a).2.result))) on auto
    state (scrapeRaised_ground p a) (by rw [ice]) (by rw [ice]) order (promoted.symm ▸ step) (not_enters_of_holdOff _)

omit order in
/-- R165: a raise that is taken at the open switch leads to RAISING. -/
theorem scrape_of_raise (opened : (devOf a.s (isoOf p)).reported = .opened)
    (accepted : (scrapeRaised p a).2.result = .accepted) (strip : stripActive a.s p = false) :
    InScrape trigger a p .raising := by
  have promoted : promotePhase a = a := promotePhase_of_still pan (by simp [now])
  have ice := scrapeRaised_ice p a
  have step : autoStep trigger a = some { act := (scrapeRaised p a).1 } := by
    rw [autoStep_of_opening state high allowed pan now down, testIsoOpening_of_opened idle opened,
      askScrapeRaise_of_accepted accepted]
    rfl
  have steps : iceTransition trigger a = ((scrapeRaised p a).1, none) := by
    rw [iceTransition_of_auto on auto, promoted, autoSteps_of_some step]
    exact autoSteps_of_none (autoStep_of_raise state pan high allowed accepted strip)
  exact inScrape_of_resolved (resolved steps) (by rw [ice]; exact state) (by rw [ice]; exact pan) (by rw [ice])

end

omit order

/-- R163 to R166: a scrape that stands is left as it is. -/
theorem scrape_stands (now : a.s.ice.phase = some phase) (expected : phase.expects (panOf a.s p))
    (moving : phase = .isoOpening → (devOf a.s (isoOf p)).move ≠ none) : evaluateIce trigger a = a := by
  have promoted : promotePhase a = a := promotePhase_of_still pan fun raising up => by
    cases now.symm.trans raising
    exact absurd (expected.1.symm.trans up.1) (by simp)
  refine evaluateIce_of_still ?_ rfl
  rw [iceTransition_of_auto on auto, promoted]
  exact autoSteps_of_none (autoStep_of_standing state high allowed pan now expected moving)

/-- R166: the scrape pan UP in RAISING makes the phase ACTIVE. -/
theorem scrape_becomes_active (now : a.s.ice.phase = some .raising)
    (up : (panOf a.s p).state = .up ∧ (panOf a.s p).role = some .scrape) : InScrape trigger a p .active := by
  let x := a.modIce fun i => { i with phase := some .active }
  have stands : autoStep trigger x = none :=
    autoStep_of_standing (phase := .active) state high allowed pan rfl up nofun
  have steps : iceTransition trigger a = (x, none) := by
    rw [iceTransition_of_auto on auto, promotePhase_of_up now pan up]
    exact autoSteps_of_none stands
  exact inScrape_of_resolved (resolved steps) state pan rfl

end

end

/-! ## What an evaluation reports of where it has led (R166, R171) -/

section

variable {trigger : IceTrigger} {a : Act}

/-- An evaluation that leads to a state other than INACTIVE with no named cause reports the change of the state. -/
theorem evaluateIce_changes {b : Act} {state : IceState} (e : iceTransition trigger a = (b, none)) (now : b.s.ice.state = state)
    (active : state ≠ .inactive) : (evaluateIce trigger a).s.ice.state = state
      ∧ (a.s.ice.state ≠ state → IceTold (evaluateIce trigger a).s a.s.ice.state state (activeCause trigger a.s.ice.state)) := by
  have done := resolved e
  refine ⟨done.state.trans now, fun moved => ?_⟩
  have told := done.told (.inl (now ▸ moved.symm))
  rwa [plainCause_of_active _ _ (now ▸ active), now] at told

/-- An evaluation that leads to INACTIVE reports the mode or the setting. -/
theorem evaluateIce_inactive (e : iceTransition trigger a = ((leaveScrape a).modIce fun i => { i with state := .inactive }, none))
    (state : a.s.ice.state ≠ .inactive) : (evaluateIce trigger a).s.ice.state = .inactive
      ∧ IceTold (evaluateIce trigger a).s a.s.ice.state .inactive (if a.s.vl.mode = .standby then .mode else .setting) := by
  have done := resolved e
  have told := done.told (.inl state.symm)
  rw [plainCause_of_inactive _ _ rfl, Act.modIce_vl, (leaveScrape_ground a).vl] at told
  exact ⟨done.state, told⟩

/-- An evaluation that leaves SCRAPE by the mode, the setting or a table ends the scrape. -/
theorem scrapeOver_of_leave {state : IceState}
    (e : iceTransition trigger a = ((leaveScrape a).modIce fun i => { i with state }, none)) :
    ScrapeOver a.s.ice (evaluateIce trigger a).s := by
  have done := resolved e
  refine ⟨done.scrapePan.trans ?_, done.phase.trans ?_, fun p scraping => ?_⟩
  · rw [Act.modIce_ice, leaveScrape_ice]
  · rw [Act.modIce_ice, leaveScrape_ice]
  · rw [panOf, done.pans]
    exact Bool.eq_false_iff.2 fun up => (leaveScrape_raised a p up).1 scraping

theorem LeftScrape.outcome {holdOff : Bool} {cause : IceCause} (h : LeftScrape trigger a holdOff cause)
    (state : a.s.ice.state = .scrape) :
    (let t := (evaluateIce trigger a).s
     ScrapeOver a.s.ice t
      ∧ ((a.s.ice.score ≤ (settings a.s).heatOff → t.ice.state = .watch)
        ∧ ((settings a.s).heatOff < a.s.ice.score → t.ice.state = .heat))
      ∧ t.ice.holdOff = holdOff ∧ IceTold t a.s.ice.state t.ice.state cause) :=
  ⟨h.ended, ⟨h.cool, h.hot⟩, h.holdOff, state.symm ▸ h.told⟩

/-- A failed entry at a score above heat_off leaves SCRAPE for HEAT. -/
theorem LeftScrape.failed {holdOff : Bool} {cause : IceCause} (h : LeftScrape trigger a holdOff cause)
    (state : a.s.ice.state = .scrape) (hot : (settings a.s).heatOff < a.s.ice.score) :
    (let t := (evaluateIce trigger a).s
     t.ice.state = .heat ∧ ScrapeOver a.s.ice t ∧ t.ice.holdOff = holdOff ∧ IceTold t a.s.ice.state .heat cause) := by
  have heat := h.hot hot
  have told := h.told
  rw [heat, ← state] at told
  exact ⟨heat, h.ended, h.holdOff, told⟩

theorem InScrape.scraping {p : Pan} {phase : ScrapePhase} (h : InScrape trigger a p phase) :
    (let t := (evaluateIce trigger a).s
     t.ice.state = .scrape ∧ t.ice.scrapePan = some p ∧ t.ice.phase = some phase) := ⟨h.state, h.pan, h.phase⟩

end

/-! ## Step changes that wait (R162) -/

/-- A step change that waits is seen as another change is. -/
theorem map_stepSeen (notes : List Note) :
    notes.map Note.stepSeen = notes.map fun n => if n = Note.iceEvaluate .step then Note.iceEvaluate .other else n := by
  refine List.map_congr_left fun n _ => ?_
  unfold Note.stepSeen
  split
  · rfl
  · rename_i other
    exact (if_neg other).symm

theorem any_stepLeft_iff (notes : List Note) : notes.any Note.stepLeft = true ↔ Note.iceEvaluate .step ∈ notes := by
  have left (n : Note) : n.stepLeft = true ↔ n = .iceEvaluate .step := by
    unfold Note.stepLeft
    split
    · exact iff_of_true rfl rfl
    · rename_i other
      exact iff_of_false Bool.false_ne_true other
  simp [left]

/-- Settles O47: the transition of an evaluation by the state that it starts in (`iceTransition_to_watch`, `iceTransition_to_heat`,
the entries, and each end of SCRAPE), and what the evaluation makes of that transition (`resolved`); the step changes that wait, by
whether the event finds SCRAPE. -/
theorem iceStateFollowsItsConditions : Obligations.IceStateFollowsItsConditions := by
  refine ⟨fun trigger a => ?_, fun trigger a => ?_⟩
  · intro s i st t off permits conditions allowed enters plain told out scraping failed changed afterScrape switch
    have offs : off ↔ iceOff s = true := (iceOff_iff s).symm
    have cause : plain = activeCause trigger i.state := by cases trigger <;> rfl
    have entering (p : Pan) : enters p ↔ Enters trigger s p :=
      ⟨fun ⟨h, up, role, down, score, free⟩ => ⟨h, ⟨up, role⟩, down, score, free⟩,
        fun h => ⟨h.allowed, h.collects.1, h.collects.2, h.down, h.score, h.free⟩⟩
    rw [cause]
    refine ⟨⟨evaluateIce_score trigger a, fun moved => ?_⟩, fun away => ⟨fun state => ?_, fun state => ?_⟩,
      fun here force => ⟨fun state => ?_, fun state => ?_⟩, fun here auto order above low => ?_⟩
    · have done := resolved (rfl : iceTransition trigger a = (_, _))
      have moved := done.state ▸ moved
      exact ⟨⟨_, done.state ▸ done.told (.inl moved)⟩, done.budget (.inl moved)⟩
    · exact evaluateIce_of_still (iceTransition_of_off_inactive (offs.1 away) state) rfl
    · have e := iceTransition_of_off (trigger := trigger) (offs.1 away) state
      obtain ⟨inactive, report⟩ := evaluateIce_inactive e state
      exact ⟨inactive, scrapeOver_of_leave e, report⟩
    · exact evaluateIce_of_still (iceTransition_of_force_heat (offs.not.1 here) force state) rfl
    · have e := iceTransition_of_force (trigger := trigger) (offs.not.1 here) force state
      exact ⟨evaluateIce_changes e rfl nofun, scrapeOver_of_leave e⟩
    · have on := offs.not.1 here
      have none : (¬ ∃ p, enters p) → ¬ ∃ p, Enters trigger s p := fun h ⟨p, e⟩ => h ⟨p, (entering p).2 e⟩
      refine ⟨fun state score => ?_, fun state score => ?_, fun state score stays => ?_, fun state score stays => ?_,
        fun p c r state enter permit => ?_, fun p phase state pan now => ?_⟩
      · obtain ⟨phase, e⟩ := iceTransition_to_watch (trigger := trigger) on auto order (.inl ⟨state, score⟩)
        exact evaluateIce_changes e rfl nofun
      · obtain ⟨phase, e⟩ := iceTransition_to_watch (trigger := trigger) on auto order (.inr ⟨state, score⟩)
        exact evaluateIce_changes e rfl nofun
      · have outside : i.state ≠ .scrape := fun scrape => by simp [scrape] at state
        obtain ⟨phase, e⟩ := iceTransition_to_heat on auto outside (.inr score) (order.trans_le score) (none stays)
        exact evaluateIce_changes e rfl nofun
      · obtain ⟨phase, e⟩ := iceTransition_to_heat on auto (by rw [state]; nofun) (.inl state) score (none stays)
        exact (evaluateIce_changes e rfl nofun).1
      · intro raise refused
        have enter := (entering p).1 enter
        have answer : (scrapeRaised p (scrapeEntered p a)).2.result = raise :=
          congrArg RaiseAnswer.result ((scrapeRaised_answer (a := scrapeEntered p a) permit).trans (raisePan_answer_modIce ..))
        have refusal : refused = moveAnswer (moveRequest (isoOf p) .opened .ice a).2 := by
          simp only [refused]
          cases (moveRequest (isoOf p) .opened .ice a).2 <;> rfl
        refine ⟨fun opened idle => ⟨fun accepted strip => ?_, fun refuses => ?_⟩,
          fun shut => ⟨fun taken => ?_, fun x refuses => ?_⟩⟩
        · obtain ⟨scrape, report⟩ := entry_of_raise on auto order state above low enter opened idle (answer.trans accepted) strip
          exact ⟨scrape.scraping, report⟩
        · refine failedEntry_of_refused on auto order state above enter ?_
          rw [entryAsked_of_opened opened idle, askScrapeRaise_of_refused (answer ▸ refuses), answer]
        · obtain ⟨scrape, report⟩ := entry_of_move on auto order state above low enter shut (refusal ▸ taken)
          exact ⟨scrape.scraping, report⟩
        · refine failedEntry_of_refused on auto order state above enter ?_
          rw [entryAsked_of_not_opened shut, ← refusal, refuses]
      · intro r expected
        have keeps : expected ↔ phase.keeps r := by cases phase <;> rfl
        refine ⟨fun score => ?_, fun before c after high split stand stops => ?_, fun high allow strays => ?_,
          fun high allow stands => ⟨?_, ?_, ?_, ?_, ?_, ?_⟩⟩
        · rw [show i.state = _ from state]
          exact (leftScrape_by_score on auto state order score low).outcome state
        · exact (leftScrape_by_condition on auto state order high split stand stops).outcome state
        · exact (leftScrape_by_pan on auto state order high allow pan now (keeps.not.1 strays)).outcome state
        · rintro rfl
          exact scrape_stands on auto state high allow pan now stands nofun
        · rintro rfl raising
          exact scrape_stands on auto state high allow pan now ⟨raising, stands.2⟩ nofun
        · rintro rfl up
          exact (scrape_becomes_active on auto state high allow pan now ⟨up, stands.2⟩).scraping
        · rintro rfl moving
          exact scrape_stands on auto state high allow pan now stands fun _ => moving
        · rintro rfl idle missed
          exact (leftScrape_by_switch on auto state order high allow pan now stands idle missed).failed state
        · rintro c x rfl idle opened permit raise
          have answer : (scrapeRaised p a).2.result = raise := congrArg RaiseAnswer.result (scrapeRaised_answer permit)
          refine ⟨fun accepted strip => ?_, fun refuses => ?_⟩
          · exact (scrape_of_raise on auto state high allow pan now stands idle opened (answer.trans accepted) strip).scraping
          · exact answer ▸ (leftScrape_by_raise on auto state order high allow pan now stands idle opened
              (answer ▸ refuses)).failed state
  · intro waits seen
    have same : ({ a with notes := a.notes.map Note.stepSeen } : Act) = seen := by rw [map_stepSeen]
    refine ⟨rfl, fun quiet => ?_, fun _ state => ?_, fun waiting state => ?_⟩
    · exact iceEvent_of_noStep trigger a (Bool.eq_false_iff.2 ((any_stepLeft_iff _).not.2 quiet))
    · exact (iceEvent_of_notScrape trigger a state).trans (by rw [same])
    · exact (iceEvent_of_scrape trigger a ((any_stepLeft_iff _).2 waiting) state).trans (by rw [same])

end Sys2Proof.Machine

namespace Sys2Proof.Machine

/-! SUPPORT. What the events of the blocks leave alone of the outside of a state (`State.outside`): those of the roof, the Line
Monitor and the route plan all of it, a position frame all but the Position Record, an input line all but its own record. -/

/-! ## The blocks of the roof (03 to 06, 08, 09) -/

/-- The blocks of the roof leave the outside alone, so that `nextStage_read` and the like speak of it too. -/
theorem blind_outside : BlindToRoof State.outside where
  pans _ _ := rfl
  sg _ _ := rfl
  holds _ _ := rfl
  co _ _ := rfl
  ice _ _ _ := rfl
  slots _ _ := rfl
  sent _ _ := rfl
  choices _ _ := rfl
  undelivered s i := by
    have same := updAt_map s.roles i (fun r => { r with undelivered := bump16 r.undelivered }) RoleRecord.presenceOnly fun _ => rfl
    simp [State.outside, same]

@[simp] theorem functionChange_outside (f : InputFunction) (active : Bool) (a : Act) :
    (functionChange f active a).s.outside = a.s.outside := functionChange_read blind_outside f active a

@[simp] theorem lowerReply_outside (pans : PanChoice) (a : Act) : (lowerReply pans a).1.s.outside = a.s.outside :=
  lowerChoice_read blind_outside pans a

@[simp] theorem clearFault_outside (p : Pan) (a : Act) : (clearFault p a).1.s.outside = a.s.outside :=
  clearFault_read blind_outside p a

@[simp] theorem proceedChangeover_outside (a : Act) : (proceedChangeover a).1.s.outside = a.s.outside :=
  proceedChangeover_read blind_outside a

@[simp] theorem abortChangeover_outside (a : Act) : (abortChangeover a).1.s.outside = a.s.outside :=
  abortChangeover_read blind_outside a

@[simp] theorem iceReply_outside (setting : Nat) (a : Act) : (iceReply setting a).1.s.outside = a.s.outside := by
  have taken : (takeIceMode setting a).1.s.outside = a.s.outside := takeIceMode_read blind_outside setting a
  unfold iceReply
  split <;> rename_i e <;> rw [e] at taken <;> exact taken

@[simp] theorem vehicleCommand_outside (seq : Nat) (role : Role) (payload : List Byte) (a : Act) :
    (vehicleCommand seq role payload a).s.outside = a.s.outside := vehicleCommand_read blind_outside seq role payload a

@[simp] theorem refuseHeldForTable_outside (a : Act) : (refuseHeldForTable a).s.outside = a.s.outside :=
  refuseHeldForTable_read blind_outside a

@[simp] theorem climateStatus_outside (payload : List Byte) (a : Act) : (climateStatus payload a).s.outside = a.s.outside := by
  simp [climateStatus]

/-- R179: the block that uses a STATUS leaves the outside alone. -/
@[simp] theorem handStatus_outside (role : Role) (payload : List Byte) (a : Act) :
    (handStatus role payload a).s.outside = a.s.outside := by
  cases role with
  | switchgear => exact switchgearStatus_read blind_outside payload a
  | panA => exact panStatus_read blind_outside .a payload a
  | panB => exact panStatus_read blind_outside .b payload a
  | heater => exact heaterStatus_read blind_outside payload a
  | climate => exact climateStatus_outside payload a
  | line => rfl
  | aux1 => rfl
  | aux2 => rfl

/-! ## Line Monitor (01, 02) -/

@[simp] theorem appendArc_outside (e : ArcEntry) (a : Act) : (appendArc e a).s.outside = a.s.outside := rfl

@[simp] theorem deadCell_outside (a : Act) : (deadCell a).s.outside = a.s.outside := by
  unfold deadCell
  dsimp only
  split
  · rfl
  · split
    · split <;> simp
    · rfl

@[simp] theorem liveCell_outside (a : Act) : (liveCell a).s.outside = a.s.outside := by
  unfold liveCell
  dsimp only
  split
  · rfl
  · split <;> rfl

@[simp] theorem fastDeadStage_outside (peak : Nat) (a : Act) : (fastDeadStage peak a).s.outside = a.s.outside := by
  unfold fastDeadStage
  split <;> simp

@[simp] theorem useCell_outside (samples : List Int) (current : Nat) (a : Act) :
    (useCell samples current a).s.outside = a.s.outside := by
  unfold useCell
  dsimp only
  split <;> simp

@[simp] theorem takeCell_outside (sequence : Nat) (fault : Bool) (samples : List Int) (current : Nat) (a : Act) :
    (takeCell sequence fault samples current a).s.outside = a.s.outside := by
  unfold takeCell
  dsimp only
  split <;> split <;> simp

@[simp] theorem systemTableGone_outside (a : Act) : (systemTableGone a).s.outside = a.s.outside := by
  unfold systemTableGone
  dsimp only
  split <;> simp

@[simp] theorem systemTableValid_outside (a : Act) : (systemTableValid a).s.outside = a.s.outside := rfl

@[simp] theorem lineSettingsChanged_outside (before : Settings) (a : Act) :
    (lineSettingsChanged before a).s.outside = a.s.outside := by
  unfold lineSettingsChanged
  dsimp only
  split <;> split <;> rfl

@[simp] theorem restartLine_outside (a : Act) : (restartLine a).s.outside = a.s.outside := rfl

/-! ## Position and Route Unit (07) -/

@[simp] theorem appendQueue_outside (entries : List QueueEntry) (a : Act) :
    (appendQueue entries a).1.s.outside = a.s.outside := by
  have joined : (a.modPr fun r => { r with queue := r.queue ++ entries, appended := r.appended + entries.length }).s.outside =
      a.s.outside := Act.modPr_outside _ a rfl
  unfold appendQueue
  dsimp only
  split
  · rfl
  · split
    · rfl
    · split
      · rfl
      · split
        · rw [evaluateQueue_outside, joined]
        · exact joined

@[simp] theorem loadMarker_outside (list : Nat) (actions : List Action) (a : Act) :
    (loadMarker list actions a).1.s.outside = a.s.outside := by
  unfold loadMarker
  dsimp only
  split
  · rfl
  · split
    · rfl
    · split
      · rfl
      · split
        · rfl
        · exact Act.modPr_outside _ a (setMarker_position _ _ _)

@[simp] theorem flushQueueRequest_outside (a : Act) : (flushQueueRequest a).1.s.outside = a.s.outside :=
  Act.modPr_outside _ a rfl

@[simp] theorem flushMarkerRequest_outside (list : Nat) (a : Act) : (flushMarkerRequest list a).1.s.outside = a.s.outside := by
  unfold flushMarkerRequest
  split
  · rfl
  · exact Act.modPr_outside _ a (setMarker_position _ _ _)

@[simp] theorem markerToQueue_outside (m : Fin 2) (a : Act) : (markerToQueue m a).s.outside = a.s.outside := by
  unfold markerToQueue
  split
  · rfl
  · split
    · split <;> rename_i fired <;> have same := fire_eq_outside fired <;> simp [same]
    · rfl

@[simp] theorem markerEdge_outside (m : Fin 2) (a : Act) : (markerEdge m a).s.outside = a.s.outside := by
  unfold markerEdge
  split
  · split
    · rw [fire_outside, Act.modPr_outside _ a (setMarker_position _ _ _)]
    · exact markerToQueue_outside m a
  · rfl

/-- R114: a position frame changes the Position Record alone of the outside. -/
theorem takePosition_outside (p speed quality : Nat) (a : Act) :
    ∃ position, (takePosition p speed quality a).s.outside = { a.s.outside with position } := by
  by_cases jumps : ∃ e, estimate a.s = some e ∧ outsideBand (settings a.s) e p = true
  · obtain ⟨e, before, jump⟩ := jumps
    rw [takePosition_of_jump before jump, Act.notify_outside, takeJump_eq]
    exact ⟨_, rfl⟩
  · have within (e : Nat) (before : estimate a.s = some e) : outsideBand (settings a.s) e p = false :=
      Bool.eq_false_iff.2 fun jump => jumps ⟨e, before, jump⟩
    rw [takePosition_of_within within, Act.notify_outside, evaluateQueue_outside]
    exact ⟨_, rfl⟩

/-! ## Discrete Line Unit (05) -/

/-- Of the outside, the record of one input line alone has changed. -/
def OneLineMoved (line : Fin 12) (s t : State) : Prop :=
  ∃ inputs, t.outside = { s.outside with inputs } ∧ ∀ other : Fin 12, other ≠ line → inputs[other] = s.inputs[other]

theorem OneLineMoved.of_outside {line : Fin 12} {s t : State} (same : t.outside = s.outside) : OneLineMoved line s t :=
  ⟨s.inputs, same, fun _ _ => rfl⟩

theorem OneLineMoved.trans {line : Fin 12} {s t u : State} (h : OneLineMoved line s t) (g : OneLineMoved line t u) :
    OneLineMoved line s u := by
  obtain ⟨before, first, kept⟩ := h
  obtain ⟨after, second, stays⟩ := g
  have lines : t.inputs = before := congrArg Outside.inputs first
  exact ⟨after, by rw [second, first], fun other apart => by rw [stays other apart, lines, kept other apart]⟩

theorem modInput_oneLine (line : Fin 12) (f : InputRecord → InputRecord) (a : Act) : OneLineMoved line a.s (a.modInput line f).s :=
  ⟨updAt a.s.inputs line f, rfl, fun _ apart => updAt_other _ _ _ f apart.symm⟩

theorem takeRaw_oneLine (line : Fin 12) (level : Level) (a : Act) : OneLineMoved line a.s (takeRaw line level a).s := by
  unfold takeRaw
  split
  · exact .of_outside rfl
  · exact modInput_oneLine line _ a

theorem latchEdge_oneLine (line : Fin 12) (e : Edge) (a : Act) : OneLineMoved line a.s (latchEdge line e a).s := by
  unfold latchEdge
  split
  · exact (modInput_oneLine line _ a).trans (.of_outside (placeReport_outside _ _))
  · exact .of_outside rfl

theorem takeEdge_oneLine (line : Fin 12) (e : Edge) (a : Act) : OneLineMoved line a.s (takeEdge line e a).s := by
  have latched := latchEdge_oneLine line e a
  unfold takeEdge
  dsimp only
  split
  · exact latched.trans (.of_outside (markerEdge_outside 0 _))
  · exact latched.trans (.of_outside (markerEdge_outside 1 _))
  · exact latched

theorem handedOn_oneLine (line : Fin 12) (a : Act) : OneLineMoved line a.s (handedOn line a).s := by
  have settled := modInput_oneLine line .settled a
  unfold handedOn
  dsimp only
  split
  · split
    · exact settled
    · exact settled.trans (.of_outside (functionChange_outside _ _ _))
  · exact settled

theorem filterExpired_oneLine (line : Fin 12) (a : Act) : OneLineMoved line a.s (filterExpired line a).s := by
  have handed := handedOn_oneLine line a
  rw [filterExpired_eq]
  cases settledEdge line a with
  | none => exact handed
  | some e =>
    dsimp only [Option.elim_some]
    split
    · exact handed.trans (takeEdge_oneLine line e _)
    · exact handed

/-- R81 to R84: an Input Record as a reader of the line finds it, apart from its event latch. -/
def InputRecord.reading (r : InputRecord) : InputRecord := { r with latch := .disarmed }

/-- R89, R90: of the whole act the event latch of one line alone has changed. -/
structure LatchMoved (n : Nat) (a b : Act) : Prop where
  rest : b = { a with s := { a.s with inputs := b.s.inputs } }
  reads : b.s.inputs.map InputRecord.reading = a.s.inputs.map InputRecord.reading
  others : ∀ other : Fin 12, other.val ≠ n → b.s.inputs[other] = a.s.inputs[other]

theorem LatchMoved.refl (n : Nat) (a : Act) : LatchMoved n a a := ⟨rfl, rfl, fun _ _ => rfl⟩

theorem modInput_latch (line : Fin 12) (latch : Latch) (a : Act) :
    LatchMoved line.val a (a.modInput line fun r => { r with latch }) where
  rest := rfl
  reads := updAt_map _ _ _ _ fun _ => rfl
  others _ apart := updAt_other _ _ _ _ fun same => apart (congrArg Fin.val same).symm

theorem lineOf_eq_some {n : Nat} {line : Fin 12} (named : lineOf n = some line) : line.val = n := by
  unfold lineOf at named
  split at named <;> cases named
  rfl

theorem armLine_latch (n : Nat) (a : Act) : LatchMoved n a (armLine n a).1 := by
  unfold armLine
  split
  · exact .refl n a
  · rename_i line named
    obtain rfl := lineOf_eq_some named
    split
    · exact .refl _ a
    · split
      · exact .refl _ a
      · split
        · exact modInput_latch line .armed a
        · exact .refl _ a
        · exact .refl _ a

theorem clearReply_latch (n : Nat) (a : Act) : LatchMoved n a (clearReply n a).1 := by
  have cleared : LatchMoved n a (clearLine n a).1 := by
    unfold clearLine
    split
    · exact .refl n a
    · rename_i line named
      obtain rfl := lineOf_eq_some named
      dsimp only
      split
      · exact .refl _ a
      · exact modInput_latch line .disarmed a
      · exact modInput_latch line .disarmed a
  unfold clearReply
  split <;> rename_i e <;> rw [e] at cleared <;> exact cleared

@[simp] theorem relevel_outside (before : State) (a : Act) : (relevel before a).s.outside = a.s.outside := by
  simp [relevel, foldl_outside (fun a (c : InputFunction × Bool) => functionChange c.1 c.2 a)
    fun b c => functionChange_outside c.1 c.2 b]

end Sys2Proof.Machine

namespace Sys2Proof.Machine

/-! SUPPORT. What the Head Port Controller keeps in order of the Port Records and the Role Records, and what it leaves alone of the
outside (10). -/

/-! ## Records in order -/

/-- R174: the counts of a port that is not LOCKED are 0, and a port in DOWN or ACQUIRING holds no announcement. -/
def PortRecord.InOrder (r : PortRecord) : Prop :=
  (r.link ≠ .locked → r.badFrames = 0 ∧ r.badRun = 0)
    ∧ (r.link = .down ∨ r.link = .acquiring → r.kind = none ∧ r.serial = none)

/-- R181: a silence deadline runs while, and only while, the role is PRESENT, and a role that is not has no last forwarded
payload. -/
def RoleRecord.InOrder (r : RoleRecord) : Prop :=
  (r.silenceDeadline.isSome ↔ r.presence = .present) ∧ (r.presence ≠ .present → r.lastForwarded = none)

/-- R174: nothing is asked of a LOCKED port. -/
theorem PortRecord.inOrder_of_locked {r : PortRecord} (locked : r.link = .locked) : r.InOrder :=
  ⟨fun unlocked => absurd locked unlocked, by simp [locked]⟩

theorem portsInOrder_iff (s : State) : PortsInOrder s ↔ ∀ port : Fin 8, s.ports[port].InOrder := Iff.rfl

theorem rolesInOrder_iff (s : State) : RolesInOrder s ↔ ∀ role, (roleOf s role).InOrder := Iff.rfl

/-- R183: the order of a Role Record does not depend on its undelivered count. -/
theorem RoleRecord.inOrder_of_presenceOnly {r r' : RoleRecord} (same : r'.presenceOnly = r.presenceOnly) (order : r.InOrder) :
    r'.InOrder := by
  simp only [RoleRecord.presenceOnly, RoleRecord.mk.injEq] at same
  obtain ⟨presence, deadline, forwarded, -⟩ := same
  unfold RoleRecord.InOrder
  rwa [presence, deadline, forwarded]

/-- The outside of a state holds each Role Record up to its undelivered count. -/
theorem presenceOnly_of_outside {s t : State} (same : t.outside.roles = s.outside.roles) (role : Role) :
    (roleOf t role).presenceOnly = (roleOf s role).presenceOnly := by
  have here := congrArg (fun roles : Vector RoleRecord 8 => roles[roleIndex role]) same
  simpa [State.outside, roleOf] using here

theorem presences_of_outside {s t : State} (same : t.outside.roles = s.outside.roles) (role : Role) :
    (roleOf t role).presence = (roleOf s role).presence
      ∧ (roleOf t role).silenceDeadline = (roleOf s role).silenceDeadline
      ∧ (roleOf t role).lastForwarded = (roleOf s role).lastForwarded := by
  have here := presenceOnly_of_outside same role
  simp only [RoleRecord.presenceOnly, RoleRecord.mk.injEq, and_true] at here
  exact here

theorem rolesInOrder_of_outside {s t : State} (same : t.outside.roles = s.outside.roles) (order : RolesInOrder s) :
    RolesInOrder t := fun role => RoleRecord.inOrder_of_presenceOnly (presenceOnly_of_outside same role) (order role)

theorem portsInOrder_of_ports {s t : State} (same : t.ports = s.ports) (order : PortsInOrder s) : PortsInOrder t := by
  unfold PortsInOrder
  rwa [same]

theorem roleOf_modRole_same (role : Role) (f : RoleRecord → RoleRecord) (a : Act) :
    roleOf (a.modRole role f).s role = f (roleOf a.s role) := updAt_same _ _ _

theorem roleOf_modRole_other {role other : Role} (f : RoleRecord → RoleRecord) (a : Act) (apart : other ≠ role) :
    roleOf (a.modRole role f).s other = roleOf a.s other :=
  updAt_other _ _ _ _ fun same => apart (roleIndex_injective same).symm

/-! ## What the Head Port Controller owns -/

/-- What of the outside the Head Port Controller leaves alone. -/
def Outside.apartFromHeads (o : Outside) : Outside :=
  { o with ports := Vector.replicate 8 {}, roles := Vector.replicate 8 {}, telemetry := [], dropped := false }

/-- The Port Records and the Role Records of the later state are in order where those of the earlier one are, and of the outside
nothing has changed but what the Head Port Controller owns. -/
structure HeadsKept (s t : State) : Prop where
  rest : t.outside.apartFromHeads = s.outside.apartFromHeads
  ports : PortsInOrder s → PortsInOrder t
  roles : RolesInOrder s → RolesInOrder t

theorem HeadsKept.of_outside {s t : State} (same : t.outside = s.outside) : HeadsKept s t where
  rest := congrArg Outside.apartFromHeads same
  ports := portsInOrder_of_ports (congrArg Outside.ports same)
  roles := rolesInOrder_of_outside (congrArg Outside.roles same)

theorem HeadsKept.refl (s : State) : HeadsKept s s := .of_outside rfl

theorem HeadsKept.trans {s t u : State} (h : HeadsKept s t) (g : HeadsKept t u) : HeadsKept s u where
  rest := g.rest.trans h.rest
  ports := g.ports ∘ h.ports
  roles := g.roles ∘ h.roles

theorem HeadsKept.foldl {β : Type} (f : Act → β → Act) (h : ∀ a x, HeadsKept a.s (f a x).s) (l : List β) (a : Act) :
    HeadsKept a.s (l.foldl f a).s := by
  induction l generalizing a with
  | nil => exact .refl _
  | cons x l ih => exact (h a x).trans (ih _)

theorem modPort_heads (port : Fin 8) (f : PortRecord → PortRecord) (a : Act)
    (h : a.s.ports[port].InOrder → (f a.s.ports[port]).InOrder) : HeadsKept a.s (a.modPort port f).s where
  rest := rfl
  ports := forall_updAt _ port f h
  roles := id

theorem modRole_heads (role : Role) (f : RoleRecord → RoleRecord) (a : Act)
    (h : (roleOf a.s role).InOrder → (f (roleOf a.s role)).InOrder) : HeadsKept a.s (a.modRole role f).s where
  rest := rfl
  ports := id
  roles order other := by
    by_cases same : other = role
    · subst same
      have here : (roleOf (a.modRole other f).s other).InOrder := by
        rw [roleOf_modRole_same]
        exact h (order other)
      exact here
    · have there : (roleOf (a.modRole role f).s other).InOrder := by
        rw [roleOf_modRole_other f a same]
        exact order other
      exact there

theorem modPorts_map_heads (f : PortRecord → PortRecord) (a : Act) (h : ∀ r : PortRecord, r.InOrder → (f r).InOrder) :
    HeadsKept a.s (a.modPorts fun v => v.map f).s where
  rest := rfl
  ports order := (portsInOrder_iff _).2 fun port => by simpa using h _ (order port)
  roles := id

/-! ## Presence (R179 to R181) -/

theorem presence_of_rolePresent {s : State} {role : Role} (present : rolePresent s role = true) :
    (roleOf s role).presence = .present := by simpa [rolePresent] using present

theorem reportHead_outside (role : Role) (before : Presence) (cause : HeadCause) (expected : Option Nat) (a : Act) :
    (reportHead role before cause expected a).s.outside = a.s.outside := rfl

/-- R181: a role that leaves PRESENT has neither a silence deadline nor a last forwarded payload. -/
theorem leavePresent_heads {presence : Presence} (role : Role) (cause : HeadCause) (a : Act) (away : presence ≠ .present) :
    HeadsKept a.s (leavePresent role presence cause a).s := by
  have left := modRole_heads role (fun r => { r with presence, silenceDeadline := none, lastForwarded := none }) a
    fun _ => ⟨by simp [away], fun _ => rfl⟩
  exact left.trans (.of_outside (reportHead_outside role .present cause none _))

theorem loseRole_heads (role : Role) (cause : HeadCause) (a : Act) : HeadsKept a.s (loseRole role cause a).s := by
  unfold loseRole
  split
  · exact leavePresent_heads role cause a nofun
  · exact .refl _

/-- R179: a role that becomes PRESENT has a silence deadline. -/
theorem becomePresent_heads (role : Role) (silence : Nat) (a : Act) : HeadsKept a.s (becomePresent role silence a).s := by
  have present := modRole_heads role (fun r => { r with presence := .present, silenceDeadline := some (a.s.now + silence) }) a
    fun _ => ⟨by simp, by simp⟩
  unfold becomePresent
  dsimp only
  split
  · exact .refl _
  · exact present.trans (.of_outside (reportHead_outside role _ .present none _))

/-- R180: a silence deadline is set afresh while the role is PRESENT. -/
theorem refreshSilence_heads (d : Option DirectoryRecord) (a : Act) : HeadsKept a.s (refreshSilence d a).s := by
  unfold refreshSilence
  split
  · exact .refl _
  · split
    · exact .refl _
    · split
      · rename_i present
        have here := presence_of_rolePresent present
        exact modRole_heads _ _ a fun _ => ⟨by simp [here], by simp [here]⟩
      · exact .refl _

/-! ## Port link states (R174, R175) -/

/-- R174: a port without lock has no counts and no announcement. -/
theorem PortRecord.unlocked_inOrder (r : PortRecord) (link : PortLink) : (r.unlocked link).InOrder :=
  ⟨fun _ => ⟨rfl, rfl⟩, fun _ => ⟨rfl, rfl⟩⟩

theorem portLeaves_heads (port : Fin 8) (link : PortLink) (a : Act) : HeadsKept a.s (portLeaves port link a).s := by
  have left := modPort_heads port (fun r => r.unlocked link) a fun _ => PortRecord.unlocked_inOrder _ link
  unfold portLeaves
  dsimp only
  split
  · exact left.trans (loseRole_heads _ .link _)
  · exact left

theorem portLight_heads (port : Fin 8) (a : Act) : HeadsKept a.s (portLight port a).s := by
  unfold portLight
  split
  · exact modPort_heads port _ a fun _ => PortRecord.unlocked_inOrder _ .acquiring
  · exact .refl _

theorem portLock_heads (port : Fin 8) (a : Act) : HeadsKept a.s (portLock port a).s := by
  unfold portLock
  split
  · exact modPort_heads port _ a fun _ => PortRecord.inOrder_of_locked rfl
  · exact .refl _

theorem portLockLost_heads (port : Fin 8) (a : Act) : HeadsKept a.s (portLockLost port a).s := by
  unfold portLockLost
  split
  · exact portLeaves_heads port .acquiring a
  · exact portLeaves_heads port .acquiring a
  · exact .refl _
  · exact .refl _

theorem portDark_heads (port : Fin 8) (a : Act) : HeadsKept a.s (portDark port a).s := by
  unfold portDark
  split
  · exact .refl _
  · exact portLeaves_heads port .down a

/-- R175: bad frames are counted on a LOCKED port. -/
theorem portBadFrame_heads (port : Fin 8) (a : Act) : HeadsKept a.s (portBadFrame port a).s := by
  unfold portBadFrame
  split
  · rename_i locked
    split
    · exact portLeaves_heads port .acquiring a
    · exact modPort_heads port _ a fun _ => PortRecord.inOrder_of_locked locked
  · exact .refl _

theorem validFrame_heads (port : Fin 8) (a : Act) : HeadsKept a.s (validFrame port a).s :=
  (modPort_heads port _ a fun order => ⟨fun unlocked => ⟨(order.1 unlocked).1, rfl⟩, order.2⟩).trans (refreshSilence_heads _ _)

/-- R180: a silence deadline set afresh is all that a valid frame changes beside the bad run of its port. -/
theorem refreshSilence_ports (d : Option DirectoryRecord) (a : Act) : (refreshSilence d a).s.ports = a.s.ports := by
  unfold refreshSilence
  split
  · rfl
  · split
    · rfl
    · split <;> rfl

theorem validFrame_ports (port : Fin 8) (a : Act) :
    (validFrame port a).s.ports = updAt a.s.ports port fun r => { r with badRun := 0 } := refreshSilence_ports _ _

theorem validFrame_port (port : Fin 8) (a : Act) : (validFrame port a).s.ports[port] = { a.s.ports[port] with badRun := 0 } := by
  rw [validFrame_ports, updAt_same]

theorem loseRole_ports (role : Role) (cause : HeadCause) (a : Act) : (loseRole role cause a).s.ports = a.s.ports := by
  unfold loseRole
  split <;> rfl

/-! ## Announcement (R176) -/

/-- R176: a port that is barred has no counts. -/
theorem checkKind_heads (port : Fin 8) (a : Act) : HeadsKept a.s (checkKind port a).s := by
  have barred := modPort_heads port (fun r => { r with link := .barred, badFrames := 0, badRun := 0 }) a
    fun _ => ⟨fun _ => ⟨rfl, rfl⟩, by simp⟩
  unfold checkKind
  split
  · split
    · exact .refl _
    · dsimp only
      split
      · exact barred.trans (.of_outside (reportHead_outside _ _ .barred _ _))
      · exact barred
  · exact .refl _

/-- R176: an announcement is held by a LOCKED port. -/
theorem takeAnnouncement_heads (port : Fin 8) (kind serial : Nat) (a : Act) (locked : a.s.ports[port].link = .locked) :
    HeadsKept a.s (takeAnnouncement port kind serial a).s :=
  (modPort_heads port _ a fun _ => PortRecord.inOrder_of_locked locked).trans (checkKind_heads port _)

theorem announce_heads (port : Fin 8) (kind serial : Nat) (a : Act) : HeadsKept a.s (announce port kind serial a).s := by
  have valid := validFrame_heads port a
  unfold announce
  split
  · rename_i locked
    have still : (validFrame port a).s.ports[port].link = .locked := by rw [validFrame_port, locked]
    dsimp only
    split
    · exact valid.trans (takeAnnouncement_heads port kind serial _ still)
    · split
      · exact valid
      · split
        · rename_i role _
          refine valid.trans ((loseRole_heads role .headChanged _).trans (takeAnnouncement_heads port kind serial _ ?_))
          rwa [loseRole_ports]
        · exact valid.trans (takeAnnouncement_heads port kind serial _ still)
  · exact .refl _

/-! ## STATUS and CELL frames (R179, R184) -/

/-- R179: a STATUS leaves its role PRESENT. -/
theorem becomePresent_present (role : Role) (silence : Nat) (a : Act) :
    (roleOf (becomePresent role silence a).s role).presence = .present := by
  unfold becomePresent
  dsimp only
  split
  · assumption
  · exact congrArg RoleRecord.presence (roleOf_modRole_same role
      (fun r => { r with presence := .present, silenceDeadline := some (a.s.now + silence) }) a)

/-- R184: what is offered for forwarding is kept of a PRESENT role. -/
theorem forward_heads (d : DirectoryRecord) (role : Role) (payload : List Byte) (a : Act)
    (present : (roleOf a.s role).presence = .present) : HeadsKept a.s (forward d role payload a).s := by
  have offered (item : TelemetryItem) : HeadsKept a.s (offerTelemetry item a).1.s
      ∧ roleOf (offerTelemetry item a).1.s role = roleOf a.s role := by
    unfold offerTelemetry
    split <;> exact ⟨⟨rfl, id, id⟩, rfl⟩
  unfold forward
  split
  · obtain ⟨kept, same⟩ := offered { role, port := d.port, kind := d.kind, payload }
    split <;> rename_i joined <;> rw [joined] at kept same
    · exact kept.trans (modRole_heads role _ _ fun order => ⟨order.1, by simp [same, present]⟩)
    · exact kept
  · exact .refl _

theorem roleStatus_heads (d : DirectoryRecord) (role : Role) (payload : List Byte) (a : Act) :
    HeadsKept a.s (roleStatus d role payload a).s := by
  let judged := handStatus role payload (becomePresent role d.silence a)
  have handed : judged.s.outside = (becomePresent role d.silence a).s.outside := handStatus_outside role payload _
  have present : (roleOf judged.s role).presence = .present := by
    rw [← becomePresent_present role d.silence a]
    exact (presences_of_outside (congrArg Outside.roles handed) role).1
  exact ((becomePresent_heads role d.silence a).trans (.of_outside handed)).trans (forward_heads d role payload judged present)

theorem headStatusFrame_heads (port : Fin 8) (payload : List Byte) (a : Act) :
    HeadsKept a.s (headStatusFrame port payload a).s := by
  have valid := validFrame_heads port a
  unfold headStatusFrame
  split
  · split
    · dsimp only
      split
      · exact valid
      · split
        · split
          · exact valid.trans (roleStatus_heads _ _ payload _)
          · exact valid
        · exact valid
    · exact portBadFrame_heads port a
  · exact .refl _

theorem cellFrame_heads (port : Fin 8) (sequence : Nat) (fault : Bool) (samples : List Int) (current : Nat) (a : Act) :
    HeadsKept a.s (cellFrame port sequence fault samples current a).s := by
  have valid := validFrame_heads port a
  unfold cellFrame
  split
  · split
    · dsimp only
      split
      · exact valid.trans (.of_outside (takeCell_outside _ _ _ _ _))
      · exact valid
    · exact portBadFrame_heads port a
  · exact .refl _

/-! ## HEAD_DIRECTORY loads (R178) -/

theorem unmapRole_heads (a : Act) (role : Role) : HeadsKept a.s (unmapRole a role).s := by
  unfold unmapRole
  split
  · exact leavePresent_heads role .directory a nofun
  · have left := modRole_heads role (fun r => { r with presence := .absent, silenceDeadline := none, lastForwarded := none }) a
      fun _ => ⟨by simp, fun _ => rfl⟩
    exact left.trans (.of_outside (reportHead_outside role .lost .directory none _))
  · exact .refl _

/-- R178: a port that is no longer barred is LOCKED. -/
theorem directoryGone_heads (a : Act) : HeadsKept a.s (directoryGone a).s := by
  refine (HeadsKept.foldl unmapRole unmapRole_heads rolesInOrder a).trans (modPorts_map_heads _ _ fun r order => ?_)
  split
  · exact PortRecord.inOrder_of_locked rfl
  · exact order

theorem directoryValid_heads (a : Act) : HeadsKept a.s (directoryValid a).s := by
  refine .foldl _ (fun b port => ?_) _ a
  split
  · exact checkKind_heads port b
  · exact .refl _

end Sys2Proof.Machine

namespace Sys2Proof.Machine

/-! SUPPORT. What a load of a table, the request envelope and the end of an act leave of the head links and of the Vehicle Link
(10, 11). -/

/-! ## Loads (R193) -/

/-- What of the outside a load leaves alone, whichever table it loads. -/
def Outside.apartFromLoad (o : Outside) : Outside :=
  { o.apartFromHeads with inputs := Vector.replicate 12 {}, vl := { o.vl with tables := {} } }

/-- R85, R88, R178: what a load of a table keeps: the order of the ports and the roles, which a load of HEAD_DIRECTORY alone
touches, and what each line reads, whose latch a load of INPUT_MAP alone touches. -/
structure LoadKept (id : Nat) (s t : State) : Prop where
  rest : t.outside.apartFromLoad = s.outside.apartFromLoad
  ports : PortsInOrder s → PortsInOrder t
  roles : RolesInOrder s → RolesInOrder t
  heads : id ≠ 0 → t.ports = s.ports ∧ t.outside.roles = s.outside.roles
  inputs : id ≠ 4 → t.inputs = s.inputs
  reads : t.inputs.map InputRecord.reading = s.inputs.map InputRecord.reading

section
variable {id : Nat}

theorem LoadKept.of_outside {s t : State} (same : t.outside = s.outside) : LoadKept id s t where
  rest := congrArg Outside.apartFromLoad same
  ports := portsInOrder_of_ports (congrArg Outside.ports same)
  roles := rolesInOrder_of_outside (congrArg Outside.roles same)
  heads _ := ⟨congrArg Outside.ports same, congrArg Outside.roles same⟩
  inputs _ := congrArg Outside.inputs same
  reads := congrArg (fun o => o.inputs.map InputRecord.reading) same

theorem LoadKept.refl (s : State) : LoadKept id s s := .of_outside rfl

theorem LoadKept.trans {s t u : State} (h : LoadKept id s t) (g : LoadKept id t u) : LoadKept id s u where
  rest := g.rest.trans h.rest
  ports := g.ports ∘ h.ports
  roles := g.roles ∘ h.roles
  heads other := ⟨(g.heads other).1.trans (h.heads other).1, (g.heads other).2.trans (h.heads other).2⟩
  inputs other := (g.inputs other).trans (h.inputs other)
  reads := g.reads.trans h.reads

/-- R178: a load of HEAD_DIRECTORY reaches the ports and the roles. -/
theorem LoadKept.of_heads {s t : State} (h : HeadsKept s t) : LoadKept 0 s t where
  rest := congrArg (fun o : Outside => { o with inputs := Vector.replicate 12 {}, vl := { o.vl with tables := {} } }) h.rest
  ports := h.ports
  roles := h.roles
  heads other := absurd rfl other
  inputs _ := congrArg Outside.inputs h.rest
  reads := congrArg (fun o => o.inputs.map InputRecord.reading) h.rest

/-- R88: a load of INPUT_MAP disarms the event latches. -/
theorem disarmLatches_load (a : Act) : LoadKept 4 a.s (disarmLatches a).s where
  rest := rfl
  ports := fun order => order
  roles := fun order => order
  heads _ := ⟨rfl, rfl⟩
  inputs other := absurd rfl other
  reads := by
    simp only [disarmLatches, Act.modInputs_inputs, Vector.map_map]
    rfl

theorem setTables_load (ts : Tables) (a : Act) : LoadKept id a.s (a.setTables ts).s where
  rest := rfl
  ports := fun order => order
  roles := fun order => order
  heads _ := ⟨rfl, rfl⟩
  inputs _ := rfl
  reads := rfl

theorem discarded_load (id : Nat) (before : State) (a : Act) : LoadKept id a.s (discarded id before a).s := by
  have refused {id : Nat} : LoadKept id a.s (refuseHeldForTable a).s := .of_outside (refuseHeldForTable_outside a)
  unfold discarded
  dsimp only
  split
  · split
    · exact refused.trans (.of_heads (directoryGone_heads _))
    · exact refused
  · exact refused
  · split
    · exact .of_outside (systemTableGone_outside a)
    · exact .refl _
  · split
    · exact LoadKept.trans (.of_outside (relevel_outside before a)) (disarmLatches_load _)
    · exact .refl _
  · exact .refl _

theorem becameValid_load (id : Nat) (before : State) (a : Act) : LoadKept id a.s (becameValid id before a).s := by
  unfold becameValid
  split
  · exact .of_heads (directoryValid_heads a)
  · exact .of_outside (systemTableValid_outside a)
  · exact .of_outside (relevel_outside before a)
  · exact .refl _

theorem partDone_load (id : Nat) (before : State) (a : Act) : LoadKept id a.s (partDone id before a).s := by
  refine .of_outside ?_
  unfold partDone
  dsimp only
  split <;> split <;> simp

theorem discardPart_load (id : Nat) (a : Act) : LoadKept id a.s (discardPart id a).s :=
  ((setTables_load _ a).trans (discarded_load id a.s _)).trans (partDone_load id a.s _)

theorem appendPart_load (id : Nat) (bytes : List Byte) (a : Act) : LoadKept id a.s (appendPart id bytes a).1.s := by
  have appended := (setTables_load (appendIn bytes a.s.vl.tables id).1 a).trans (partDone_load id a.s _)
  unfold appendPart
  dsimp only
  split <;> exact appended

theorem lastPart_load (id : Nat) (bytes : List Byte) (a : Act) : LoadKept id a.s (lastPart id bytes a).1.s := by
  have appended := appendPart_load id bytes a
  unfold lastPart
  split
  rename_i b answer joined
  rw [joined] at appended
  have validated := appended.trans ((setTables_load (validateIn b.s.vl.tables id).1 b).trans (partDone_load id b.s _))
  split
  · dsimp only
    split
    · exact validated
    · exact validated.trans (becameValid_load id b.s _)
  · exact appended

theorem guardLoad_load {body : Act → Act × Answered} (h : ∀ a, LoadKept id a.s (body a).1.s) (a : Act) :
    LoadKept id a.s (guardLoad id body a).1.s := by
  unfold guardLoad
  split
  · exact .refl _
  · exact h a

theorem whileLoading_load {body : Act → Act × Answered} (h : ∀ a, LoadKept id a.s (body a).1.s) (a : Act) :
    LoadKept id a.s (whileLoading id body a).1.s := by
  unfold whileLoading
  split
  · exact h a
  · exact .refl _

end

theorem loadFirst_load (id : Nat) (bytes : List Byte) (a : Act) : LoadKept id a.s (loadFirst id bytes a).1.s :=
  guardLoad_load (fun b => (discardPart_load id b).trans (appendPart_load id bytes _)) a

theorem loadMiddle_load (id : Nat) (bytes : List Byte) (a : Act) : LoadKept id a.s (loadMiddle id bytes a).1.s :=
  guardLoad_load (whileLoading_load (appendPart_load id bytes)) a

theorem loadLast_load (id : Nat) (bytes : List Byte) (a : Act) : LoadKept id a.s (loadLast id bytes a).1.s :=
  guardLoad_load (whileLoading_load (lastPart_load id bytes)) a

theorem loadOnly_load (id : Nat) (bytes : List Byte) (a : Act) : LoadKept id a.s (loadOnly id bytes a).1.s :=
  guardLoad_load (fun b => (discardPart_load id b).trans (lastPart_load id bytes _)) a

/-! ## The request envelope (R188 to R192) -/

/-- Of the whole state the Link Record and the Reply Queue alone have changed; the link, the tables and the mode stand, replies have
joined the tail of the queue, and the silence is in order where it was. -/
structure Served (s t : State) : Prop where
  rest : t = { s with vl := t.vl }
  link : t.vl.link = s.vl.link
  tables : t.vl.tables = s.vl.tables
  mode : t.vl.mode = s.vl.mode
  replies : ∃ new, t.vl.replies = s.vl.replies ++ new
  silence : SilenceInOrder s → SilenceInOrder t

/-- R191: what has joined the tail of a queue twice has joined it. -/
theorem joined_trans {α : Type} {l m n : List α} (h : ∃ new, m = l ++ new) (g : ∃ new, n = m ++ new) : ∃ new, n = l ++ new := by
  obtain ⟨first, rfl⟩ := h
  obtain ⟨second, rfl⟩ := g
  exact ⟨first ++ second, List.append_assoc ..⟩

theorem Served.refl (s : State) : Served s s := ⟨rfl, rfl, rfl, rfl, ⟨[], (List.append_nil _).symm⟩, id⟩

theorem Served.trans {s t u : State} (h : Served s t) (g : Served t u) : Served s u where
  rest := by rw [g.rest, h.rest]
  link := g.link.trans h.link
  tables := g.tables.trans h.tables
  mode := g.mode.trans h.mode
  replies := joined_trans h.replies g.replies
  silence := g.silence ∘ h.silence

/-- R190: a valid down frame starts the silence deadline afresh. -/
theorem framed_served (s : State) : Served s (framed s) :=
  ⟨rfl, rfl, rfl, rfl, ⟨[], (List.append_nil _).symm⟩, fun _ => by simp [SilenceInOrder, framed]⟩

theorem reply_served (seq code : Nat) (r : Answered) (a : Act) : Served a.s (reply seq code r a).s :=
  ⟨rfl, rfl, rfl, rfl, ⟨_, rfl⟩, id⟩

theorem discardRequest_served (a : Act) : Served a.s (discardRequest a).s :=
  ⟨rfl, rfl, rfl, rfl, ⟨[], (List.append_nil _).symm⟩, id⟩

/-- R191, R192: a request reaches its owner and is answered, or the Link Record and the Reply Queue are all that it changes. -/
theorem requestWith_outcome (pending : Result) (seq code : Nat) (owner : Act → Act × Answered) (s : State) :
    (Served s (requestWith pending seq code owner { s }).s ∧ (requestWith pending seq code owner { s }).notes = [])
      ∨ requestWith pending seq code owner { s } =
          reply seq code (owner { s := framed s }).2 (owner { s := framed s }).1 := by
  have framed := framed_served s
  by_cases locked : s.vl.link = .locked
  · rw [requestWith, onFrame_of_locked _ s locked]
    dsimp only
    split
    · exact .inl ⟨framed.trans (discardRequest_served { s := Machine.framed s }), rfl⟩
    · split
      · exact .inl ⟨framed.trans (reply_served seq code _ { s := Machine.framed s }), rfl⟩
      · exact .inr rfl
  · rw [requestWith, onFrame_of_unlocked _ _ locked]
    exact .inl ⟨.refl s, rfl⟩

/-! ## The end of an act (R198, R203) -/

/-- The records of the head links, the clock, and the silence of the Vehicle Link. -/
def Outside.links (o : Outside) : Vector PortRecord 8 × Vector RoleRecord 8 × Nat × Option Nat × Bool :=
  (o.ports, o.roles, o.now, o.vl.silenceDeadline, o.vl.active)

theorem sendOwn_links (cls : UpClass) (flags : Byte) (payload : List Byte) (a : Act) :
    (sendOwn cls flags payload a).s.outside.links = a.s.outside.links := rfl

theorem takeItem_links (w : Waiting) (a : Act) : (takeItem w a).s.outside.links = a.s.outside.links := by
  cases w with
  | reply r => rfl
  | status => exact sendOwn_links _ _ _ _
  | report i r => exact sendOwn_links _ _ _ _
  | digest => exact sendOwn_links _ _ _ _
  | telemetry t => exact sendOwn_links _ _ _ _

theorem emptySlots_links (a : Act) : (emptySlots a).s.outside.links = a.s.outside.links := rfl

theorem restartIce_outside (a : Act) : (restartIce a).s.outside = a.s.outside := by simp [restartIce]

/-- R198: a RESTART reaches neither the heads nor the silence of the Vehicle Link. -/
theorem restartEffects_links (a : Act) : (restartEffects a).s.outside.links = a.s.outside.links := by
  unfold restartEffects
  extract_lets emptied stopped standby lowered
  have changeover : stopped.s.outside = a.s.outside := restartChangeover_read blind_outside emptied
  have pans : lowered.s.outside = standby.s.outside :=
    (requestMbOpen_outside .protection _).trans (restartPans_read blind_outside (restartLine standby))
  calc (restartIce (restartRoute (disarmLatches lowered))).s.outside.links
    _ = (restartRoute (disarmLatches lowered)).s.outside.links := congrArg Outside.links (restartIce_outside _)
    _ = lowered.s.outside.links := rfl
    _ = standby.s.outside.links := congrArg Outside.links pans
    _ = stopped.s.outside.links := rfl
    _ = a.s.outside.links := congrArg Outside.links changeover

/-- Whatever the transmitter takes at the end of an act, the head links, the clock and the silence stand. -/
theorem complete_links (a : Act) : (complete a).s.outside.links = a.s.outside.links := by
  have told (fuel : Nat) (b : Act) : (settle fuel b).s.outside.links = b.s.outside.links :=
    congrArg Outside.links (settle_outside fuel b)
  unfold complete
  dsimp only
  split
  · exact told _ a
  · rename_i w _
    have took := (takeItem_links w (settle noteBound a)).trans (told _ a)
    split
    · rw [emptySlots_links, told, restartEffects_links, took]
    · exact took

end Sys2Proof.Machine

namespace Sys2Proof.Machine

/-! O9: every command and the idle step keep the Port Records, the Role Records and the silence of the Vehicle Link in order
(R174, R181, R190). -/

/-- The Port Records, the Role Records and the silence of the Vehicle Link are in order in the later state where they are in the
earlier one. -/
structure LinksKept (s t : State) : Prop where
  ports : PortsInOrder s → PortsInOrder t
  roles : RolesInOrder s → RolesInOrder t
  silence : SilenceInOrder s → SilenceInOrder t

theorem LinksKept.trans {s t u : State} (h : LinksKept s t) (g : LinksKept t u) : LinksKept s u :=
  ⟨g.ports ∘ h.ports, g.roles ∘ h.roles, g.silence ∘ h.silence⟩

theorem LinksKept.of_links {s t : State} (same : t.outside.links = s.outside.links) : LinksKept s t := by
  simp only [Outside.links, Prod.mk.injEq] at same
  obtain ⟨ports, roles, -, deadline, active⟩ := same
  refine ⟨portsInOrder_of_ports ports, rolesInOrder_of_outside roles, fun order => ?_⟩
  have deadline : t.vl.silenceDeadline = s.vl.silenceDeadline := deadline
  have active : t.vl.active = s.vl.active := active
  rwa [SilenceInOrder, deadline, active]

theorem LinksKept.of_outside {s t : State} (same : t.outside = s.outside) : LinksKept s t :=
  .of_links (congrArg Outside.links same)

theorem LinksKept.refl (s : State) : LinksKept s s := .of_links rfl

theorem HeadsKept.links {s t : State} (h : HeadsKept s t) : LinksKept s t where
  ports := h.ports
  roles := h.roles
  silence order := by
    have link : t.vl = s.vl := congrArg Outside.vl h.rest
    rwa [SilenceInOrder, link]

theorem LoadKept.links {id : Nat} {s t : State} (h : LoadKept id s t) : LinksKept s t where
  ports := h.ports
  roles := h.roles
  silence order := by
    have deadline : t.vl.silenceDeadline = s.vl.silenceDeadline := congrArg (fun o => o.vl.silenceDeadline) h.rest
    have active : t.vl.active = s.vl.active := congrArg (fun o => o.vl.active) h.rest
    rwa [SilenceInOrder, deadline, active]

theorem Served.links {s t : State} (h : Served s t) : LinksKept s t where
  ports := portsInOrder_of_ports (by rw [h.rest])
  roles := rolesInOrder_of_outside (by rw [h.rest]; rfl)
  silence := h.silence

theorem OneLineMoved.links {line : Fin 12} {s t : State} (h : OneLineMoved line s t) : LinksKept s t := by
  obtain ⟨_, moved, -⟩ := h
  exact .of_links (by rw [moved]; rfl)

theorem LatchMoved.links {n : Nat} {a b : Act} (h : LatchMoved n a b) : LinksKept a.s b.s := .of_links (by rw [h.rest]; rfl)

/-! ## Acts, deadlines, frames and requests -/

theorem perform_links (f : Act → Act) (s t : State) (h : LinksKept s (f { s }).s) (e : perform f s = .next t) :
    LinksKept s t := by
  unfold perform at e
  split at e <;> cases e
  · exact h.trans (.of_links (complete_links _))
  · exact .refl s

theorem atDeadline_links (deadline : Option Nat) (effect : Act → Act) (s : State) (h : ∀ a, LinksKept a.s (effect a).s) :
    LinksKept s (atDeadline deadline effect { s }).s := by
  cases deadline with
  | none => exact .refl _
  | some t =>
    have timed : LinksKept s { s with now := max s.now t } := ⟨fun order => order, fun order => order, fun order => order⟩
    exact timed.trans (h (({ s } : Act).setNow (max s.now t)))

theorem onFrame_links (f : Act → Act) (s : State) (h : ∀ a, LinksKept a.s (f a).s) : LinksKept s (onFrame f { s }).s := by
  by_cases locked : s.vl.link = .locked
  · rw [onFrame_of_locked f s locked]
    exact (framed_served s).links.trans (h { s := framed s })
  · rw [onFrame_of_unlocked f _ locked]
    exact .refl s

theorem requestWith_links (pending : Result) (seq code : Nat) (owner : Act → Act × Answered) (s : State)
    (h : ∀ a, LinksKept a.s (owner a).1.s) : LinksKept s (requestWith pending seq code owner { s }).s := by
  obtain ⟨served, -⟩ | answered := requestWith_outcome pending seq code owner s
  · exact served.links
  · rw [answered]
    exact ((framed_served s).links.trans (h { s := framed s })).trans (reply_served seq code _ _).links

/-! ## Events of the Vehicle Link (R188, R190, R196 to R199) -/

theorem vlLight_links (a : Act) : LinksKept a.s (vlLight a).s := by
  unfold vlLight
  split
  · exact .of_links rfl
  · exact .refl _

theorem vlLock_links (a : Act) : LinksKept a.s (vlLock a).s := by
  unfold vlLock
  split
  · exact .of_links rfl
  · exact .refl _

theorem vlUnlock_links (a : Act) : LinksKept a.s (vlUnlock a).s := by
  unfold vlUnlock
  split
  · exact .of_links rfl
  · exact .refl _

theorem vlDark_links (a : Act) : LinksKept a.s (vlDark a).s := .of_links rfl

theorem vlBad_links (a : Act) : LinksKept a.s (vlBad a).s := by
  unfold vlBad
  split
  · refine .of_links ?_
    simp only [Outside.links, State.outside, Act.modVl_vl]
    split <;> rfl
  · exact .refl _

/-- R190: a silence that has set in has no deadline. -/
theorem vlSilent_links (a : Act) : LinksKept a.s (vlSilent a).s := by
  have silent : LinksKept a.s (a.modVl fun v => { v with active := false, silenceDeadline := none }).s :=
    ⟨id, id, fun _ => by simp [SilenceInOrder]⟩
  unfold vlSilent
  dsimp only
  split <;> exact silent

theorem modeRun_links (a : Act) : LinksKept a.s (modeRun a).1.s := by
  unfold modeRun
  split
  · exact .refl _
  · split
    · exact .refl _
    · exact .of_links rfl

theorem modeStandby_links (a : Act) : LinksKept a.s (modeStandby a).1.s := by
  unfold modeStandby
  split
  · exact .refl _
  · exact .of_links rfl

/-- R199: counts that are cleared are in order. -/
theorem clearCounts_links (a : Act) : LinksKept a.s (clearCounts a).1.s where
  ports order port := by
    have cleared : (clearCounts a).1.s.ports[port] = { a.s.ports[port] with badFrames := 0 } := by simp [clearCounts]
    rw [cleared]
    exact ⟨fun unlocked => ⟨rfl, ((order port).1 unlocked).2⟩, (order port).2⟩
  roles order role := by
    have cleared : roleOf (clearCounts a).1.s role = (roleOf a.s role).presenceOnly := by
      simp [clearCounts, roleOf, RoleRecord.presenceOnly]
    rw [cleared]
    exact order role
  silence := id

theorem afterReset_links (levels : LineLevels) (s : State) : LinksKept s (afterReset levels s) where
  ports _ port := by simp [afterReset, State.reset]
  roles _ role := by simp [afterReset_role]
  silence _ := by simp [SilenceInOrder, afterReset, State.reset]

/-! ## Commands -/

theorem readTableRequest_state (table start : Nat) (a : Act) : (readTableRequest table start a).1 = a := by
  unfold readTableRequest
  split <;> rfl

theorem readRecordRequest_state (record : Nat) (a : Act) : (readRecordRequest record a).1 = a := by
  unfold readRecordRequest
  split <;> rfl

/-- Every command keeps the head links and the silence in order. -/
theorem exec_links (c : Instr) (s t : State) (e : exec c s = .next t) : LinksKept s t := by
  have kept (f : Act → Act) (h : ∀ a, LinksKept a.s (f a).s) (e : perform f s = .next t) : LinksKept s t :=
    perform_links f s t (h { s }) e
  have timed (d : Option Nat) (f : Act → Act) (h : ∀ a, LinksKept a.s (f a).s) (e : perform (atDeadline d f) s = .next t) :
      LinksKept s t := perform_links _ s t (atDeadline_links d f s h) e
  have asked (seq code : Nat) (owner : Act → Act × Answered) (h : ∀ a, LinksKept a.s (owner a).1.s)
      (e : perform (request seq code owner) s = .next t) : LinksKept s t :=
    perform_links _ s t (requestWith_links .busy seq code owner s h) e
  cases c with
  | powerOnReset levels =>
    cases e
    exact afterReset_links levels s
  | powerLoss =>
    cases e
    exact .of_links rfl
  | headLinkLightAppears port => exact kept _ (fun a => (portLight_heads port a).links) e
  | headLinkLockAchieved port => exact kept _ (fun a => (portLock_heads port a).links) e
  | headLinkLockLost port => exact kept _ (fun a => (portLockLost_heads port a).links) e
  | headLinkLightLost port => exact kept _ (fun a => (portDark_heads port a).links) e
  | headBadFrame port => exact kept _ (fun a => (portBadFrame_heads port a).links) e
  | announce port kind serial => exact kept _ (fun a => (announce_heads port kind serial a).links) e
  | headStatus port payload => exact kept _ (fun a => (headStatusFrame_heads port payload a).links) e
  | cell port sequence fault samples current =>
    exact kept _ (fun a => (cellFrame_heads port sequence fault samples current a).links) e
  | roleSilenceExpiry role => exact timed _ _ (fun a => (loseRole_heads role .silence a).links) e
  | panRaise seq pan role profile => exact asked _ _ _ (fun a => .of_outside (raisePan_outside pan role profile .pan a)) e
  | stageDeadlineExpiry pan => exact timed _ _ (fun a => .of_outside (nextStage_read blind_outside pan a)) e
  | raiseDeadlineExpiry pan => exact timed _ _ (fun a => .of_outside (raiseTimeout_read blind_outside pan a)) e
  | ventGuardExpiry pan => exact timed _ _ (fun a => .of_outside (ventGuardOver_read blind_outside pan a)) e
  | lowerDeadlineExpiry pan => exact timed _ _ (fun a => .of_outside (endAtDeadline_read blind_outside pan a)) e
  | panLower seq pans => exact asked _ _ _ (fun a => .of_outside (lowerReply_outside pans a)) e
  | clearPanFault seq pan => exact asked _ _ _ (fun a => .of_outside (clearFault_outside pan a)) e
  | moveDeadlineExpiry dev => exact timed _ _ (fun a => .of_outside (giveUpMove_read blind_outside dev a)) e
  | inputRawChange line level => exact kept _ (fun a => (takeRaw_oneLine line level a).links) e
  | filterDeadlineExpiry line => exact timed _ _ (fun a => (filterExpired_oneLine line a).links) e
  | inputArm seq line => exact asked _ _ _ (fun a => (armLine_latch line a).links) e
  | inputClear seq line => exact asked _ _ _ (fun a => (clearReply_latch line a).links) e
  | headCommand seq role payload =>
    refine perform_links (if payload.isEmpty then vlBad else onFrame (vehicleCommand seq role payload)) s t ?_ e
    split
    · exact vlBad_links { s }
    · exact onFrame_links _ s fun a => .of_outside (vehicleCommand_outside seq role payload a)
  | holdDeadlineExpiry role => exact timed _ _ (fun a => .of_outside (expireHold_read blind_outside role a)) e
  | position position speed quality =>
    refine perform_links _ s t (onFrame_links _ s fun a => ?_) e
    obtain ⟨_, adopted⟩ := takePosition_outside position speed quality a
    exact .of_links (by rw [adopted]; rfl)
  | staleDeadlineExpiry => exact timed _ becomeStale (fun a => .of_links rfl) e
  | queueAppend seq entries => exact asked _ _ _ (fun a => .of_outside (appendQueue_outside entries a)) e
  | triggerTimerExpiry =>
    exact timed _ (fun a => evaluateQueue (routeStandby a)) (fun a => .of_outside (evaluateQueue_outside (routeStandby a))) e
  | markerLoad seq list actions => exact asked _ _ _ (fun a => .of_outside (loadMarker_outside list actions a)) e
  | queueFlush seq => exact asked _ _ _ (fun a => .of_outside (flushQueueRequest_outside a)) e
  | markerFlush seq list => exact asked _ _ _ (fun a => .of_outside (flushMarkerRequest_outside list a)) e
  | changeoverStart seq target raisePosition =>
    exact asked _ _ _ (fun a => .of_outside (startChangeover_outside target raisePosition .vehicle a)) e
  | raiseTimerExpiry => exact timed _ _ (fun a => .of_outside (testAwaitRaise_outside a)) e
  | changeoverProceed seq => exact asked _ _ _ (fun a => .of_outside (proceedChangeover_outside a)) e
  | verifyDeadlineExpiry => exact timed _ _ (fun a => .of_outside (verifyTimedOut_read blind_outside a)) e
  | changeoverAbort seq => exact asked _ _ _ (fun a => .of_outside (abortChangeover_outside a)) e
  | iceMode seq setting => exact asked _ _ _ (fun a => .of_outside (iceReply_outside setting a)) e
  | vlLightAppears => exact kept _ vlLight_links e
  | vlLockAchieved => exact kept _ vlLock_links e
  | vlLockLost => exact kept _ vlUnlock_links e
  | vlLightLost => exact kept _ vlDark_links e
  | vlBadFrame => exact kept _ vlBad_links e
  | vlSilenceExpiry => exact timed _ _ vlSilent_links e
  | mgmtRequestDiscarded =>
    refine perform_links (fun a => if repliesFull a.s then onFrame discardRequest a else a) s t ?_ e
    dsimp only
    split
    · exact onFrame_links discardRequest s fun a => (discardRequest_served a).links
    · exact .refl s
  | loadTableFirst seq table records => exact asked _ _ _ (fun a => (loadFirst_load table records a).links) e
  | loadTableMiddle seq table records => exact asked _ _ _ (fun a => (loadMiddle_load table records a).links) e
  | loadTableLast seq table records => exact asked _ _ _ (fun a => (loadLast_load table records a).links) e
  | loadTableOnly seq table records => exact asked _ _ _ (fun a => (loadOnly_load table records a).links) e
  | readTable seq table start =>
    exact asked _ _ _ (fun a => .of_outside (congrArg (fun b : Act => b.s.outside) (readTableRequest_state table start a))) e
  | readRecord seq record =>
    exact asked _ _ _ (fun a => .of_outside (congrArg (fun b : Act => b.s.outside) (readRecordRequest_state record a))) e
  | setModeRun seq => exact asked _ _ _ modeRun_links e
  | setModeStandby seq => exact asked _ _ _ modeStandby_links e
  | restart seq =>
    have begun (a : Act) : LinksKept a.s (beginRestart a).1.s := .of_links rfl
    exact perform_links _ s t (requestWith_links .already seq 0x05 beginRestart s begun) e
  | clearCounters seq => exact asked _ _ _ clearCounts_links e
  | statusTimerExpiry => exact timed _ statusExpired (fun a => .of_links rfl) e
  | transmitterFree => exact kept transmitterDone (fun a => .of_links rfl) e
  | unknownRequest seq code => exact asked _ _ unknown (fun a => .refl _) e

theorem idle_links (s : State) : LinksKept s (idle s) := by
  unfold idle
  split
  · split
    · exact ⟨fun order => order, fun order => order, fun order => order⟩
    · exact .of_links rfl
  · exact .refl s

theorem step_links (s t : State) (e : step s = .next t) : LinksKept s t := by
  unfold step at e
  split at e
  · cases e
    exact idle_links s
  · rename_i rest _
    exact (LinksKept.of_links rfl : LinksKept s { s with pending := rest }).trans (exec_links _ _ t e)

/-- Settles O9: the Head Port Controller keeps each record that it writes in order (`HeadsKept`), a frame and the silence those of the
Vehicle Link, and nothing else, the end of an act with its RESTART included, reaches them (`complete_links`). -/
theorem stepsKeepTheLinksInOrder : Obligations.StepsKeepTheLinksInOrder := fun s t ports roles silence e =>
  have kept := step_links s t e
  ⟨kept.ports ports, kept.roles roles, kept.silence silence⟩

end Sys2Proof.Machine

namespace Sys2Proof.Machine

/-! SUPPORT. What the events of a head port make of the act they are given, and what the end of an act leaves of it (10). -/

/-! ## Readings of the head links -/

theorem roleOf_modRole (role other : Role) (f : RoleRecord → RoleRecord) (a : Act) :
    roleOf (a.modRole role f).s other = if other = role then f (roleOf a.s role) else roleOf a.s other := by
  split
  · rename_i same
    rw [same, roleOf_modRole_same]
  · rename_i apart
    exact roleOf_modRole_other f a apart

theorem updAt_updAt {α : Type} {n : Nat} (v : Vector α n) (i : Fin n) (f g : α → α) :
    updAt (updAt v i f) i g = updAt v i fun x => g (f x) := by
  rw [updAt, updAt_same]
  simp [updAt]

/-- The tables decide which role a port has. -/
theorem roleOfPort_of_vl {s t : State} (same : t.vl = s.vl) (port : Fin 8) : roleOfPort t port = roleOfPort s port := by
  simp only [roleOfPort, directoryOfPort, same]

theorem directoryOfPort_of_vl {s t : State} (same : t.vl = s.vl) (port : Fin 8) :
    directoryOfPort t port = directoryOfPort s port := by
  simp only [directoryOfPort, same]

/-- A port's role is the one that its HEAD_DIRECTORY record names. -/
theorem roleOfPort_eq_some (s : State) (port : Fin 8) (role : Role) :
    roleOfPort s port = some role ↔ ∃ d, directoryOfPort s port = some d ∧ d.role = .named role := by
  unfold roleOfPort
  cases record : directoryOfPort s port with
  | none => simp
  | some d => cases named : d.role <;> simp [named]

theorem rolePresent_iff (s : State) (role : Role) : rolePresent s role = true ↔ (roleOf s role).presence = .present := by
  simp [rolePresent]

/-- The end of an act leaves what a role's presence is. -/
theorem complete_presences (a : Act) (role : Role) :
    (roleOf (complete a).s role).presence = (roleOf a.s role).presence
      ∧ (roleOf (complete a).s role).silenceDeadline = (roleOf a.s role).silenceDeadline
      ∧ (roleOf (complete a).s role).lastForwarded = (roleOf a.s role).lastForwarded :=
  presences_of_outside (congrArg (·.2.1) (complete_links a)) role

theorem complete_ports (a : Act) : (complete a).s.ports = a.s.ports := congrArg (·.1) (complete_links a)

theorem complete_now (a : Act) : (complete a).s.now = a.s.now := congrArg (·.2.2.1) (complete_links a)

/-- An event that tells no block, at a busy transmitter. -/
theorem perform_of_act {f : Act → Act} {s t : State} (powered : s.powered = true) (sending : Sending t) (made : f { s } = { s := t }) :
    perform f s = .next t := by
  rw [perform_of_quiet f s powered (by rw [made]) (by rwa [made]), made]

/-! ## A port that leaves lock (R174, R175) -/

/-- R174: the act in which a port has entered DOWN or ACQUIRING. -/
def portUnlocked (s : State) (port : Fin 8) (link : PortLink) : Act :=
  { s := { s with ports := updAt s.ports port fun _ => { link } } }

theorem loseRole_of_away {role : Role} (cause : HeadCause) {a : Act} (away : rolePresent a.s role = false) :
    loseRole role cause a = a := if_neg (by simp [away])

section
variable {s : State} {port : Fin 8}

/-- R180: the role of a port that leaves lock is lost. -/
theorem portLeaves_of_role {role : Role} (link : PortLink) (mapped : roleOfPort s port = some role) :
    portLeaves port link { s } = loseRole role .link (portUnlocked s port link) := by
  have same : roleOfPort (portUnlocked s port link).s port = some role := mapped
  change (match roleOfPort (portUnlocked s port link).s port with
    | some role => loseRole role .link (portUnlocked s port link)
    | none => portUnlocked s port link) = _
  rw [same]

/-- R174: without a PRESENT role a port that leaves lock is all that changes. -/
theorem portLeaves_of_no_role (link : PortLink) (away : ∀ role, roleOfPort s port = some role → rolePresent s role = false) :
    portLeaves port link { s } = portUnlocked s port link := by
  cases mapped : roleOfPort s port with
  | some role =>
    rw [portLeaves_of_role link mapped]
    exact loseRole_of_away .link (away role mapped)
  | none =>
    have same : roleOfPort (portUnlocked s port link).s port = none := mapped
    change (match roleOfPort (portUnlocked s port link).s port with
      | some role => loseRole role .link (portUnlocked s port link)
      | none => portUnlocked s port link) = _
    rw [same]

theorem portLockLost_of_lock (lock : s.ports[port].link = .locked ∨ s.ports[port].link = .barred) :
    portLockLost port { s } = portLeaves port .acquiring { s } := by
  unfold portLockLost
  rcases lock with link | link <;> simp only [link]

theorem portDark_of_light (light : s.ports[port].link ≠ .down) : portDark port { s } = portLeaves port .down { s } := if_neg light

theorem portBadFrame_of_eighth (locked : s.ports[port].link = .locked) (eighth : 8 ≤ s.ports[port].badRun + 1) :
    portBadFrame port { s } = portLeaves port .acquiring { s } := (if_pos locked).trans (if_pos eighth)

end

/-! ## A role that is lost (R180, R181) -/

/-- R180, R181: a role has become LOST, and no other role's presence, silence deadline or last forwarded payload has changed. -/
def RoleLost (role : Role) (s t : State) : Prop :=
  (roleOf t role).presence = .lost ∧ (roleOf t role).silenceDeadline = none ∧ (roleOf t role).lastForwarded = none
    ∧ ∀ other, other ≠ role → (roleOf t other).presence = (roleOf s other).presence
        ∧ (roleOf t other).silenceDeadline = (roleOf s other).silenceDeadline
        ∧ (roleOf t other).lastForwarded = (roleOf s other).lastForwarded

theorem RoleLost.complete {role : Role} {s : State} {a : Act} (lost : RoleLost role s a.s) :
    RoleLost role s (Machine.complete a).s := by
  obtain ⟨presence, deadline, forwarded, others⟩ := lost
  have stands := complete_presences a
  obtain ⟨presence', deadline', forwarded'⟩ := stands role
  refine ⟨presence'.trans presence, deadline'.trans deadline, forwarded'.trans forwarded, fun other apart => ?_⟩
  obtain ⟨presence, deadline, forwarded⟩ := others other apart
  obtain ⟨presence', deadline', forwarded'⟩ := stands other
  exact ⟨presence'.trans presence, deadline'.trans deadline, forwarded'.trans forwarded⟩

/-- R181: the state in which a role has left PRESENT, before the blocks that read its presence are told. -/
theorem roleOf_loseRole {role : Role} (cause : HeadCause) {a : Act} (present : rolePresent a.s role = true) (other : Role) :
    roleOf (loseRole role cause a).s other =
      if other = role then { roleOf a.s role with presence := .lost, silenceDeadline := none, lastForwarded := none }
      else roleOf a.s other := by
  rw [loseRole, if_pos present]
  exact roleOf_modRole role other _ a

theorem loseRole_roleLost {role : Role} (cause : HeadCause) {a : Act} (present : rolePresent a.s role = true) :
    RoleLost role a.s (loseRole role cause a).s := by
  have here := roleOf_loseRole cause present
  refine ⟨by simp [here], by simp [here], by simp [here], fun other apart => by simp [here, apart]⟩

/-- The port of a role, where the HEAD_DIRECTORY has a record of it. -/
def portOfRole (s : State) (role : Role) : Option Nat := (directoryOfRole s role).map fun d : DirectoryRecord => d.port

/-- The Port Record of a role's port. -/
def recordOfRole (s : State) (role : Role) : Option PortRecord := (portOfRole s role).bind fun p => s.ports[p]?

/-- R182: the HEAD_STATE report of a change of a role's presence, with the role's port as it stands (assumption log 32). -/
def presenceReport (s : State) (role : Role) (before after : Presence) (cause : HeadCause) : Report :=
  .headState role (portOfRole s role) before after cause ((recordOfRole s role).map PortRecord.link)
    ((recordOfRole s role).bind PortRecord.kind) ((recordOfRole s role).bind PortRecord.serial) none none

/-- R182: the report that a role's record gives once its presence has changed. -/
theorem headStateReport_modRole {role : Role} {f : RoleRecord → RoleRecord} {a : Act} {after : Presence} (before : Presence)
    (cause : HeadCause) (changed : (f (roleOf a.s role)).presence = after) :
    headStateReport (a.modRole role f).s role before cause none none = presenceReport a.s role before after cause := by
  rw [headStateReport, roleOf_modRole_same, changed]
  rfl

/-- R181, R182: a role that is lost is reported, and the blocks that read its presence are told. -/
theorem loseRole_eq {role : Role} (cause : HeadCause) {a : Act} (present : rolePresent a.s role = true) :
    loseRole role cause a =
      { s := ({ a.s with
          roles := updAt a.s.roles (roleIndex role) fun r =>
            { r with presence := .lost, silenceDeadline := none, lastForwarded := none } }).reported
          (presenceReport a.s role .present .lost cause)
        notes := a.notes ++ leavingNotes role } := by
  rw [loseRole, if_pos present, leavePresent, reportHead, headStateReport_modRole .present cause rfl]
  rfl

/-! ## A valid frame (R175, R180) -/

/-- R175: a valid frame of a port without a PRESENT role ends its bad run. -/
theorem validFrame_of_away {s : State} {port : Fin 8}
    (away : ∀ d role, directoryOfPort s port = some d → d.role = .named role → rolePresent s role = false) :
    validFrame port { s } = { s := { s with ports := updAt s.ports port fun r => { r with badRun := 0 } } } := by
  change refreshSilence (directoryOfPort s port) (({ s } : Act).modPort port fun r => { r with badRun := 0 }) = _
  cases record : directoryOfPort s port with
  | none => rfl
  | some d =>
    cases named : d.role with
    | unnamed byte => simp only [refreshSilence, named, Coded.value]; rfl
    | named role =>
      have gone : rolePresent (({ s } : Act).modPort port fun r => { r with badRun := 0 }).s role = false :=
        away d role record named
      simp only [refreshSilence, named, Coded.value, gone]
      rfl

/-- R180: a valid frame of a PRESENT role sets its silence deadline afresh. -/
theorem validFrame_of_present {s : State} {port : Fin 8} {d : DirectoryRecord} {role : Role}
    (record : directoryOfPort s port = some d) (named : d.role = .named role) (present : rolePresent s role = true) :
    validFrame port { s } =
      { s := { s with
          ports := updAt s.ports port fun r => { r with badRun := 0 }
          roles := updAt s.roles (roleIndex role) fun r => { r with silenceDeadline := some (s.now + d.silence) } } } := by
  change refreshSilence (directoryOfPort s port) (({ s } : Act).modPort port fun r => { r with badRun := 0 }) = _
  have here : rolePresent (({ s } : Act).modPort port fun r => { r with badRun := 0 }).s role = true := present
  simp only [record, refreshSilence, named, Coded.value, here]
  rfl

theorem refreshSilence_presence (d : Option DirectoryRecord) (a : Act) (role : Role) :
    (roleOf (refreshSilence d a).s role).presence = (roleOf a.s role).presence := by
  unfold refreshSilence
  split
  · rfl
  · split
    · rfl
    · split
      · rw [roleOf_modRole]
        split
        · rename_i same
          rw [same]
        · rfl
      · rfl

theorem validFrame_presence (port : Fin 8) (a : Act) (role : Role) :
    (roleOf (validFrame port a).s role).presence = (roleOf a.s role).presence := refreshSilence_presence _ _ role

theorem validFrame_vl (port : Fin 8) (a : Act) : (validFrame port a).s.vl = a.s.vl :=
  congrArg Outside.vl (validFrame_heads port a).rest

theorem validFrame_now (port : Fin 8) (a : Act) : (validFrame port a).s.now = a.s.now :=
  congrArg Outside.now (validFrame_heads port a).rest

end Sys2Proof.Machine

namespace Sys2Proof.Machine

/-! O12: the events of a head port's receiver, where no PRESENT role is mapped to the port (R174, R175). -/

/-- Settles O12: no role is lost (`portLeaves_of_no_role`), so that no block is told and the Port Record is all that changes. -/
theorem receiverEventsMoveThePort : Obligations.ReceiverEventsMoveThePort := by
  intro s port powered sending away put was
  have leaves (link : PortLink) : portLeaves port link { s } = { s := put { link } } := portLeaves_of_no_role link away
  have made {f : Act → Act} {c : Prop} [Decidable c] {t u : State} (ht : Sending t) (hu : Sending u)
      (yes : c → f { s } = { s := t }) (no : ¬ c → f { s } = { s := u }) :
      perform f s = .next (if c then t else u) := by
    split
    · exact perform_of_act powered ht (yes ‹_›)
    · exact perform_of_act powered hu (no ‹_›)
  refine ⟨made (f := portLight port) sending sending ?_ ?_, made (f := portLock port) sending sending ?_ ?_,
    made (f := portLockLost port) sending sending ?_ ?_, made (f := portDark port) sending sending ?_ ?_, ?_⟩
  · exact fun down => if_pos down
  · exact fun light => if_neg light
  · exact fun acquiring => if_pos acquiring
  · exact fun other => if_neg other
  · exact fun lock => (portLockLost_of_lock lock).trans (leaves .acquiring)
  · intro none
    unfold portLockLost
    split
    · exact absurd (.inl ‹_›) none
    · exact absurd (.inr ‹_›) none
    · rfl
    · rfl
  · exact fun down => if_pos down
  · exact fun light => (portDark_of_light light).trans (leaves .down)
  · change perform (portBadFrame port) s = _
    split
    · rename_i locked
      refine made (f := portBadFrame port) sending sending (fun few => ?_) fun many => ?_
      · exact (if_pos locked).trans (if_neg (Nat.not_le.2 few))
      · exact (portBadFrame_of_eighth locked (Nat.not_lt.1 many)).trans (leaves .acquiring)
    · rename_i other
      exact perform_of_act powered sending (if_neg other)

end Sys2Proof.Machine

namespace Sys2Proof.Machine

/-! O13: a PRESENT role is lost at its silence deadline, and when its port loses lock or light (R174, R175, R180 to R182). -/

section
variable {s : State} {role : Role} (powered : s.powered = true)
include powered

/-- R180: the silence deadline of a role expires. -/
theorem execRoleSilenceExpiry_of_running {d : Nat} (deadline : (roleOf s role).silenceDeadline = some d) :
    exec (.roleSilenceExpiry role) s = .next (complete (loseRole role .silence { s := { s with now := max s.now d } })).s := by
  change perform (atDeadline (roleOf s role).silenceDeadline (loseRole role .silence)) s = _
  rw [deadline, perform_atDeadline d _ s powered]

variable {port : Fin 8} (mapped : roleOfPort s port = some role)
include mapped

theorem execHeadLinkLockLost_of_role (lock : s.ports[port].link = .locked ∨ s.ports[port].link = .barred) :
    exec (.headLinkLockLost port) s = .next (complete (loseRole role .link (portUnlocked s port .acquiring))).s := by
  change perform (portLockLost port) s = _
  rw [perform_of_powered _ s powered, portLockLost_of_lock lock, portLeaves_of_role .acquiring mapped]

theorem execHeadLinkLightLost_of_role (light : s.ports[port].link ≠ .down) :
    exec (.headLinkLightLost port) s = .next (complete (loseRole role .link (portUnlocked s port .down))).s := by
  change perform (portDark port) s = _
  rw [perform_of_powered _ s powered, portDark_of_light light, portLeaves_of_role .down mapped]

theorem execHeadBadFrame_of_role (locked : s.ports[port].link = .locked) (eighth : 8 ≤ s.ports[port].badRun + 1) :
    exec (.headBadFrame port) s = .next (complete (loseRole role .link (portUnlocked s port .acquiring))).s := by
  change perform (portBadFrame port) s = _
  rw [perform_of_powered _ s powered, portBadFrame_of_eighth locked eighth, portLeaves_of_role .acquiring mapped]

end

/-- Settles O13: each of the four events loses the role (`loseRole`), whose readers and whose report `loseRole_eq` gives, and the end of
the act leaves every presence as it finds it (`complete_presences`). -/
theorem presentRoleIsLost : Obligations.PresentRoleIsLost := by
  refine ⟨fun s role powered present => ?_, fun s role powered => ?_, fun a role cause => ⟨loseRole_of_away cause, fun present => ?_⟩⟩
  · have lost {x : Act} (cause : HeadCause) (same : x.s.roles = s.roles) :
        RoleLost role s (complete (loseRole role cause x)).s := by
      have roles (other : Role) : roleOf x.s other = roleOf s other := by simp only [roleOf, same]
      have here : rolePresent x.s role = true := by rwa [rolePresent, roles]
      have lost := loseRole_roleLost cause here
      simp only [RoleLost, roles] at lost
      exact RoleLost.complete lost
    have ports {x : Act} (cause : HeadCause) : (complete (loseRole role cause x)).s.ports = x.s.ports := by
      rw [complete_ports, loseRole_ports]
    refine ⟨fun d deadline => ?_, fun port mapped => ⟨fun lock => ?_, fun light => ?_, fun locked eighth => ?_⟩⟩
    · refine ⟨_, execRoleSilenceExpiry_of_running powered deadline, lost .silence rfl, ?_, ports .silence⟩
      rw [complete_now]
      exact congrArg Outside.now (loseRole_heads role .silence _).rest
    · exact ⟨_, execHeadLinkLockLost_of_role powered mapped lock, lost .link rfl, ports .link⟩
    · exact ⟨_, execHeadLinkLightLost_of_role powered mapped light, lost .link rfl, ports .link⟩
    · exact ⟨_, execHeadBadFrame_of_role powered mapped locked eighth, lost .link rfl, ports .link⟩
  · exact ⟨fun d => execRoleSilenceExpiry_of_running powered, fun port mapped => ⟨execHeadLinkLockLost_of_role powered mapped,
      execHeadLinkLightLost_of_role powered mapped, execHeadBadFrame_of_role powered mapped⟩⟩
  · refine (loseRole_eq cause present).trans ?_
    cases role <;> rfl

end Sys2Proof.Machine

namespace Sys2Proof.Machine

/-! O14: an announcement is held, checked and repeated, and a port that is barred is reported (R176, R182). -/

/-! ## The check of a kind (R176) -/

/-- The kind announced is that of the port's HEAD_DIRECTORY record, where it has one. -/
def KindFits (s : State) (port : Fin 8) (kind : Nat) : Prop := ∀ d, directoryOfPort s port = some d → d.kind = kind

section
variable {a : Act} {port : Fin 8}

theorem checkKind_of_no_kind (unannounced : a.s.ports[port].kind = none) : checkKind port a = a := by
  unfold checkKind
  rw [unannounced]
  cases directoryOfPort a.s port <;> rfl

theorem checkKind_of_no_record (record : directoryOfPort a.s port = none) : checkKind port a = a := by
  unfold checkKind
  rw [record]

theorem checkKind_of_fits {kind : Nat} (announced : a.s.ports[port].kind = some kind) (fits : KindFits a.s port kind) :
    checkKind port a = a := by
  cases record : directoryOfPort a.s port with
  | none => exact checkKind_of_no_record record
  | some d =>
    simp only [checkKind, record, announced]
    exact if_pos (fits d record).symm

/-- R176: a port with another kind than its record's is barred. -/
theorem checkKind_ports {kind : Nat} (announced : a.s.ports[port].kind = some kind) (fits : ¬ KindFits a.s port kind) :
    (checkKind port a).s.ports = updAt a.s.ports port fun r => { r with link := .barred, badFrames := 0, badRun := 0 } := by
  simp only [KindFits, not_forall] at fits
  obtain ⟨d, record, other⟩ := fits
  simp only [checkKind, record, announced]
  rw [if_neg (Ne.symm other)]
  split <;> rfl

theorem checkKind_roles (port : Fin 8) (a : Act) : (checkKind port a).s.roles = a.s.roles := by
  unfold checkKind
  split
  · split
    · rfl
    · dsimp only
      split <;> rfl
  · rfl

/-- The record of a port names the port. -/
theorem port_of_directoryOfPort {s : State} {d : DirectoryRecord} (record : directoryOfPort s port = some d) : d.port = port.val := by
  simpa using List.find?_some record

/-- R176, R182: the report of a port that is barred. -/
theorem checkKind_of_misfit {d : DirectoryRecord} {role : Role} {kind : Nat} (record : directoryOfPort a.s port = some d)
    (named : d.role = .named role) (mapped : directoryOfRole a.s role = some d) (announced : a.s.ports[port].kind = some kind)
    (other : kind ≠ d.kind) :
    checkKind port a =
      { a with
        s := ({ a.s with
            ports := updAt a.s.ports port fun r => { r with link := .barred, badFrames := 0, badRun := 0 } }).reported
          (.headState role (some port.val) (roleOf a.s role).presence (roleOf a.s role).presence .barred (some .barred) (some kind)
            a.s.ports[port].serial (some d.kind) none) } := by
  let barred := a.modPort port fun r => { r with link := .barred, badFrames := 0, badRun := 0 }
  have port' := port_of_directoryOfPort record
  have here : barred.s.ports[port.val]? = some { a.s.ports[port] with link := .barred, badFrames := 0, badRun := 0 } := by
    rw [Vector.getElem?_eq_getElem port.isLt]
    exact congrArg some (updAt_same a.s.ports port _)
  have directory : directoryOfRole barred.s role = some d := mapped
  have report : headStateReport barred.s role (roleOf a.s role).presence .barred (some d.kind) none =
      .headState role (some port.val) (roleOf a.s role).presence (roleOf a.s role).presence .barred (some .barred) (some kind)
        a.s.ports[port].serial (some d.kind) none := by
    simp only [headStateReport, directory, Option.map_some, Option.bind_some, port', here, announced]
    rfl
  simp only [checkKind, record, announced, named, Coded.value]
  rw [if_neg other, ← report]
  rfl

end

/-! ## An announcement (R176) -/

/-- R176: the port holds an announcement. -/
def announcementHeld (port : Fin 8) (kind serial : Nat) (a : Act) : Act :=
  a.modPort port fun r => { r with kind := some kind, serial := some serial }

/-- R176: the act in which a different announcement has lost the port's role. -/
def headChanged (s : State) (port : Fin 8) : Act :=
  (roleOfPort s port).elim (validFrame port { s }) fun role => loseRole role .headChanged (validFrame port { s })

section
variable {s : State} {port : Fin 8} {kind serial : Nat} (locked : s.ports[port].link = .locked)
include locked

/-- R176: on a LOCKED port what the port holds decides what an announcement does. -/
theorem announce_of_locked : announce port kind serial { s } =
    if s.ports[port].kind = none then checkKind port (announcementHeld port kind serial (validFrame port { s }))
    else if s.ports[port].kind = some kind ∧ s.ports[port].serial = some serial then validFrame port { s }
    else checkKind port (announcementHeld port kind serial (headChanged s port)) := by
  have held := validFrame_port port { s }
  have mapped : roleOfPort (validFrame port { s }).s port = roleOfPort s port := roleOfPort_of_vl (validFrame_vl port { s }) port
  rw [announce, if_pos locked]
  dsimp only
  rw [held, mapped, headChanged]
  cases roleOfPort s port <;> rfl

theorem announce_of_first (first : s.ports[port].kind = none) :
    announce port kind serial { s } = checkKind port (announcementHeld port kind serial (validFrame port { s })) := by
  rw [announce_of_locked locked, if_pos first]

theorem announce_of_repeated (repeated : s.ports[port].kind = some kind ∧ s.ports[port].serial = some serial) :
    announce port kind serial { s } = validFrame port { s } := by
  have held : s.ports[port].kind ≠ none := by
    rw [repeated.1]
    exact Option.some_ne_none kind
  rw [announce_of_locked locked, if_neg held, if_pos repeated]

theorem announce_of_changed (held : s.ports[port].kind ≠ none)
    (changed : ¬ (s.ports[port].kind = some kind ∧ s.ports[port].serial = some serial)) :
    announce port kind serial { s } = checkKind port (announcementHeld port kind serial (headChanged s port)) := by
  rw [announce_of_locked locked, if_neg held, if_neg changed]

end

/-! ## What an announcement leaves of the ports and the presences -/

theorem announcementHeld_kind (port : Fin 8) (kind serial : Nat) (x : Act) :
    (announcementHeld port kind serial x).s.ports[port].kind = some kind := congrArg PortRecord.kind (updAt_same x.s.ports port _)

/-- What a valid frame or a lost role leaves of the tables and the ports. -/
structure FrameTaken (s : State) (port : Fin 8) (x : Act) : Prop where
  vl : x.s.vl = s.vl
  ports : x.s.ports = updAt s.ports port fun r => { r with badRun := 0 }

theorem validFrame_taken (s : State) (port : Fin 8) : FrameTaken s port (validFrame port { s }) :=
  ⟨validFrame_vl port { s }, validFrame_ports port { s }⟩

theorem headChanged_taken (s : State) (port : Fin 8) : FrameTaken s port (headChanged s port) := by
  have taken := validFrame_taken s port
  unfold headChanged
  cases roleOfPort s port with
  | none => exact taken
  | some role =>
    exact ⟨(congrArg Outside.vl (loseRole_heads role .headChanged _).rest).trans taken.vl, (loseRole_ports _ _ _).trans taken.ports⟩

section
variable {s : State} {port : Fin 8} {x : Act} (taken : FrameTaken s port x) (kind serial : Nat)
include taken

theorem FrameTaken.fits_iff : KindFits (announcementHeld port kind serial x).s port kind ↔ KindFits s port kind := by
  have same : directoryOfPort (announcementHeld port kind serial x).s port = directoryOfPort s port := directoryOfPort_of_vl taken.vl port
  simp only [KindFits, same]

/-- R176: an announcement that fits is held. -/
theorem FrameTaken.ports_of_fits (fits : KindFits s port kind) : (checkKind port (announcementHeld port kind serial x)).s.ports =
    updAt s.ports port fun r => { r with badRun := 0, kind := some kind, serial := some serial } := by
  rw [checkKind_of_fits (announcementHeld_kind port kind serial x) ((taken.fits_iff kind serial).2 fits), announcementHeld, Act.modPort_ports,
    taken.ports, updAt_updAt]

/-- R176: an announcement that does not fit is held, and the port is barred. -/
theorem FrameTaken.ports_of_misfit (fits : ¬ KindFits s port kind) : (checkKind port (announcementHeld port kind serial x)).s.ports =
    updAt s.ports port fun _ => { link := .barred, kind := some kind, serial := some serial, badFrames := 0, badRun := 0 } := by
  rw [checkKind_ports (announcementHeld_kind port kind serial x) (mt (taken.fits_iff kind serial).1 fits), announcementHeld, Act.modPort_ports,
    taken.ports, updAt_updAt, updAt_updAt]

end

/-- R176: a different announcement loses the role of its port, where it is PRESENT, and no other. -/
theorem headChanged_presence (s : State) (port : Fin 8) (role : Role) : (roleOf (headChanged s port).s role).presence =
    if roleOfPort s port = some role ∧ rolePresent s role = true then .lost else (roleOf s role).presence := by
  have valid := validFrame_presence port { s }
  unfold headChanged
  cases mapped : roleOfPort s port with
  | none => simp [valid]
  | some lost =>
    have same : rolePresent (validFrame port { s }).s lost = rolePresent s lost := by rw [rolePresent, valid, rolePresent]
    cases present : rolePresent s lost with
    | false =>
      rw [Option.elim_some, loseRole_of_away .headChanged (same.trans present), valid, if_neg]
      rintro ⟨named, here⟩
      obtain rfl := Option.some.inj named
      exact absurd here (by simp [present])
    | true =>
      rw [Option.elim_some, roleOf_loseRole .headChanged (same.trans present)]
      by_cases apart : role = lost
      · subst apart
        simp [present]
      · rw [if_neg apart, valid, if_neg]
        exact fun ⟨named, _⟩ => apart (Option.some.inj named).symm

theorem presence_checkKind_held (port : Fin 8) (kind serial : Nat) (x : Act) (role : Role) :
    (roleOf (checkKind port (announcementHeld port kind serial x)).s role).presence = (roleOf x.s role).presence := by
  rw [roleOf, checkKind_roles]
  rfl

/-- R176: an announcement by what its port holds: what the port and the presences have come to. -/
theorem announce_ports_presences {s : State} {port : Fin 8} (kind serial : Nat) (locked : s.ports[port].link = .locked) :
    let t := (announce port kind serial { s }).s
    let repeated : Prop := s.ports[port].kind = some kind ∧ s.ports[port].serial = some serial
    (repeated → t.ports = updAt s.ports port fun r => { r with badRun := 0 })
      ∧ (¬ repeated → KindFits s port kind →
          t.ports = updAt s.ports port fun r => { r with badRun := 0, kind := some kind, serial := some serial })
      ∧ (¬ repeated → ¬ KindFits s port kind →
          t.ports = updAt s.ports port fun _ =>
            { link := .barred, kind := some kind, serial := some serial, badFrames := 0, badRun := 0 })
      ∧ ∀ role, (roleOf t role).presence =
          if roleOfPort s port = some role ∧ rolePresent s role ∧ s.ports[port].kind ≠ none ∧ ¬ repeated then .lost
          else (roleOf s role).presence := by
  intro t repeated
  have valid := validFrame_taken s port
  by_cases again : repeated
  · have made : t = (validFrame port { s }).s := congrArg Act.s (announce_of_repeated locked again)
    rw [made]
    exact ⟨fun _ => valid.ports, fun other => absurd again other, fun other => absurd again other,
      fun role => by simp [again, validFrame_presence]⟩
  · have made : ∃ x, FrameTaken s port x ∧ t = (checkKind port (announcementHeld port kind serial x)).s
        ∧ ∀ role, (roleOf x.s role).presence = if roleOfPort s port = some role ∧ rolePresent s role ∧ s.ports[port].kind ≠ none
          ∧ ¬ repeated then .lost else (roleOf s role).presence := by
      by_cases first : s.ports[port].kind = none
      · exact ⟨_, valid, congrArg Act.s (announce_of_first locked first), fun role => by
          rw [validFrame_presence, if_neg fun ⟨_, _, held, _⟩ => held first]⟩
      · exact ⟨_, headChanged_taken s port, congrArg Act.s (announce_of_changed locked first again),
          fun role => (headChanged_presence s port role).trans
            (if_congr ⟨fun ⟨mapped, here⟩ => ⟨mapped, here, first, again⟩, fun ⟨mapped, here, _⟩ => ⟨mapped, here⟩⟩ rfl rfl)⟩
    obtain ⟨x, taken, made, presences⟩ := made
    rw [made]
    exact ⟨fun same => absurd same again, fun _ => taken.ports_of_fits kind serial, fun _ => taken.ports_of_misfit kind serial,
      fun role => by rw [presence_checkKind_held, presences]⟩

/-- Settles O14: an announcement by what its port holds (`announce_of_locked`), and the check of its kind (`checkKind`). -/
theorem announcementIsHeldAndChecked : Obligations.AnnouncementIsHeldAndChecked := by
  refine ⟨fun s port kind serial powered locked => ?_, fun s port kind serial powered locked => ?_,
    fun a port d role kind record named mapped announced => ⟨fun same => ?_,
      checkKind_of_misfit record named mapped announced⟩, fun a port absent => ?_⟩
  · refine ⟨_, perform_of_powered (announce port kind serial) s powered, ?_⟩
    simp only [complete_ports, complete_presences]
    exact announce_ports_presences kind serial locked
  · have taken {x : Act} (made : announce port kind serial { s } = x) :
        exec (.announce port kind serial) s = .next (complete x).s := by
      rw [← made]
      exact perform_of_powered (announce port kind serial) s powered
    refine ⟨fun first => taken (announce_of_first locked first), fun repeated => taken (announce_of_repeated locked repeated),
      fun held changed => ⟨fun unmapped => taken ?_, fun role mapped => taken ?_⟩⟩
    · rw [announce_of_changed locked held changed, headChanged, unmapped]
      rfl
    · rw [announce_of_changed locked held changed, headChanged, mapped]
      rfl
  · refine checkKind_of_fits announced fun other found => ?_
    rw [record] at found
    exact Option.some.inj found ▸ same.symm
  · obtain record | unannounced := absent
    · exact checkKind_of_no_record record
    · exact checkKind_of_no_kind unannounced

end Sys2Proof.Machine

namespace Sys2Proof.Machine

/-! O15: a STATUS that fits makes its role PRESENT and is handed to its block; one of a wrong length is a bad frame (R175, R179 to
R182). -/

/-! ## A role that becomes PRESENT (R179) -/

theorem becomePresent_of_present {role : Role} (silence : Nat) {a : Act} (present : (roleOf a.s role).presence = .present) :
    becomePresent role silence a = a := if_pos present

/-- R179, R181, R182: a role that becomes PRESENT is reported, and the blocks that read its presence are told. -/
theorem becomePresent_eq {role : Role} (silence : Nat) {a : Act} (away : (roleOf a.s role).presence ≠ .present) :
    becomePresent role silence a =
      { s := ({ a.s with
          roles := updAt a.s.roles (roleIndex role) fun r =>
            { r with presence := .present, silenceDeadline := some (a.s.now + silence) } }).reported
          (presenceReport a.s role (roleOf a.s role).presence .present .present)
        notes := a.notes ++ returnNotes role } := by
  rw [becomePresent]
  dsimp only
  rw [if_neg away, reportHead, headStateReport_modRole _ .present rfl]
  rfl

/-- R179: no other role's record changes. -/
theorem roleOf_becomePresent_other {role other : Role} (silence : Nat) (a : Act) (apart : other ≠ role) :
    roleOf (becomePresent role silence a).s other = roleOf a.s other := by
  unfold becomePresent
  dsimp only
  split
  · rfl
  · exact roleOf_modRole_other (fun r => { r with presence := .present, silenceDeadline := some (a.s.now + silence) }) a apart

theorem becomePresent_ports (role : Role) (silence : Nat) (a : Act) : (becomePresent role silence a).s.ports = a.s.ports := by
  unfold becomePresent
  dsimp only
  split <;> rfl

/-! ## A STATUS of a role (R179, R184) -/

/-- R184: what is offered for forwarding reaches the last forwarded payload alone of the records of the heads. -/
theorem forward_heads_still (d : DirectoryRecord) (role : Role) (payload : List Byte) (a : Act) :
    (forward d role payload a).s.ports = a.s.ports
      ∧ ∀ other, (roleOf (forward d role payload a).s other).presence = (roleOf a.s other).presence
          ∧ (roleOf (forward d role payload a).s other).silenceDeadline = (roleOf a.s other).silenceDeadline := by
  have offered (item : TelemetryItem) : (offerTelemetry item a).1.s.ports = a.s.ports
      ∧ ∀ other, roleOf (offerTelemetry item a).1.s other = roleOf a.s other := by
    unfold offerTelemetry
    split <;> exact ⟨rfl, fun _ => rfl⟩
  unfold forward
  split
  · obtain ⟨ports, roles⟩ := offered { role, port := d.port, kind := d.kind, payload }
    split <;> rename_i joined <;> rw [joined] at ports roles
    · refine ⟨ports, fun other => ?_⟩
      rw [roleOf_modRole]
      split
      · rename_i same
        rw [same, roles]
        exact ⟨rfl, rfl⟩
      · rw [roles]
        exact ⟨rfl, rfl⟩
    · exact ⟨ports, fun other => by rw [roles]; exact ⟨rfl, rfl⟩⟩
  · exact ⟨rfl, fun _ => ⟨rfl, rfl⟩⟩

/-- R179, R184: what a STATUS of a role leaves of the records of the heads once the role is PRESENT. -/
theorem roleStatus_heads_still (d : DirectoryRecord) (role : Role) (payload : List Byte) (a : Act) :
    (roleStatus d role payload a).s.ports = a.s.ports
      ∧ ∀ other, (roleOf (roleStatus d role payload a).s other).presence = (roleOf (becomePresent role d.silence a).s other).presence
          ∧ (roleOf (roleStatus d role payload a).s other).silenceDeadline =
            (roleOf (becomePresent role d.silence a).s other).silenceDeadline := by
  let present := becomePresent role d.silence a
  have handed : (handStatus role payload present).s.outside = present.s.outside := handStatus_outside role payload present
  obtain ⟨ports, roles⟩ := forward_heads_still d role payload (handStatus role payload present)
  refine ⟨(ports.trans (congrArg Outside.ports handed)).trans (becomePresent_ports role d.silence a), fun other => ?_⟩
  obtain ⟨presence, deadline, -⟩ := presences_of_outside (congrArg Outside.roles handed) other
  exact ⟨(roles other).1.trans presence, (roles other).2.trans deadline⟩

/-! ## A STATUS frame (R175, R179) -/

section
variable {s : State} {port : Fin 8} {payload : List Byte}

/-- R175: a STATUS of a wrong length is a bad frame. -/
theorem headStatusFrame_of_misfit (a : Act) (length : statusFits (roleOfPort a.s port) payload = false) :
    headStatusFrame port payload a = portBadFrame port a := by
  unfold headStatusFrame portBadFrame
  split
  · simp only [length, Bool.false_eq_true, if_false]
  · rfl

/-- R179: a STATUS from a port whose announced kind is its record's is one of the port's role. -/
theorem headStatusFrame_of_role {d : DirectoryRecord} {role : Role} (locked : s.ports[port].link = .locked)
    (length : statusFits (roleOfPort s port) payload = true) (record : directoryOfPort s port = some d)
    (named : d.role = .named role) (kind : s.ports[port].kind = some d.kind) :
    headStatusFrame port payload { s } = roleStatus d role payload (validFrame port { s }) := by
  have held := validFrame_port port { s }
  have mapped : directoryOfPort (validFrame port { s }).s port = some d :=
    (directoryOfPort_of_vl (validFrame_vl port { s }) port).trans record
  rw [headStatusFrame, if_pos locked, if_pos length]
  dsimp only
  rw [mapped]
  dsimp only
  rw [held, if_pos kind, named]
  rfl

/-- R180: after a valid frame and its STATUS the role is PRESENT, with a silence deadline from now. -/
theorem becomePresent_validFrame {d : DirectoryRecord} {role : Role} (record : directoryOfPort s port = some d)
    (named : d.role = .named role) :
    (roleOf (becomePresent role d.silence (validFrame port { s })).s role).presence = .present
      ∧ (roleOf (becomePresent role d.silence (validFrame port { s })).s role).silenceDeadline = some (s.now + d.silence) := by
  refine ⟨becomePresent_present role d.silence _, ?_⟩
  have same := validFrame_presence port { s } role
  by_cases present : (roleOf s role).presence = .present
  · rw [becomePresent_of_present d.silence (same.trans present),
      validFrame_of_present record named ((rolePresent_iff s role).2 present)]
    exact congrArg RoleRecord.silenceDeadline (updAt_same s.roles (roleIndex role) _)
  · have away : (roleOf (validFrame port { s }).s role).presence ≠ .present := by rwa [same]
    rw [becomePresent_eq d.silence away, ← validFrame_now port { s }]
    exact congrArg RoleRecord.silenceDeadline (updAt_same (validFrame port { s }).s.roles (roleIndex role) _)

end

/-- R175: the least length of a STATUS by its role, and the length of a whole payload. -/
theorem statusFits_iff (role : Option Role) (payload : List Byte) :
    statusFits role payload = true ↔ statusLength role ≤ payload.length ∧ payload.length ≤ 237 := decide_eq_true_iff

/-- Settles O15: a STATUS of a wrong length is a bad frame, one that fits goes through `becomePresent`, its role's block and the
forwarding (`headStatusFrame_of_role`), of which the first alone reaches a presence or a silence deadline. -/
theorem statusMakesTheRolePresent : Obligations.StatusMakesTheRolePresent := by
  refine ⟨fun s port payload => ⟨fun length => ?_, fun d role powered locked length record named kind => ?_⟩,
    fun s port payload d role powered locked length record named kind => ?_, fun a role silence => ⟨becomePresent_of_present silence,
    fun away => ?_⟩, fun s port => ⟨validFrame_of_away, fun d role => validFrame_of_present⟩, fun role payload => ?_,
    roleOfPort_eq_some⟩
  · change perform (headStatusFrame port payload) s = perform (portBadFrame port) s
    unfold perform
    rw [headStatusFrame_of_misfit { s } length]
  · obtain ⟨ports, roles⟩ := roleStatus_heads_still d role payload (validFrame port { s })
    obtain ⟨present, deadline⟩ := becomePresent_validFrame record named
    have frame := headStatusFrame_of_role locked length record named kind
    refine ⟨_, perform_of_powered (headStatusFrame port payload) s powered, ?_⟩
    simp only [complete_ports, complete_presences, complete_now]
    refine ⟨?_, ?_, ?_, congrArg Outside.now (headStatusFrame_heads port payload { s }).rest, fun other apart => ?_⟩
    · rw [frame, (roles role).1, present]
    · rw [frame, (roles role).2, deadline]
    · rw [frame, ports, validFrame_ports]
    · rw [frame, (roles other).1, roleOf_becomePresent_other d.silence _ apart, validFrame_presence]
  · change perform (headStatusFrame port payload) s = _
    rw [perform_of_powered _ s powered, headStatusFrame_of_role locked length record named kind]
    cases role <;> rfl
  · refine (becomePresent_eq silence away).trans ?_
    cases role <;> rfl
  · rw [statusFits_iff]
    obtain - | role := role
    · rfl
    · cases role <;> rfl

end Sys2Proof.Machine

namespace Sys2Proof.Machine

/-! O11: what each family of commands leaves alone (R181, R183, R188, R189). -/

/-! ## What stands of the outside -/

/-- The supply, the commands waiting and the transmitter, at which no command of the families works. -/
def Outside.service (o : Outside) : Bool × List Instr × Option UpFrame × Nat × Bool × Nat :=
  (o.powered, o.pending, o.sending, o.upSequence, o.statusDue, o.statusTimer)

theorem service_kept {s t : State} (powered : s.powered = true) (same : t.outside.service = s.outside.service) :
    t.powered = true ∧ t.pending = s.pending ∧ t.ru.sending = s.ru.sending ∧ t.ru.upSequence = s.ru.upSequence
      ∧ t.ru.statusDue = s.ru.statusDue ∧ t.ru.statusTimer = s.ru.statusTimer := by
  simp only [Outside.service, Prod.mk.injEq] at same
  obtain ⟨supply, waiting, sent, sequence, due, timer⟩ := same
  exact ⟨Eq.trans supply powered, waiting, sent, sequence, due, timer⟩

/-- The end of an act adds nothing to what the act has changed of the outside. -/
theorem perform_outside {f : Act → Act} {s : State} (powered : s.powered = true) (sending : Sending s)
    (busy : (f { s }).s.ru.sending = s.ru.sending) :
    ∃ t, perform f s = .next t ∧ t.outside = (f { s }).s.outside := by
  have still : Sending (f { s }).s := by rwa [Sending, busy]
  exact ⟨_, perform_of_powered f s powered, complete_outside _ still⟩

/-- A command of which an act is known is taken, and the end of the act leaves the outside of the act. -/
theorem next_of_outside {P : Outside → Prop} {c : Instr} {s : State} (powered : s.powered = true) (sending : Sending s)
    (busy : ∀ o, P o → o.sending = s.ru.sending) (made : ∃ f, exec c s = perform f s ∧ P (f { s }).s.outside) :
    ∃ t, exec c s = .next t ∧ P t.outside := by
  obtain ⟨f, run, holds⟩ := made
  obtain ⟨t, next, same⟩ := perform_outside powered sending (busy _ holds)
  exact ⟨t, run.trans next, by rwa [same]⟩

/-- R181: what an event of the heads leaves of the outside: all but the ports, the roles, the telemetry and the clock. -/
def Outside.apartFromHeadEvents (o : Outside) : Outside := { o.apartFromHeads with now := 0 }

/-- A deadline that has come leaves all of the outside but the clock. -/
def Outside.apartFromClock (o : Outside) : Outside := { o with now := 0 }

/-- R81: the clock and the lines apart. -/
def Outside.apartFromLines (o : Outside) : Outside := { o with now := 0, inputs := Vector.replicate 12 {} }

/-- The link, the tables, the mode and the replies of the Vehicle Link. -/
def VehicleLink.held (v : VehicleLink) : VehicleLink :=
  { link := v.link, tables := v.tables, mode := v.mode, replies := v.replies }

/-- R114, R190: the clock, the Position Record and the silence of the Vehicle Link apart. -/
def Outside.apartFromPosition (o : Outside) : Outside := { o with now := 0, position := {}, vl := o.vl.held }

/-- R190: the clock and the silence of the Vehicle Link apart. -/
def Outside.apartFromSilence (o : Outside) : Outside := { o with now := 0, vl := o.vl.held }

/-! ## The heads, the roof's deadlines and the lines -/

section
variable {s : State} {c : Instr} {port : Fin 8} {line : Fin 12} {role : Role} {pan : Pan} {dev : Dev} {level : Level}
  {kind serial current n : Nat} {payload : List Byte} {fault : Bool} {samples : List Int}

theorem apartFromHeadEvents_of_heads {s t : State} (h : HeadsKept s t) :
    t.outside.apartFromHeadEvents = s.outside.apartFromHeadEvents :=
  congrArg (fun o : Outside => { o with now := 0 }) h.rest

theorem headEvent_leaves
    (family : c ∈ [Instr.headLinkLightAppears port, .headLinkLockAchieved port, .headLinkLockLost port, .headLinkLightLost port,
      .headBadFrame port, .announce port kind serial, .headStatus port payload, .cell port n fault samples current,
      .roleSilenceExpiry role]) :
    ∃ f, exec c s = perform f s ∧ (f { s }).s.outside.apartFromHeadEvents = s.outside.apartFromHeadEvents := by
  simp only [List.mem_cons, List.not_mem_nil, or_false] at family
  obtain rfl | rfl | rfl | rfl | rfl | rfl | rfl | rfl | rfl := family
  · exact ⟨_, rfl, apartFromHeadEvents_of_heads (portLight_heads port { s })⟩
  · exact ⟨_, rfl, apartFromHeadEvents_of_heads (portLock_heads port { s })⟩
  · exact ⟨_, rfl, apartFromHeadEvents_of_heads (portLockLost_heads port { s })⟩
  · exact ⟨_, rfl, apartFromHeadEvents_of_heads (portDark_heads port { s })⟩
  · exact ⟨_, rfl, apartFromHeadEvents_of_heads (portBadFrame_heads port { s })⟩
  · exact ⟨_, rfl, apartFromHeadEvents_of_heads (announce_heads port kind serial { s })⟩
  · exact ⟨_, rfl, apartFromHeadEvents_of_heads (headStatusFrame_heads port payload { s })⟩
  · exact ⟨_, rfl, apartFromHeadEvents_of_heads (cellFrame_heads port n fault samples current { s })⟩
  · refine ⟨_, rfl, ?_⟩
    cases (roleOf s role).silenceDeadline with
    | none => rfl
    | some t =>
      have lost := apartFromHeadEvents_of_heads (loseRole_heads role .silence (({ s } : Act).setNow (max s.now t)))
      exact lost.trans rfl

theorem atDeadline_leaves (deadline : Option Nat) {effect : Act → Act} (h : ∀ a, (effect a).s.outside = a.s.outside) :
    (atDeadline deadline effect { s }).s.outside.apartFromClock = s.outside.apartFromClock := by
  cases deadline with
  | none => rfl
  | some t =>
    have stands := congrArg Outside.apartFromClock (h (({ s } : Act).setNow (max s.now t)))
    exact stands.trans rfl

theorem roofDeadline_leaves
    (family : c ∈ [Instr.stageDeadlineExpiry pan, .raiseDeadlineExpiry pan, .ventGuardExpiry pan, .lowerDeadlineExpiry pan,
      .moveDeadlineExpiry dev, .holdDeadlineExpiry role, .triggerTimerExpiry, .raiseTimerExpiry, .verifyDeadlineExpiry]) :
    ∃ f, exec c s = perform f s ∧ (f { s }).s.outside.apartFromClock = s.outside.apartFromClock := by
  simp only [List.mem_cons, List.not_mem_nil, or_false] at family
  obtain rfl | rfl | rfl | rfl | rfl | rfl | rfl | rfl | rfl := family
  · exact ⟨_, rfl, atDeadline_leaves _ (nextStage_read blind_outside pan)⟩
  · exact ⟨_, rfl, atDeadline_leaves _ (raiseTimeout_read blind_outside pan)⟩
  · exact ⟨_, rfl, atDeadline_leaves _ (ventGuardOver_read blind_outside pan)⟩
  · exact ⟨_, rfl, atDeadline_leaves _ (endAtDeadline_read blind_outside pan)⟩
  · exact ⟨_, rfl, atDeadline_leaves _ (giveUpMove_read blind_outside dev)⟩
  · exact ⟨_, rfl, atDeadline_leaves _ (expireHold_read blind_outside role)⟩
  · exact ⟨_, rfl, atDeadline_leaves _ fun a => evaluateQueue_outside (routeStandby a)⟩
  · exact ⟨_, rfl, atDeadline_leaves _ testAwaitRaise_outside⟩
  · exact ⟨_, rfl, atDeadline_leaves _ (verifyTimedOut_read blind_outside)⟩

/-- R81: one line and the clock apart, the outside stands. -/
theorem OneLineMoved.apart {s t : State} (h : OneLineMoved line s t) :
    t.outside.apartFromLines = s.outside.apartFromLines
      ∧ ∀ other : Fin 12, other ≠ line → t.inputs[other] = s.inputs[other] := by
  obtain ⟨inputs, moved, kept⟩ := h
  have lines : t.inputs = inputs := congrArg Outside.inputs moved
  exact ⟨by rw [moved]; rfl, fun other apart => by rw [lines, kept other apart]⟩

theorem lineEvent_leaves (family : c ∈ [Instr.inputRawChange line level, .filterDeadlineExpiry line]) :
    ∃ f, exec c s = perform f s ∧ (f { s }).s.outside.apartFromLines = s.outside.apartFromLines
      ∧ ∀ other : Fin 12, other ≠ line → (f { s }).s.inputs[other] = s.inputs[other] := by
  simp only [List.mem_cons, List.not_mem_nil, or_false] at family
  obtain rfl | rfl := family
  · exact ⟨_, rfl, (takeRaw_oneLine line level { s }).apart⟩
  · refine ⟨_, rfl, ?_⟩
    cases s.inputs[line].deadline with
    | none => exact ⟨rfl, fun _ _ => rfl⟩
    | some t => exact (filterExpired_oneLine line (({ s } : Act).setNow (max s.now t))).apart

end

/-! ## Requests -/

theorem Served.outside {s t : State} (h : Served s t) : t.outside = { s.outside with vl := t.vl } := by rw [h.rest]; rfl

/-- A frame leaves alone what its block and the restart of the silence (R190) leave alone. -/
theorem onFrame_leaves {α : Type} (keep : Outside → α) {f : Act → Act} {s : State}
    (h : ∀ a, keep (f a).s.outside = keep a.s.outside) (blind : keep (framed s).outside = keep s.outside) :
    keep (onFrame f { s }).s.outside = keep s.outside := by
  by_cases locked : s.vl.link = .locked
  · rw [onFrame_of_locked f s locked, h, blind]
  · rw [onFrame_of_unlocked f _ locked]

/-- A request leaves alone what its owner leaves alone, and its answer joins the tail of the queue. -/
theorem request_leaves {α : Type} (keep : Outside → α) (blind : ∀ s t, Served s t → keep t.outside = keep s.outside)
    (seq code : Nat) {owner : Act → Act × Answered} (s : State) (h : ∀ a, keep (owner a).1.s.outside = keep a.s.outside)
    (queue : ∀ a, (owner a).1.s.vl.replies = a.s.vl.replies) :
    keep (request seq code owner { s }).s.outside = keep s.outside
      ∧ ∃ new, (request seq code owner { s }).s.vl.replies = s.vl.replies ++ new := by
  obtain ⟨served, -⟩ | answered := requestWith_outcome .busy seq code owner s
  · exact ⟨blind _ _ served, served.replies⟩
  · have queued := reply_served seq code (owner { s := framed s }).2 (owner { s := framed s }).1
    obtain ⟨new, joined⟩ := queued.replies
    rw [request, answered]
    exact ⟨(blind _ _ queued).trans ((h _).trans (blind _ _ (framed_served s))), new,
      joined.trans (congrArg (· ++ new) (queue _))⟩

/-- The link, the tables and the mode of the Vehicle Link stand. -/
def Outside.apartFromQueue (o : Outside) : Outside :=
  { o with vl := { link := o.vl.link, tables := o.vl.tables, mode := o.vl.mode } }

theorem Served.apartFromQueue (s t : State) (h : Served s t) : t.outside.apartFromQueue = s.outside.apartFromQueue := by
  rw [h.outside, Outside.apartFromQueue]
  simp only [h.link, h.tables, h.mode]
  rfl

section
variable {s : State} {c : Instr} {role : Role} {pan : Pan} {n seq : Nat} {payload : List Byte} {panRole : PanRole} {pans : PanChoice}
  {entries : List QueueEntry} {actions : List Action} {at' : Option Nat}

/-- An owner that leaves the outside alone leaves its request the answer alone. -/
theorem request_of_outside (code : Nat) {owner : Act → Act × Answered} (h : ∀ a, (owner a).1.s.outside = a.s.outside) :
    (request seq code owner { s }).s.outside.apartFromQueue = s.outside.apartFromQueue
      ∧ ∃ new, (request seq code owner { s }).s.vl.replies = s.vl.replies ++ new :=
  request_leaves Outside.apartFromQueue Served.apartFromQueue seq code s (fun a => congrArg Outside.apartFromQueue (h a))
    fun a => congrArg (fun o => o.vl.replies) (h a)

/-- R95: a command for a head is taken without a reply. -/
theorem headCommand_leaves (content : payload ≠ []) :
    ∃ f, exec (.headCommand seq role payload) s = perform f s
      ∧ (f { s }).s.outside.apartFromQueue = s.outside.apartFromQueue
      ∧ ∃ new, (f { s }).s.vl.replies = s.vl.replies ++ new := by
  have filled : ¬ payload.isEmpty = true := by simpa using content
  have stands := vehicleCommand_outside seq role payload
  have queue : (onFrame (vehicleCommand seq role payload) { s }).s.vl.replies = s.vl.replies :=
    onFrame_leaves (fun o => o.vl.replies) (fun a => congrArg (fun o => o.vl.replies) (stands a)) rfl
  refine ⟨onFrame (vehicleCommand seq role payload), ?_, ?_, [], queue.trans (List.append_nil _).symm⟩
  · change perform (if payload.isEmpty then vlBad else onFrame (vehicleCommand seq role payload)) s = _
    rw [if_neg filled]
  · exact onFrame_leaves Outside.apartFromQueue (fun a => congrArg Outside.apartFromQueue (stands a)) rfl

theorem roofRequest_leaves
    (family : c ∈ [Instr.panRaise seq pan panRole n, .panLower seq pans, .clearPanFault seq pan, .queueAppend seq entries,
        .markerLoad seq n actions, .queueFlush seq, .markerFlush seq n, .changeoverStart seq n at', .changeoverProceed seq,
        .changeoverAbort seq, .iceMode seq n]
      ∨ payload ≠ [] ∧ c = .headCommand seq role payload) :
    ∃ f, exec c s = perform f s ∧ (f { s }).s.outside.apartFromQueue = s.outside.apartFromQueue
      ∧ ∃ new, (f { s }).s.vl.replies = s.vl.replies ++ new := by
  obtain family | ⟨filled, rfl⟩ := family
  · simp only [List.mem_cons, List.not_mem_nil, or_false] at family
    obtain rfl | rfl | rfl | rfl | rfl | rfl | rfl | rfl | rfl | rfl | rfl := family
    · exact ⟨_, rfl, request_of_outside _ (raisePan_outside pan panRole n .pan)⟩
    · exact ⟨_, rfl, request_of_outside _ (lowerReply_outside pans)⟩
    · exact ⟨_, rfl, request_of_outside _ (clearFault_outside pan)⟩
    · exact ⟨_, rfl, request_of_outside _ (appendQueue_outside entries)⟩
    · exact ⟨_, rfl, request_of_outside _ (loadMarker_outside n actions)⟩
    · exact ⟨_, rfl, request_of_outside _ flushQueueRequest_outside⟩
    · exact ⟨_, rfl, request_of_outside _ (flushMarkerRequest_outside n)⟩
    · exact ⟨_, rfl, request_of_outside _ (startChangeover_outside n at' .vehicle)⟩
    · exact ⟨_, rfl, request_of_outside _ proceedChangeover_outside⟩
    · exact ⟨_, rfl, request_of_outside _ abortChangeover_outside⟩
    · exact ⟨_, rfl, request_of_outside _ (iceReply_outside n)⟩
  · exact headCommand_leaves filled

end

/-! ## Position, mode and tables -/

section
variable {s : State} {c : Instr} {seq id position speed quality : Nat} {bytes : List Byte}

theorem positionEvent_leaves (family : c ∈ [Instr.position position speed quality, .staleDeadlineExpiry]) :
    ∃ f, exec c s = perform f s ∧ (f { s }).s.outside.apartFromPosition = s.outside.apartFromPosition := by
  simp only [List.mem_cons, List.not_mem_nil, or_false] at family
  obtain rfl | rfl := family
  · refine ⟨_, rfl, onFrame_leaves Outside.apartFromPosition (fun a => ?_) rfl⟩
    obtain ⟨_, adopted⟩ := takePosition_outside position speed quality a
    rw [adopted]
    rfl
  · refine ⟨_, rfl, ?_⟩
    cases s.pr.position.staleDeadline <;> rfl

/-- R196: a mode request changes of the outside the mode and the queue of the replies. -/
def Outside.apartFromMode (o : Outside) : Outside := { o with vl := { link := o.vl.link, tables := o.vl.tables } }

theorem apartFromMode_of_queue {o p : Outside} (same : p.apartFromQueue = o.apartFromQueue) :
    p.apartFromMode = o.apartFromMode := by
  have stands := congrArg Outside.apartFromMode same
  exact stands

theorem modeRun_outside (a : Act) : ∃ mode, (modeRun a).1.s.outside = { a.s.outside with vl := { a.s.vl with mode } } := by
  unfold modeRun
  split
  · exact ⟨_, rfl⟩
  · split
    · exact ⟨_, rfl⟩
    · exact ⟨_, rfl⟩

theorem modeStandby_outside (a : Act) :
    ∃ mode, (modeStandby a).1.s.outside = { a.s.outside with vl := { a.s.vl with mode } } := by
  unfold modeStandby
  split
  · exact ⟨_, rfl⟩
  · exact ⟨_, rfl⟩

theorem request_of_mode (code : Nat) {owner : Act → Act × Answered}
    (h : ∀ a, ∃ mode, (owner a).1.s.outside = { a.s.outside with vl := { a.s.vl with mode } }) :
    (request seq code owner { s }).s.outside.apartFromMode = s.outside.apartFromMode
      ∧ ∃ new, (request seq code owner { s }).s.vl.replies = s.vl.replies ++ new := by
  refine request_leaves Outside.apartFromMode (fun s t served => apartFromMode_of_queue (served.apartFromQueue s t)) seq code s
    (fun a => ?_) fun a => ?_
  · obtain ⟨_, moved⟩ := h a
    rw [moved]
    rfl
  · obtain ⟨_, moved⟩ := h a
    exact congrArg (fun o => o.vl.replies) moved

theorem modeRequest_leaves (family : c ∈ [Instr.setModeRun seq, .setModeStandby seq]) :
    ∃ f, exec c s = perform f s ∧ (f { s }).s.outside.apartFromMode = s.outside.apartFromMode
      ∧ ∃ new, (f { s }).s.vl.replies = s.vl.replies ++ new := by
  simp only [List.mem_cons, List.not_mem_nil, or_false] at family
  obtain rfl | rfl := family
  · exact ⟨_, rfl, request_of_mode _ modeRun_outside⟩
  · exact ⟨_, rfl, request_of_mode _ modeStandby_outside⟩

/-- R88, R178: what a load of a table leaves of the outside: the ports and the roles but for HEAD_DIRECTORY, what each line reads,
and its latch but for INPUT_MAP. -/
def Outside.apartFromTable (id : Nat) (o : Outside) : Outside :=
  { o.apartFromLoad with
    ports := if id = 0 then Vector.replicate 8 {} else o.ports
    roles := if id = 0 then Vector.replicate 8 {} else o.roles
    inputs := if id = 4 then o.inputs.map InputRecord.reading else o.inputs
    vl := { link := o.vl.link, mode := o.vl.mode } }

theorem Served.apartFromTable (id : Nat) (s t : State) (h : Served s t) :
    t.outside.apartFromTable id = s.outside.apartFromTable id := by
  rw [h.outside, Outside.apartFromTable]
  simp only [h.link, h.mode]
  rfl

theorem LoadKept.apartFromTable {s t : State} (h : LoadKept id s t) : t.outside.apartFromTable id = s.outside.apartFromTable id := by
  have ports : (if id = 0 then Vector.replicate 8 {} else t.ports) = if id = 0 then Vector.replicate 8 {} else s.ports := by
    split
    · rfl
    · rename_i other
      exact (h.heads other).1
  have roles : (if id = 0 then Vector.replicate 8 {} else t.outside.roles) =
      if id = 0 then Vector.replicate 8 {} else s.outside.roles := by
    split
    · rfl
    · rename_i other
      exact (h.heads other).2
  have inputs : (if id = 4 then t.inputs.map InputRecord.reading else t.inputs) =
      if id = 4 then s.inputs.map InputRecord.reading else s.inputs := by
    split
    · exact h.reads
    · rename_i other
      exact h.inputs other
  exact congrArg₂ (fun (o : Outside) (lines : Vector PortRecord 8 × Vector RoleRecord 8 × Vector InputRecord 12) =>
    { o with ports := lines.1, roles := lines.2.1, inputs := lines.2.2, vl := { link := o.vl.link, mode := o.vl.mode } })
    h.rest (congr (congrArg Prod.mk ports) (congr (congrArg Prod.mk roles) inputs))

theorem request_of_load (code : Nat) {owner : Act → Act × Answered} (h : ∀ a, LoadKept id a.s (owner a).1.s) :
    (request seq code owner { s }).s.outside.apartFromTable id = s.outside.apartFromTable id
      ∧ ∃ new, (request seq code owner { s }).s.vl.replies = s.vl.replies ++ new :=
  request_leaves (Outside.apartFromTable id) (Served.apartFromTable id) seq code s (fun a => (h a).apartFromTable)
    fun a => congrArg (fun o => o.vl.replies) (h a).rest

theorem loadRequest_leaves
    (family : c ∈ [Instr.loadTableFirst seq id bytes, .loadTableMiddle seq id bytes, .loadTableLast seq id bytes,
      .loadTableOnly seq id bytes]) :
    ∃ f, exec c s = perform f s ∧ (f { s }).s.outside.apartFromTable id = s.outside.apartFromTable id
      ∧ ∃ new, (f { s }).s.vl.replies = s.vl.replies ++ new := by
  simp only [List.mem_cons, List.not_mem_nil, or_false] at family
  obtain rfl | rfl | rfl | rfl := family
  · exact ⟨_, rfl, request_of_load _ (loadFirst_load id bytes)⟩
  · exact ⟨_, rfl, request_of_load _ (loadMiddle_load id bytes)⟩
  · exact ⟨_, rfl, request_of_load _ (loadLast_load id bytes)⟩
  · exact ⟨_, rfl, request_of_load _ (loadOnly_load id bytes)⟩

end

end Sys2Proof.Machine

namespace Sys2Proof.Machine

/-! ## The receiver of the Vehicle Link and its silence (R188, R190) -/

/-- Of the whole act the Link Record alone has changed, and of the Vehicle Link neither the tables, the mode, the replies nor a
pending RESTART. -/
structure LinkMoved (a b : Act) : Prop where
  rest : b = { a with s := { a.s with vl := b.s.vl } }
  tables : b.s.vl.tables = a.s.vl.tables
  mode : b.s.vl.mode = a.s.vl.mode
  replies : b.s.vl.replies = a.s.vl.replies
  restart : b.s.vl.restartPending = a.s.vl.restartPending

theorem LinkMoved.refl (a : Act) : LinkMoved a a := ⟨rfl, rfl, rfl, rfl, rfl⟩

theorem vlLight_moved (a : Act) : LinkMoved a (vlLight a) := by
  unfold vlLight
  split
  · exact ⟨rfl, rfl, rfl, rfl, rfl⟩
  · exact .refl a

theorem vlLock_moved (a : Act) : LinkMoved a (vlLock a) := by
  unfold vlLock
  split
  · exact ⟨rfl, rfl, rfl, rfl, rfl⟩
  · exact .refl a

theorem vlUnlock_moved (a : Act) : LinkMoved a (vlUnlock a) := by
  unfold vlUnlock
  split
  · exact ⟨rfl, rfl, rfl, rfl, rfl⟩
  · exact .refl a

theorem vlDark_moved (a : Act) : LinkMoved a (vlDark a) := ⟨rfl, rfl, rfl, rfl, rfl⟩

theorem vlBad_moved (a : Act) : LinkMoved a (vlBad a) := by
  unfold vlBad
  split
  · refine ⟨rfl, ?_, ?_, ?_, ?_⟩ <;> rw [Act.modVl_vl] <;> dsimp only <;> split <;> rfl
  · exact .refl a

section
variable {s : State} {c : Instr}

/-- An event that tells no block and leaves the transmitter busy ends with its act. -/
theorem perform_of_still {f : Act → Act} (powered : s.powered = true) (sending : Sending s) (quiet : (f { s }).notes = [])
    (busy : (f { s }).s.ru.sending = s.ru.sending) : perform f s = .next (f { s }).s :=
  perform_of_quiet f s powered quiet (by rwa [Sending, busy])

theorem receiverEvent_leaves (family : c ∈ [Instr.vlLightAppears, .vlLockAchieved, .vlLockLost, .vlLightLost, .vlBadFrame]) :
    ∃ f, exec c s = perform f s ∧ LinkMoved { s } (f { s }) := by
  simp only [List.mem_cons, List.not_mem_nil, or_false] at family
  obtain rfl | rfl | rfl | rfl | rfl := family
  · exact ⟨_, rfl, vlLight_moved { s }⟩
  · exact ⟨_, rfl, vlLock_moved { s }⟩
  · exact ⟨_, rfl, vlUnlock_moved { s }⟩
  · exact ⟨_, rfl, vlDark_moved { s }⟩
  · exact ⟨_, rfl, vlBad_moved { s }⟩

theorem vlSilent_outside (a : Act) : (vlSilent a).s.outside.apartFromSilence = a.s.outside.apartFromSilence := by
  unfold vlSilent
  dsimp only
  split <;> rfl

theorem silenceExpiry_leaves :
    ∃ f, exec .vlSilenceExpiry s = perform f s ∧ (f { s }).s.outside.apartFromSilence = s.outside.apartFromSilence := by
  refine ⟨_, rfl, ?_⟩
  cases s.vl.silenceDeadline with
  | none => rfl
  | some t => exact (vlSilent_outside (({ s } : Act).setNow (max s.now t))).trans rfl

end

/-! ## The event latches and the counts (R89, R90, R199) -/

section
variable {s : State} {line : Fin 12} {seq : Nat}

/-- R81 to R84: what a reader of a line finds. -/
theorem line_of_reading {s t : State} (same : t.inputs.map InputRecord.reading = s.inputs.map InputRecord.reading)
    (line : Fin 12) :
    t.inputs[line].raw = s.inputs[line].raw ∧ t.inputs[line].filtered = s.inputs[line].filtered
      ∧ t.inputs[line].deadline = s.inputs[line].deadline ∧ t.inputs[line].bounce = s.inputs[line].bounce := by
  have here := congrArg (fun lines : Vector InputRecord 12 => lines[line]) same
  simp only [Fin.getElem_fin, Vector.getElem_map, InputRecord.reading, InputRecord.mk.injEq, and_true] at here
  exact here

theorem inputs_of_apartFromTable {id : Nat} {t : State} (same : t.outside.apartFromTable id = s.outside.apartFromTable id)
    (other : id ≠ 4) : t.inputs = s.inputs := by
  have inputs := congrArg Outside.inputs same
  simp only [Outside.apartFromTable, if_neg other] at inputs
  exact inputs

theorem reading_of_apartFromTable {id : Nat} {t : State} (same : t.outside.apartFromTable id = s.outside.apartFromTable id) :
    t.inputs.map InputRecord.reading = s.inputs.map InputRecord.reading := by
  by_cases map : id = 4
  · have lines := congrArg Outside.inputs same
    simp only [Outside.apartFromTable, if_pos map] at lines
    exact lines
  · rw [inputs_of_apartFromTable same map]

theorem heads_of_apartFromTable {id : Nat} {t : State} (same : t.outside.apartFromTable id = s.outside.apartFromTable id)
    (other : id ≠ 0) :
    t.ports = s.ports ∧ ∀ role, (roleOf t role).presence = (roleOf s role).presence
      ∧ (roleOf t role).silenceDeadline = (roleOf s role).silenceDeadline
      ∧ (roleOf t role).lastForwarded = (roleOf s role).lastForwarded := by
  have ports := congrArg Outside.ports same
  have roles := congrArg Outside.roles same
  simp only [Outside.apartFromTable, if_neg other] at ports roles
  exact ⟨ports, presences_of_outside roles⟩

/-- A request whose owner tells no block: what the envelope and the owner keep is kept. -/
theorem quietRequest_next {P : State → State → Prop} (code : Nat) {owner : Act → Act × Answered} (powered : s.powered = true)
    (sending : Sending s) (quiet : ∀ a, (owner a).1.notes = a.notes) (busy : ∀ a, (owner a).1.s.ru.sending = a.s.ru.sending)
    (served : ∀ s t, Served s t → P s t) (trans : ∀ s t u, P s t → P t u → P s u) (h : ∀ a, P a.s (owner a).1.s) :
    ∃ t, perform (request seq code owner) s = .next t ∧ P s t := by
  obtain ⟨kept, silent⟩ | answered := requestWith_outcome .busy seq code owner s
  · have still : (requestWith .busy seq code owner { s }).s.ru.sending = s.ru.sending := by rw [kept.rest]
    exact ⟨_, perform_of_still powered sending silent still, served _ _ kept⟩
  · have asked : P s (reply seq code (owner { s := framed s }).2 (owner { s := framed s }).1).s :=
      trans _ _ _ (served _ _ (framed_served s)) (trans _ _ _ (h { s := framed s }) (served _ _ (reply_served seq code _ _)))
    have made : request seq code owner { s } = _ := answered
    refine ⟨_, perform_of_still powered sending ?_ ?_, by rwa [made]⟩
    · rw [made]
      exact quiet _
    · rw [made]
      exact busy _

/-- R89, R90: the Link Record, the Reply Queue and the latch of one line apart, the whole state stands. -/
structure LatchAsked (line : Fin 12) (s t : State) : Prop where
  rest : t = { s with vl := t.vl, inputs := t.inputs }
  link : t.vl.link = s.vl.link ∧ t.vl.tables = s.vl.tables
  mode : t.vl.mode = s.vl.mode
  reads : t.inputs.map InputRecord.reading = s.inputs.map InputRecord.reading
  replies : ∃ new, t.vl.replies = s.vl.replies ++ new
  others : ∀ other : Fin 12, other ≠ line → t.inputs[other] = s.inputs[other]

theorem LatchAsked.of_served (s t : State) (h : Served s t) : LatchAsked line s t := by
  have lines : t.inputs = s.inputs := by rw [h.rest]
  have rest : t = { s with vl := t.vl, inputs := t.inputs } := by rw [lines]; exact h.rest
  exact ⟨rest, ⟨h.link, h.tables⟩, h.mode, by rw [lines], h.replies, fun _ _ => by rw [lines]⟩

theorem LatchAsked.of_moved {a b : Act} (h : LatchMoved line.val a b) : LatchAsked line a.s b.s := by
  have rest : b.s = { a.s with inputs := b.s.inputs } := congrArg Act.s h.rest
  have link : b.s.vl = a.s.vl := by rw [rest]
  refine ⟨by rw [link]; exact rest, by simp [link], by rw [link], h.reads, ⟨[], by simp [link]⟩,
    fun other apart => h.others other fun same => apart (Fin.ext same)⟩

theorem LatchAsked.trans (s t u : State) (h : LatchAsked line s t) (g : LatchAsked line t u) : LatchAsked line s u where
  rest := g.rest.trans (by rw [h.rest])
  link := ⟨g.link.1.trans h.link.1, g.link.2.trans h.link.2⟩
  mode := g.mode.trans h.mode
  reads := g.reads.trans h.reads
  replies := joined_trans h.replies g.replies
  others other apart := (g.others other apart).trans (h.others other apart)

theorem latchRequest_next (code : Nat) {owner : Act → Act × Answered} (powered : s.powered = true) (sending : Sending s)
    (h : ∀ a, LatchMoved line.val a (owner a).1) :
    ∃ t, perform (request seq code owner) s = .next t ∧ LatchAsked line s t :=
  quietRequest_next code powered sending (fun a => by rw [(h a).rest]) (fun a => by rw [(h a).rest])
    LatchAsked.of_served LatchAsked.trans fun a => .of_moved (h a)

theorem latchEvent_next {c : Instr} (powered : s.powered = true) (sending : Sending s)
    (family : c ∈ [Instr.inputArm seq line.val, .inputClear seq line.val]) : ∃ t, exec c s = .next t ∧ LatchAsked line s t := by
  simp only [List.mem_cons, List.not_mem_nil, or_false] at family
  obtain rfl | rfl := family
  · exact latchRequest_next _ powered sending (armLine_latch line.val)
  · exact latchRequest_next _ powered sending (clearReply_latch line.val)

/-- R199: the records that hold the counts apart, the whole state stands; of those records all but the counts, where another block
reads them. -/
structure CountsAsked (s t : State) : Prop where
  rest : t = { s with vl := t.vl, lm := t.lm, inputs := t.inputs, ports := t.ports, roles := t.roles, pr := t.pr }
  roles : t.outside.roles = s.outside.roles
  link : t.vl.link = s.vl.link ∧ t.vl.tables = s.vl.tables
  mode : t.vl.mode = s.vl.mode
  replies : ∃ new, t.vl.replies = s.vl.replies ++ new
  ports : ∀ port : Fin 8, t.ports[port].link = s.ports[port].link ∧ t.ports[port].kind = s.ports[port].kind

theorem CountsAsked.of_served (s t : State) (h : Served s t) : CountsAsked s t := by
  rw [h.rest]
  exact ⟨rfl, rfl, ⟨h.link, h.tables⟩, h.mode, h.replies, fun _ => ⟨rfl, rfl⟩⟩

theorem CountsAsked.trans (s t u : State) (h : CountsAsked s t) (g : CountsAsked t u) : CountsAsked s u where
  rest := g.rest.trans (by rw [h.rest])
  roles := g.roles.trans h.roles
  link := ⟨g.link.1.trans h.link.1, g.link.2.trans h.link.2⟩
  mode := g.mode.trans h.mode
  replies := joined_trans h.replies g.replies
  ports port := ⟨(g.ports port).1.trans (h.ports port).1, (g.ports port).2.trans (h.ports port).2⟩

theorem clearCounts_asked (a : Act) : CountsAsked a.s (clearCounts a).1.s where
  rest := rfl
  roles := by simp [clearCounts, State.outside, RoleRecord.presenceOnly]
  link := ⟨rfl, rfl⟩
  mode := rfl
  replies := ⟨[], (List.append_nil _).symm⟩
  ports port := by simp [clearCounts]

theorem clearCounters_next (powered : s.powered = true) (sending : Sending s) :
    ∃ t, exec (.clearCounters seq) s = .next t ∧ CountsAsked s t :=
  quietRequest_next _ powered sending (fun _ => rfl) (fun _ => rfl) CountsAsked.of_served CountsAsked.trans clearCounts_asked

end

/-- Settles O11: each family is an act that leaves its reading of the outside as it was (`headEvent_leaves`, `roofRequest_leaves`
and the like), and the end of an act, with the transmitter busy, adds nothing to it (`perform_outside`). Events that tell no block
end with their act. -/
theorem commandsLeaveOtherBlocksAlone : Obligations.CommandsLeaveOtherBlocksAlone := by
  refine ⟨fun s c port line role pan dev level kind serial current n payload fault samples powered sending => ?_,
    fun s c line seq id position speed quality bytes powered sending => ?_⟩
  · refine ⟨fun family => ?_, fun family => ?_, fun family => ?_, fun seq panRole pans entries actions at' family => ?_⟩
    · obtain ⟨t, next, stands⟩ := next_of_outside (P := fun o => o.apartFromHeadEvents = s.outside.apartFromHeadEvents)
        powered sending (fun o same => congrArg Outside.sending same) (headEvent_leaves family)
      obtain ⟨on, waiting, transmitter⟩ := service_kept (t := t) powered (congrArg Outside.service stands :)
      exact ⟨t, next, ⟨on, waiting, congrArg Outside.position stands, transmitter⟩, congrArg Outside.vl stands,
        congrArg Outside.inputs stands⟩
    · obtain ⟨t, next, stands⟩ := next_of_outside (P := fun o => o.apartFromClock = s.outside.apartFromClock)
        powered sending (fun o same => congrArg Outside.sending same) (roofDeadline_leaves family)
      obtain ⟨on, waiting, transmitter⟩ := service_kept (t := t) powered (congrArg Outside.service stands :)
      exact ⟨t, next, ⟨on, waiting, congrArg Outside.position stands, transmitter⟩, congrArg Outside.vl stands,
        congrArg Outside.inputs stands, congrArg Outside.ports stands, presences_of_outside (congrArg Outside.roles stands :)⟩
    · obtain ⟨t, next, stands, others⟩ := next_of_outside
        (P := fun o => o.apartFromLines = s.outside.apartFromLines
          ∧ ∀ other : Fin 12, other ≠ line → o.inputs[other] = s.inputs[other])
        powered sending (fun o same => congrArg Outside.sending same.1) (lineEvent_leaves family)
      obtain ⟨on, waiting, transmitter⟩ := service_kept (t := t) powered (congrArg Outside.service stands :)
      exact ⟨t, next, ⟨on, waiting, congrArg Outside.position stands, transmitter⟩, congrArg Outside.vl stands,
        congrArg Outside.ports stands, presences_of_outside (congrArg Outside.roles stands :), others⟩
    · obtain ⟨t, next, stands, replies⟩ := next_of_outside
        (P := fun o => o.apartFromQueue = s.outside.apartFromQueue ∧ ∃ new, o.vl.replies = s.vl.replies ++ new)
        powered sending (fun o same => congrArg Outside.sending same.1) (roofRequest_leaves family)
      obtain ⟨on, waiting, transmitter⟩ := service_kept (t := t) powered (congrArg Outside.service stands :)
      exact ⟨t, next, ⟨on, waiting, congrArg Outside.position stands, transmitter⟩, congrArg Outside.ports stands,
        congrArg Outside.inputs stands, congrArg Outside.now stands, presences_of_outside (congrArg Outside.roles stands :),
        congrArg (fun o => o.vl.tables) stands, congrArg (fun o => o.vl.mode) stands, congrArg (fun o => o.vl.link) stands, replies⟩
  · refine ⟨fun family => ?_, fun family => ?_, fun family => ?_, fun family => ?_, fun family => ?_, fun family => ?_,
      fun family => ?_⟩
    · obtain ⟨t, next, stands⟩ := next_of_outside (P := fun o => o.apartFromPosition = s.outside.apartFromPosition)
        powered sending (fun o same => congrArg Outside.sending same) (positionEvent_leaves family)
      exact ⟨t, next, service_kept powered (congrArg Outside.service stands :),
        ⟨congrArg Outside.ports stands, presences_of_outside (congrArg Outside.roles stands :)⟩, congrArg Outside.inputs stands,
        ⟨congrArg (fun o => o.vl.link) stands, congrArg (fun o => o.vl.tables) stands⟩, congrArg (fun o => o.vl.mode) stands,
        congrArg (fun o => o.vl.replies) stands⟩
    · obtain ⟨t, next, stands, replies⟩ := next_of_outside
        (P := fun o => o.apartFromMode = s.outside.apartFromMode ∧ ∃ new, o.vl.replies = s.vl.replies ++ new)
        powered sending (fun o same => congrArg Outside.sending same.1) (modeRequest_leaves family)
      exact ⟨t, next, service_kept powered (congrArg Outside.service stands :),
        ⟨congrArg Outside.ports stands, presences_of_outside (congrArg Outside.roles stands :)⟩, congrArg Outside.inputs stands,
        ⟨congrArg (fun o => o.vl.link) stands, congrArg (fun o => o.vl.tables) stands⟩, congrArg Outside.position stands,
        congrArg Outside.now stands, replies⟩
    · obtain ⟨t, next, stands, replies⟩ := next_of_outside
        (P := fun o => o.apartFromTable id = s.outside.apartFromTable id ∧ ∃ new, o.vl.replies = s.vl.replies ++ new)
        powered sending (fun o same => congrArg Outside.sending same.1) (loadRequest_leaves family)
      exact ⟨t, next, service_kept powered (congrArg Outside.service stands :), congrArg Outside.position stands,
        congrArg Outside.now stands, congrArg (fun o => o.vl.mode) stands, congrArg (fun o => o.vl.link) stands,
        line_of_reading (reading_of_apartFromTable stands), replies, heads_of_apartFromTable stands, inputs_of_apartFromTable stands⟩
    · obtain ⟨f, run, moved⟩ := receiverEvent_leaves (s := s) family
      refine ⟨_, run.trans (perform_of_still powered sending (by rw [moved.rest]) (by rw [moved.rest])), ?_, moved.tables,
        moved.mode, moved.replies, moved.restart⟩
      exact congrArg Act.s moved.rest
    · obtain rfl := family
      obtain ⟨t, next, stands⟩ := next_of_outside (P := fun o => o.apartFromSilence = s.outside.apartFromSilence)
        powered sending (fun o same => congrArg Outside.sending same) silenceExpiry_leaves
      exact ⟨t, next, service_kept powered (congrArg Outside.service stands :),
        ⟨congrArg Outside.ports stands, presences_of_outside (congrArg Outside.roles stands :)⟩, congrArg Outside.inputs stands,
        ⟨congrArg (fun o => o.vl.link) stands, congrArg (fun o => o.vl.tables) stands⟩, congrArg (fun o => o.vl.mode) stands,
        congrArg (fun o => o.vl.replies) stands, congrArg Outside.position stands⟩
    · obtain ⟨t, next, kept⟩ := latchEvent_next powered sending family
      exact ⟨t, next, kept.rest, kept.link, kept.mode, line_of_reading kept.reads, kept.replies, kept.others⟩
    · obtain rfl := family
      obtain ⟨t, next, kept⟩ := clearCounters_next powered sending
      exact ⟨t, next, ⟨rfl, presences_of_outside kept.roles⟩, kept.link, kept.mode, kept.replies, kept.rest, kept.ports⟩

end Sys2Proof.Machine

namespace Sys2Proof.Machine

/-! O2: the clock of the idle step, and a deadline that does not run (assumption logs 1, 2, 4). -/

theorem mem_dueNow (s : State) (t : Nat) (c : Instr) :
    (t, c) ∈ dueNow s ↔ (t, c) ∈ deadlines s ∧ t ≤ s.now ∧ ∀ y ∈ deadlines s, t ≤ y.1 := by
  simp only [dueNow, List.mem_filter, List.all_eq_true, decide_eq_true_eq, and_assoc]
  refine and_congr_right fun _ => and_congr_right fun due => ⟨fun earliest y runs => ?_, fun earliest y runs => earliest y runs.1⟩
  obtain come | ahead := le_or_gt y.1 s.now
  · exact earliest y ⟨runs, come⟩
  · exact due.trans ahead.le

theorem step_of_empty {s : State} (queue : s.pending = []) : step s = .next (idle s) := by
  unfold step
  rw [queue]

theorem idle_of_unpowered {s : State} (off : s.powered = false) : idle s = s := by simp [idle, off]

theorem pickOrder_nil {α : Type} (goesWith : α → α → Bool) (fuel : Nat) (choices : List Nat) :
    pickOrder goesWith fuel choices [] = ([], choices) := by
  cases fuel with
  | zero => rfl
  | succ fuel => cases choices <;> rfl

theorem idle_of_none_due {s : State} (powered : s.powered = true) (none : dueNow s = []) :
    idle s = { s with now := s.now + 1 } := by
  rw [idle, if_pos powered, none, pickOrder_nil]

theorem idle_of_due {s : State} (powered : s.powered = true) (due : dueNow s ≠ []) :
    ∃ t c cs, (t, c) ∈ dueNow s ∧ idle s = { s with pending := [c], choices := cs } := by
  obtain ⟨first, rest, run⟩ := List.exists_cons_of_ne_nil due
  obtain ⟨⟨t, c⟩, others, cs, picked, perm⟩ := pickOrder_one_perm (fun x y => x == y) beq_self_eq_true s.choices first rest
  refine ⟨t, c, cs, ?_, ?_⟩
  · rw [run]
    exact perm.subset List.mem_cons_self
  · rw [idle, if_pos powered, run, picked]

/-- The expiry of a deadline that does not run changes nothing. -/
theorem perform_of_absent {deadline : Option Nat} {s : State} (effect : Act → Act) (sending : Sending s) (absent : deadline = none) :
    perform (atDeadline deadline effect) s = .next s := by
  subst absent
  cases powered : s.powered with
  | false => exact perform_of_unpowered _ s powered
  | true => exact perform_of_quiet (atDeadline none effect) s powered rfl sending

/-- Settles O2: an empty queue takes the idle step, whose pick is one of the deadlines that are due (`idle_of_due`), and a deadline
that does not run has no effect (`perform_of_absent`). -/
theorem clockRunsAndAbsentDeadlinesStand : Obligations.ClockRunsAndAbsentDeadlinesStand := by
  refine ⟨fun s queue => ⟨fun off => ?_, fun powered none => ?_, fun powered due => ?_, mem_dueNow s⟩, fun s sending =>
    ⟨fun role absent => perform_of_absent _ sending absent, fun p absent => perform_of_absent _ sending absent,
      fun p absent => perform_of_absent _ sending absent, fun p absent => perform_of_absent _ sending absent,
      fun p absent => perform_of_absent _ sending absent, fun d absent => perform_of_absent _ sending (by rw [absent]; rfl),
      fun line absent => perform_of_absent _ sending absent, fun role absent => perform_of_absent _ sending (by rw [absent]; rfl),
      perform_of_absent _ sending, perform_of_absent _ sending, perform_of_absent _ sending, perform_of_absent _ sending,
      perform_of_absent _ sending⟩⟩
  · rw [step_of_empty queue, idle_of_unpowered off]
  · rw [step_of_empty queue, idle_of_none_due powered none]
  · obtain ⟨t, c, cs, mem, next⟩ := idle_of_due powered due
    exact ⟨t, c, cs, mem, by rw [step_of_empty queue, next]⟩

end Sys2Proof.Machine
